-- ==== Sys2Proof/Word.lean ====
section
/-! DEFINITION. The FK448's plainest data: bytes, big-endian numbers, tables of a fixed number of like things, and a sort.

The part's quantities are whole numbers (00_scope.md, section 4.1), so they are `Nat`; a bit vector stands only for what the
manual treats as bits: converter codes, map bases and masks, and bytes on a wire. -/

namespace Sys2Proof

/-- A byte on one of the part's serial interfaces. -/
abbrev Byte := BitVec 8

/-- The low eight bits of a number, as a byte. -/
def byteOf (n : Nat) : Byte := BitVec.ofNat 8 n

/-- `n` in `k` bytes, high byte first (R171, R190). -/
def bigEndian : Nat → Nat → List Byte
  | 0, _ => []
  | k + 1, n => byteOf (n / 256 ^ k) :: bigEndian k n

/-- The number that a list of bytes spells, high byte first (R171, R190). -/
def fromBytes (bs : List Byte) : Nat := bs.foldl (fun acc b => acc * 256 + b.toNat) 0

/-- A fixed number `n` of like things, numbered from 0: load points, zones, slots, slices. -/
structure Table (n : Nat) (α : Type) where
  /-- The entries in ascending number. -/
  items : List α
  /-- There is one entry for each number. -/
  size : items.length = n
  deriving DecidableEq, Repr

/-- The entry with number `i`. -/
def Table.get {n : Nat} {α : Type} (t : Table n α) (i : Fin n) : α :=
  t.items[i.val]'(by rw [t.size]; exact i.isLt)

/-- The table with entry `i` replaced. -/
def Table.set {n : Nat} {α : Type} (t : Table n α) (i : Fin n) (a : α) : Table n α :=
  ⟨t.items.set i.val a, by rw [List.length_set]; exact t.size⟩

/-- The table with entry `i` changed by `f`. -/
def Table.modify {n : Nat} {α : Type} (t : Table n α) (i : Fin n) (f : α → α) : Table n α :=
  t.set i (f (t.get i))

/-- The table whose entry `i` is `f i`. -/
def Table.build {α : Type} (n : Nat) (f : Fin n → α) : Table n α :=
  ⟨(List.finRange n).map f, by simp⟩

/-- The table that holds `a` everywhere. -/
def Table.fill {α : Type} (n : Nat) (a : α) : Table n α :=
  ⟨List.replicate n a, by simp⟩

/-- Every entry changed by `f`. -/
def Table.map {n : Nat} {α β : Type} (t : Table n α) (f : α → β) : Table n β :=
  ⟨t.items.map f, by rw [List.length_map]; exact t.size⟩

/-- Put `a` into a sorted list, behind every entry that stands before it. -/
def insertSorted {α : Type} (before : α → α → Bool) (a : α) : List α → List α
  | [] => [a]
  | b :: bs => if before a b then a :: b :: bs else b :: insertSorted before a bs

/-- A list in the order that `before` gives. -/
def sortBy {α : Type} (before : α → α → Bool) : List α → List α
  | [] => []
  | a :: as => insertSorted before a (sortBy before as)

/-- The quotient rounded up: "ceil" of 00_scope.md, section 4.1. -/
def ceilDiv (a b : Nat) : Nat := (a + b - 1) / b

/-- A value brought into a range (the CLAMPED of 00_scope.md, section 4.4). -/
def clampTo (lo hi v : Nat) : Nat := max lo (min hi v)

/-- Counting with a ceiling: a count that stays at `top` once there. -/
def saturate (top n : Nat) : Nat := min top (n + 1)

end Sys2Proof
end

