-- ==== Sys2Proof/Syntax.lean ====
section
/-! DEFINITION. The commands of the FK448: one constructor of `Instr` for each row of spec/opcode_table.json.

The rows are of four sorts: the commands of the four ports (11_command_ports.md, section 11.4), the other transactions of a
port (R181), the events of the field side, the pager link and the part's own timers, and the resets (R192). An operand that
comes over a port is a plain number as its payload bytes spell it, in or out of its range, because the range check is the
command's own (R181, step 4). An operand of an event the part itself makes is of the type of the thing it names. -/

namespace Sys2Proof

/-- Ports A to D are 0 to 3 (R190). -/
abbrev PortId := Fin 4
/-- Load points LP0 to LP47. -/
abbrev LoadId := Fin 48
/-- Zones Z0 to Z31. -/
abbrev ZoneId := Fin 32
/-- Sensor channels S0 to S31. -/
abbrev ChannelId := Fin 32
/-- Ware kinds K0 to K7. -/
abbrev WareId := Fin 8
/-- Course slots 0 to 15. -/
abbrev CourseId := Fin 16
/-- Staff roster entries 0 to 63. -/
abbrev EntryId := Fin 64
/-- Page ids 0 to 255. -/
abbrev PageId := Fin 256

/-- One transaction of a port that carries a well-formed request (R181). -/
structure Transfer where
  /-- The port whose chip select rose. -/
  port : PortId
  /-- All the bytes clocked in the transaction: code, length, payload and fill. -/
  clocked : Nat
  /-- Whether the payload length is one that the command carries (R181, step 3; R190). -/
  lengthOk : Bool
  deriving DecidableEq, Repr

/-- The items that ZONE_DEFINE carries (R60), in the order of the rule. -/
structure ZoneSettings where
  zone : Nat
  kind : Nat
  channel : Nat
  loads : List Nat
  level : Nat
  group : Nat
  setpoint : Nat
  fallback : Nat
  standby : Nat
  band : Nat
  tolerance : Nat
  soakTime : Nat
  margin : Nat
  recoverLimit : Nat
  deriving DecidableEq, Repr

/-- The items that LINE_CONFIG carries (R99), in the order of the rule. -/
structure LineSettings where
  wash : Nat
  booster : Nat
  washThreshold : Nat
  rinseThreshold : Nat
  enterPolarity : Nat
  exitPolarity : Nat
  outPolarity : Nat
  group : Nat
  deriving DecidableEq, Repr

/-- The three event lines of the dish machine (06_the_dish_line.md, section 6.2). -/
inductive EventLine where
  | rinseEnter
  | rinseExit
  | rackOut
  deriving DecidableEq, Repr

/-- Why a received message is garbled (R172). -/
inductive GarbleCause where
  | badType
  | badCheck
  | framingError
  deriving DecidableEq, Repr

/-- The commands, one constructor for each row of spec/opcode_table.json. -/
inductive Instr where
  -- The command ports' own commands (11_command_ports.md)
  | nop (t : Transfer)
  | status (t : Transfer)
  | readNotice (t : Transfer)
  | clockSet (t : Transfer) (seconds : Nat)
  | superviseSet (t : Transfer) (interval : Nat)
  -- Load points and the class map (01)
  | loadSet (t : Transfer) (load rating : Nat)
  | loadQuery (t : Transfer) (load : Nat)
  | mapFixed (t : Transfer) (entry cls : Nat)
  | mapWindow (t : Transfer) (window base mask cls valid : Nat)
  | mapDefault (t : Transfer) (cls : Nat)
  | mapEnable (t : Transfer) (mapOn fixedOn : Nat)
  | mapQuery (t : Transfer) (load : Nat)
  -- The allocation frame (02) and feed supervision (03)
  | frameSet (t : Transfer) (length : Nat)
  | feedLimit (t : Transfer) (limit : Nat)
  | shedLevel (t : Transfer) (level : Nat)
  | frameQuery (t : Transfer)
  | feedConfig (t : Transfer) (sag restore debounce wait : Nat)
  | feedQuery (t : Transfer)
  -- Sensor channels and heat zones (04)
  | sensorQuery (t : Transfer) (channel : Nat)
  | zoneDefine (t : Transfer) (z : ZoneSettings)
  | zoneSetpoint (t : Transfer) (zone setpoint fallback standby : Nat)
  | zoneStart (t : Transfer) (zone : Nat)
  | zoneStop (t : Transfer) (zone : Nat)
  | zonePause (t : Transfer) (zone : Nat)
  | zoneResume (t : Transfer) (zone : Nat)
  | zoneClear (t : Transfer) (zone : Nat)
  | zoneQuery (t : Transfer) (zone : Nat)
  -- Oven programs (05)
  | programStep (t : Transfer) (zone slot setpoint soak duration action : Nat)
  | programLoad (t : Transfer) (zone count hold : Nat)
  | programRun (t : Transfer) (zone : Nat)
  | programAdvance (t : Transfer) (zone : Nat)
  | programAbort (t : Transfer) (zone : Nat)
  | programQuery (t : Transfer) (zone : Nat)
  -- The dish line (06)
  | lineConfig (t : Transfer) (l : LineSettings)
  | rackLoad (t : Transfer) (tag kind count : Nat)
  | linePurge (t : Transfer)
  | lineQuery (t : Transfer)
  | rackQuery (t : Transfer) (position : Nat)
  -- Ware stock and restocking (07)
  | wareDefine (t : Transfer) (kind stock : Nat)
  | wareAdjust (t : Transfer) (kind location zone : Nat) (amount : Int)
  | wareReturn (t : Transfer) (kind number : Nat)
  | wareQuery (t : Transfer) (kind : Nat)
  | cabinetSet (t : Transfer) (zone kind capacity low high : Nat)
  | cabinetQuery (t : Transfer) (zone : Nat)
  | restockConfirm (t : Transfer) (zone number : Nat)
  | restockQuery (t : Transfer)
  -- Banquet courses (08)
  | courseFire (t : Transfer) (room kind covers group : Nat) (cabinets : List Nat)
  | coursePlated (t : Transfer) (course number : Nat)
  | courseClose (t : Transfer) (course : Nat)
  | courseQuery (t : Transfer) (course : Nat)
  -- Staff roster and paging (09)
  | staffSet (t : Transfer) (entry address role group : Nat)
  | staffDuty (t : Transfer) (entry setting : Nat)
  | staffQuery (t : Transfer) (entry : Nat)
  | pageSend (t : Transfer) (role group closure code object : Nat)
  | pageDone (t : Transfer) (page : Nat)
  | pageLevels (t : Transfer) (g0 g1 g2 g3 g4 g5 : Nat)
  | pageTiming (t : Transfer) (setting : Nat)
  | pageQuery (t : Transfer) (page : Nat)
  -- The pager link's query (10)
  | linkQuery (t : Transfer)
  -- The other transactions of a port (R181, R182)
  | readTransaction (port : PortId) (clocked : Nat)
  | frameError (port : PortId) (clocked : Nat)
  | unknown (port : PortId) (clocked : Nat)
  -- Timers and the Time Base
  | supervisionTimerExpiry (port : PortId)
  | kitchenClockAdvance
  | sliceAdvance
  | frameBoundary
  | feedConversion (code : BitVec 12)
  | waitTimerExpiry
  | sensorConversion (code : BitVec 12)
  | soakTimerExpiry (zone : ZoneId)
  | recoverTimerLimit (zone : ZoneId)
  | standbyTimerExpiry (zone : ZoneId)
  | stepTimerExpiry (zone : ZoneId)
  -- The event lines (06)
  | rinseEnter
  | rinseExit
  | rackOut
  -- The arbiter's grants (R161) and the pager link (10)
  | offer
  | reOffer
  | cancel
  | transmitComplete
  | sent (page : PageId)
  | unreachable (page : PageId)
  | ack (page : PageId) (address answer : Nat)
  | alive
  | garbledMessage (cause : GarbleCause)
  | receiveGap
  | ackTimerExpiry (page : PageId)
  | responseTimerExpiry
  | probeTimerExpiry
  -- Resets (R192) and the sample of an event line (R98)
  | powerOnReset
  | pinReset
  | leaveReset (straps : Table 4 (Fin 4)) (selected : Table 4 Bool)
  | lineLevelChange (line : EventLine)
  deriving DecidableEq, Repr

end Sys2Proof
end

