-- ==== Sys2Proof/Decode.lean ====
section
/-! DEFINITION. From bytes to commands, and back.

No row of spec/opcode_table.json has bits, so `decodeTableWord` answers none. What the manual does lay out in bytes is decoded
here: a port's transaction (R181, R182, R190), with an encoder beside it, and the messages of the pager link (R171, R172). -/

namespace Sys2Proof

/-- The command that a word spells by the table's bits: no row of the table gives bits. -/
def decodeTableWord (_nbits _w : Nat) : Option Instr := none

/-! ### Requests of a port (R181, R190) -/

/-- The fill byte of a transaction. -/
def fillByte : Byte := 0xFF

/-- A one-byte number. -/
def u8 (a : Byte) : Nat := fromBytes [a]
/-- A two-byte number. -/
def u16 (a b : Byte) : Nat := fromBytes [a, b]
/-- A three-byte number. -/
def u24 (a b c : Byte) : Nat := fromBytes [a, b, c]
/-- A signed amount of two bytes in two's complement (R190). -/
def i16 (a b : Byte) : Int := if u16 a b < 32768 then (u16 a b : Int) else (u16 a b : Int) - 65536

/-- The items of ZONE_DEFINE: its load list takes a count byte and its members (R190). -/
def parseZoneSettings : List Byte → Option ZoneSettings
  | z :: k :: c :: n :: rest =>
    match rest.drop (u8 n) with
    | [lv, g, sp1, sp0, fb1, fb0, sb1, sb0, bd, tl, so1, so0, mg1, mg0, rl1, rl0] =>
      some { zone := u8 z, kind := u8 k, channel := u8 c, loads := (rest.take (u8 n)).map u8, level := u8 lv, group := u8 g,
             setpoint := u16 sp1 sp0, fallback := u16 fb1 fb0, standby := u16 sb1 sb0, band := u8 bd, tolerance := u8 tl,
             soakTime := u16 so1 so0, margin := u16 mg1 mg0, recoverLimit := u16 rl1 rl0 }
    | _ => none
  | _ => none

/-- A list of items that all are zero: what a request of a wrong length is read as, its items playing no part (R181). -/
def ZoneSettings.blank : ZoneSettings :=
  { zone := 0, kind := 0, channel := 0, loads := [], level := 0, group := 0, setpoint := 0, fallback := 0, standby := 0,
    band := 0, tolerance := 0, soakTime := 0, margin := 0, recoverLimit := 0 }

/-- As `ZoneSettings.blank`, for LINE_CONFIG. -/
def LineSettings.blank : LineSettings :=
  { wash := 0, booster := 0, washThreshold := 0, rinseThreshold := 0, enterPolarity := 0, exitPolarity := 0,
    outPolarity := 0, group := 0 }

/-- The command of a code of the command table (11 section 11.4) with its payload, none for a code outside the table. `t true`
is the transfer with a payload length that the command carries, `t false` with one it does not (R181, step 3). -/
def commandOf (t : Bool → Transfer) : Nat → List Byte → Option Instr
  | 0x00, p => some (.nop (t p.isEmpty))
  | 0x01, p => some (.status (t p.isEmpty))
  | 0x02, p => some (.readNotice (t p.isEmpty))
  | 0x03, [a, b, c] => some (.clockSet (t true) (u24 a b c))
  | 0x03, _ => some (.clockSet (t false) 0)
  | 0x04, [a] => some (.superviseSet (t true) (u8 a))
  | 0x04, _ => some (.superviseSet (t false) 0)
  | 0x10, [n, a, b] => some (.loadSet (t true) (u8 n) (u16 a b))
  | 0x10, _ => some (.loadSet (t false) 0 0)
  | 0x11, [n] => some (.loadQuery (t true) (u8 n))
  | 0x11, _ => some (.loadQuery (t false) 0)
  | 0x12, [e, c] => some (.mapFixed (t true) (u8 e) (u8 c))
  | 0x12, _ => some (.mapFixed (t false) 0 0)
  | 0x13, [w, b, m, c, v] => some (.mapWindow (t true) (u8 w) (u8 b) (u8 m) (u8 c) (u8 v))
  | 0x13, _ => some (.mapWindow (t false) 0 0 0 0 0)
  | 0x14, [c] => some (.mapDefault (t true) (u8 c))
  | 0x14, _ => some (.mapDefault (t false) 0)
  | 0x15, [m, f] => some (.mapEnable (t true) (u8 m) (u8 f))
  | 0x15, _ => some (.mapEnable (t false) 0 0)
  | 0x16, [n] => some (.mapQuery (t true) (u8 n))
  | 0x16, _ => some (.mapQuery (t false) 0)
  | 0x20, [l] => some (.frameSet (t true) (u8 l))
  | 0x20, _ => some (.frameSet (t false) 0)
  | 0x21, [a, b] => some (.feedLimit (t true) (u16 a b))
  | 0x21, _ => some (.feedLimit (t false) 0)
  | 0x22, [l] => some (.shedLevel (t true) (u8 l))
  | 0x22, _ => some (.shedLevel (t false) 0)
  | 0x23, p => some (.frameQuery (t p.isEmpty))
  | 0x24, [s, r, d, w] => some (.feedConfig (t true) (u8 s) (u8 r) (u8 d) (u8 w))
  | 0x24, _ => some (.feedConfig (t false) 0 0 0 0)
  | 0x25, p => some (.feedQuery (t p.isEmpty))
  | 0x30, [c] => some (.sensorQuery (t true) (u8 c))
  | 0x30, _ => some (.sensorQuery (t false) 0)
  | 0x31, p =>
    match parseZoneSettings p with
    | some z => some (.zoneDefine (t true) z)
    | none => some (.zoneDefine (t false) ZoneSettings.blank)
  | 0x32, [z, a, b, c, d, e, f] => some (.zoneSetpoint (t true) (u8 z) (u16 a b) (u16 c d) (u16 e f))
  | 0x32, _ => some (.zoneSetpoint (t false) 0 0 0 0)
  | 0x33, [z] => some (.zoneStart (t true) (u8 z))
  | 0x33, _ => some (.zoneStart (t false) 0)
  | 0x34, [z] => some (.zoneStop (t true) (u8 z))
  | 0x34, _ => some (.zoneStop (t false) 0)
  | 0x35, [z] => some (.zonePause (t true) (u8 z))
  | 0x35, _ => some (.zonePause (t false) 0)
  | 0x36, [z] => some (.zoneResume (t true) (u8 z))
  | 0x36, _ => some (.zoneResume (t false) 0)
  | 0x37, [z] => some (.zoneClear (t true) (u8 z))
  | 0x37, _ => some (.zoneClear (t false) 0)
  | 0x38, [z] => some (.zoneQuery (t true) (u8 z))
  | 0x38, _ => some (.zoneQuery (t false) 0)
  | 0x40, [z, n, a, b, c, d, e, f, x] =>
    some (.programStep (t true) (u8 z) (u8 n) (u16 a b) (u16 c d) (u16 e f) (u8 x))
  | 0x40, _ => some (.programStep (t false) 0 0 0 0 0 0)
  | 0x41, [z, n, a, b] => some (.programLoad (t true) (u8 z) (u8 n) (u16 a b))
  | 0x41, _ => some (.programLoad (t false) 0 0 0)
  | 0x42, [z] => some (.programRun (t true) (u8 z))
  | 0x42, _ => some (.programRun (t false) 0)
  | 0x43, [z] => some (.programAdvance (t true) (u8 z))
  | 0x43, _ => some (.programAdvance (t false) 0)
  | 0x44, [z] => some (.programAbort (t true) (u8 z))
  | 0x44, _ => some (.programAbort (t false) 0)
  | 0x45, [z] => some (.programQuery (t true) (u8 z))
  | 0x45, _ => some (.programQuery (t false) 0)
  | 0x50, [w, b, a, c, d, e, p1, p2, p3, g] =>
    some (.lineConfig (t true)
      { wash := u8 w, booster := u8 b, washThreshold := u16 a c, rinseThreshold := u16 d e, enterPolarity := u8 p1,
        exitPolarity := u8 p2, outPolarity := u8 p3, group := u8 g })
  | 0x50, _ => some (.lineConfig (t false) LineSettings.blank)
  | 0x51, [a, k, c] => some (.rackLoad (t true) (u8 a) (u8 k) (u8 c))
  | 0x51, _ => some (.rackLoad (t false) 0 0 0)
  | 0x52, p => some (.linePurge (t p.isEmpty))
  | 0x53, p => some (.lineQuery (t p.isEmpty))
  | 0x54, [q] => some (.rackQuery (t true) (u8 q))
  | 0x54, _ => some (.rackQuery (t false) 0)
  | 0x60, [k, a, b] => some (.wareDefine (t true) (u8 k) (u16 a b))
  | 0x60, _ => some (.wareDefine (t false) 0 0)
  | 0x61, [k, l, z, a, b] => some (.wareAdjust (t true) (u8 k) (u8 l) (u8 z) (i16 a b))
  | 0x61, _ => some (.wareAdjust (t false) 0 0 0 0)
  | 0x62, [k, a, b] => some (.wareReturn (t true) (u8 k) (u16 a b))
  | 0x62, _ => some (.wareReturn (t false) 0 0)
  | 0x63, [k] => some (.wareQuery (t true) (u8 k))
  | 0x63, _ => some (.wareQuery (t false) 0)
  | 0x64, [z, k, a, b, c, d, e, f] => some (.cabinetSet (t true) (u8 z) (u8 k) (u16 a b) (u16 c d) (u16 e f))
  | 0x64, _ => some (.cabinetSet (t false) 0 0 0 0 0)
  | 0x65, [z] => some (.cabinetQuery (t true) (u8 z))
  | 0x65, _ => some (.cabinetQuery (t false) 0)
  | 0x66, [z, a, b] => some (.restockConfirm (t true) (u8 z) (u16 a b))
  | 0x66, _ => some (.restockConfirm (t false) 0 0)
  | 0x67, p => some (.restockQuery (t p.isEmpty))
  | 0x70, r :: k :: a :: b :: g :: n :: rest =>
    if rest.length = u8 n then some (.courseFire (t true) (u8 r) (u8 k) (u16 a b) (u8 g) (rest.map u8))
    else some (.courseFire (t false) 0 0 0 0 [])
  | 0x70, _ => some (.courseFire (t false) 0 0 0 0 [])
  | 0x71, [c, a, b] => some (.coursePlated (t true) (u8 c) (u16 a b))
  | 0x71, _ => some (.coursePlated (t false) 0 0)
  | 0x72, [c] => some (.courseClose (t true) (u8 c))
  | 0x72, _ => some (.courseClose (t false) 0)
  | 0x73, [c] => some (.courseQuery (t true) (u8 c))
  | 0x73, _ => some (.courseQuery (t false) 0)
  | 0x80, [e, a, b, r, g] => some (.staffSet (t true) (u8 e) (u16 a b) (u8 r) (u8 g))
  | 0x80, _ => some (.staffSet (t false) 0 0 0 0)
  | 0x81, [e, d] => some (.staffDuty (t true) (u8 e) (u8 d))
  | 0x81, _ => some (.staffDuty (t false) 0 0)
  | 0x82, [e] => some (.staffQuery (t true) (u8 e))
  | 0x82, _ => some (.staffQuery (t false) 0)
  | 0x83, [r, g, c, m, o] => some (.pageSend (t true) (u8 r) (u8 g) (u8 c) (u8 m) (u8 o))
  | 0x83, _ => some (.pageSend (t false) 0 0 0 0 0)
  | 0x84, [i] => some (.pageDone (t true) (u8 i))
  | 0x84, _ => some (.pageDone (t false) 0)
  | 0x85, [a, b, c, d, e, f] => some (.pageLevels (t true) (u8 a) (u8 b) (u8 c) (u8 d) (u8 e) (u8 f))
  | 0x85, _ => some (.pageLevels (t false) 0 0 0 0 0 0)
  | 0x86, [n] => some (.pageTiming (t true) (u8 n))
  | 0x86, _ => some (.pageTiming (t false) 0)
  | 0x87, [i] => some (.pageQuery (t true) (u8 i))
  | 0x87, _ => some (.pageQuery (t false) 0)
  | 0x88, p => some (.linkQuery (t p.isEmpty))
  | _, _ => none

/-- What a port takes at the rise of chip select from the bytes clocked in (R181): nothing where none was clocked, a read
transaction where all are fill, and otherwise a request, well formed or not. -/
def decodeTransaction (port : PortId) (bytes : List Byte) : Option Instr :=
  if bytes.isEmpty then none
  else if bytes.all (· == fillByte) then some (.readTransaction port bytes.length)
  else
    match bytes with
    | code :: len :: rest =>
      if 30 < u8 len ∨ rest.length < u8 len ∨ ¬ (rest.drop (u8 len)).all (· == fillByte) then
        some (.frameError port bytes.length)
      else
        match commandOf (fun ok => { port := port, clocked := bytes.length, lengthOk := ok }) (u8 code)
            (rest.take (u8 len)) with
        | some i => some i
        | none => some (.unknown port bytes.length)
    | _ => some (.frameError port bytes.length)

/-! ### Encoding a request -/

/-- A signed amount in two bytes of two's complement (R190). -/
def encodeI16 (v : Int) : List Byte := bigEndian 2 (v % 65536).toNat

/-- The code and the payload of a port command (11 section 11.4, R190), none for the other rows. -/
def encodeCommand : Instr → Option (Nat × Transfer × List Byte)
  | .nop t => some (0x00, t, [])
  | .status t => some (0x01, t, [])
  | .readNotice t => some (0x02, t, [])
  | .clockSet t v => some (0x03, t, bigEndian 3 v)
  | .superviseSet t v => some (0x04, t, bigEndian 1 v)
  | .loadSet t n r => some (0x10, t, bigEndian 1 n ++ bigEndian 2 r)
  | .loadQuery t n => some (0x11, t, bigEndian 1 n)
  | .mapFixed t e c => some (0x12, t, bigEndian 1 e ++ bigEndian 1 c)
  | .mapWindow t w b m c v =>
    some (0x13, t, bigEndian 1 w ++ bigEndian 1 b ++ bigEndian 1 m ++ bigEndian 1 c ++ bigEndian 1 v)
  | .mapDefault t c => some (0x14, t, bigEndian 1 c)
  | .mapEnable t m f => some (0x15, t, bigEndian 1 m ++ bigEndian 1 f)
  | .mapQuery t n => some (0x16, t, bigEndian 1 n)
  | .frameSet t l => some (0x20, t, bigEndian 1 l)
  | .feedLimit t l => some (0x21, t, bigEndian 2 l)
  | .shedLevel t l => some (0x22, t, bigEndian 1 l)
  | .frameQuery t => some (0x23, t, [])
  | .feedConfig t s r d w => some (0x24, t, bigEndian 1 s ++ bigEndian 1 r ++ bigEndian 1 d ++ bigEndian 1 w)
  | .feedQuery t => some (0x25, t, [])
  | .sensorQuery t c => some (0x30, t, bigEndian 1 c)
  | .zoneDefine t z =>
    some (0x31, t, bigEndian 1 z.zone ++ bigEndian 1 z.kind ++ bigEndian 1 z.channel ++ bigEndian 1 z.loads.length ++
      z.loads.map byteOf ++ bigEndian 1 z.level ++ bigEndian 1 z.group ++ bigEndian 2 z.setpoint ++
      bigEndian 2 z.fallback ++ bigEndian 2 z.standby ++ bigEndian 1 z.band ++ bigEndian 1 z.tolerance ++
      bigEndian 2 z.soakTime ++ bigEndian 2 z.margin ++ bigEndian 2 z.recoverLimit)
  | .zoneSetpoint t z a b c => some (0x32, t, bigEndian 1 z ++ bigEndian 2 a ++ bigEndian 2 b ++ bigEndian 2 c)
  | .zoneStart t z => some (0x33, t, bigEndian 1 z)
  | .zoneStop t z => some (0x34, t, bigEndian 1 z)
  | .zonePause t z => some (0x35, t, bigEndian 1 z)
  | .zoneResume t z => some (0x36, t, bigEndian 1 z)
  | .zoneClear t z => some (0x37, t, bigEndian 1 z)
  | .zoneQuery t z => some (0x38, t, bigEndian 1 z)
  | .programStep t z n sp so d a =>
    some (0x40, t, bigEndian 1 z ++ bigEndian 1 n ++ bigEndian 2 sp ++ bigEndian 2 so ++ bigEndian 2 d ++ bigEndian 1 a)
  | .programLoad t z n h => some (0x41, t, bigEndian 1 z ++ bigEndian 1 n ++ bigEndian 2 h)
  | .programRun t z => some (0x42, t, bigEndian 1 z)
  | .programAdvance t z => some (0x43, t, bigEndian 1 z)
  | .programAbort t z => some (0x44, t, bigEndian 1 z)
  | .programQuery t z => some (0x45, t, bigEndian 1 z)
  | .lineConfig t l =>
    some (0x50, t, bigEndian 1 l.wash ++ bigEndian 1 l.booster ++ bigEndian 2 l.washThreshold ++
      bigEndian 2 l.rinseThreshold ++ bigEndian 1 l.enterPolarity ++ bigEndian 1 l.exitPolarity ++
      bigEndian 1 l.outPolarity ++ bigEndian 1 l.group)
  | .rackLoad t a k c => some (0x51, t, bigEndian 1 a ++ bigEndian 1 k ++ bigEndian 1 c)
  | .linePurge t => some (0x52, t, [])
  | .lineQuery t => some (0x53, t, [])
  | .rackQuery t q => some (0x54, t, bigEndian 1 q)
  | .wareDefine t k n => some (0x60, t, bigEndian 1 k ++ bigEndian 2 n)
  | .wareAdjust t k l z a => some (0x61, t, bigEndian 1 k ++ bigEndian 1 l ++ bigEndian 1 z ++ encodeI16 a)
  | .wareReturn t k n => some (0x62, t, bigEndian 1 k ++ bigEndian 2 n)
  | .wareQuery t k => some (0x63, t, bigEndian 1 k)
  | .cabinetSet t z k c l h =>
    some (0x64, t, bigEndian 1 z ++ bigEndian 1 k ++ bigEndian 2 c ++ bigEndian 2 l ++ bigEndian 2 h)
  | .cabinetQuery t z => some (0x65, t, bigEndian 1 z)
  | .restockConfirm t z n => some (0x66, t, bigEndian 1 z ++ bigEndian 2 n)
  | .restockQuery t => some (0x67, t, [])
  | .courseFire t r k c g cs =>
    some (0x70, t, bigEndian 1 r ++ bigEndian 1 k ++ bigEndian 2 c ++ bigEndian 1 g ++ bigEndian 1 cs.length ++
      cs.map byteOf)
  | .coursePlated t c n => some (0x71, t, bigEndian 1 c ++ bigEndian 2 n)
  | .courseClose t c => some (0x72, t, bigEndian 1 c)
  | .courseQuery t c => some (0x73, t, bigEndian 1 c)
  | .staffSet t e a r g => some (0x80, t, bigEndian 1 e ++ bigEndian 2 a ++ bigEndian 1 r ++ bigEndian 1 g)
  | .staffDuty t e d => some (0x81, t, bigEndian 1 e ++ bigEndian 1 d)
  | .staffQuery t e => some (0x82, t, bigEndian 1 e)
  | .pageSend t r g c m o =>
    some (0x83, t, bigEndian 1 r ++ bigEndian 1 g ++ bigEndian 1 c ++ bigEndian 1 m ++ bigEndian 1 o)
  | .pageDone t i => some (0x84, t, bigEndian 1 i)
  | .pageLevels t a b c d e f =>
    some (0x85, t, bigEndian 1 a ++ bigEndian 1 b ++ bigEndian 1 c ++ bigEndian 1 d ++ bigEndian 1 e ++ bigEndian 1 f)
  | .pageTiming t n => some (0x86, t, bigEndian 1 n)
  | .pageQuery t i => some (0x87, t, bigEndian 1 i)
  | .linkQuery t => some (0x88, t, [])
  | .readTransaction .. | .frameError .. | .unknown .. | .supervisionTimerExpiry .. | .kitchenClockAdvance | .sliceAdvance
  | .frameBoundary | .feedConversion .. | .waitTimerExpiry | .sensorConversion .. | .soakTimerExpiry ..
  | .recoverTimerLimit .. | .standbyTimerExpiry .. | .stepTimerExpiry .. | .rinseEnter | .rinseExit | .rackOut | .offer
  | .reOffer | .cancel | .transmitComplete | .sent .. | .unreachable .. | .ack .. | .alive | .garbledMessage ..
  | .receiveGap | .ackTimerExpiry .. | .responseTimerExpiry | .probeTimerExpiry | .powerOnReset | .pinReset
  | .leaveReset .. | .lineLevelChange .. => none

/-- The bytes of the transaction that carries a command: code, payload length, payload, and fill up to the bytes clocked
(R181, R190). -/
def encodeTransaction (i : Instr) : Option (PortId × List Byte) :=
  (encodeCommand i).map fun (code, t, payload) =>
    (t.port, byteOf code :: byteOf payload.length :: payload ++ List.replicate (t.clocked - (2 + payload.length)) fillByte)

/-! ### Messages of the pager link (R171, R172) -/

/-- The header byte of a message. -/
def linkHeader : Byte := 0xA5

/-- The check byte: type, payload and check add up to 0 modulo 256 (R171). -/
def checkByte (body : List Byte) : Byte := 0 - body.foldl (· + ·) 0

/-- A message's frame: header, type, payload, check byte (R171). -/
def linkFrame (type : Byte) (payload : List Byte) : List Byte :=
  linkHeader :: (type :: payload) ++ [checkByte (type :: payload)]

/-- PAGE: page id, pager address, cause or message code, object, level (R171). -/
def pageFrame (id address cause object level : Nat) : List Byte :=
  linkFrame 0x01 (bigEndian 1 id ++ bigEndian 2 address ++ bigEndian 1 cause ++ bigEndian 1 object ++ bigEndian 1 level)

/-- CANCEL: page id, pager address (R171). -/
def cancelFrame (id address : Nat) : List Byte := linkFrame 0x02 (bigEndian 1 id ++ bigEndian 2 address)

/-- PROBE (R171). -/
def probeFrame : List Byte := linkFrame 0x03 []

/-- The frame length of a station message by its type, none where the type is not one of the four (R171). -/
def stationFrameLength (type : Byte) : Option Nat :=
  if type = 0x81 then some 4
  else if type = 0x82 then some 4
  else if type = 0x83 then some 7
  else if type = 0x84 then some 3
  else none

/-- A page id of the wire. -/
def pageIdOf (b : Byte) : PageId := Fin.ofNat 256 b.toNat

/-- A completed message: the command that it is, or a garbled message where its sum is not 0 (R172). -/
def stationMessage (frame : List Byte) : Instr :=
  if (frame.drop 1).foldl (· + ·) 0 ≠ (0 : Byte) then .garbledMessage .badCheck
  else
    match frame with
    | [_, 0x81, i, _] => .sent (pageIdOf i)
    | [_, 0x82, i, _] => .unreachable (pageIdOf i)
    | [_, 0x83, i, a, b, x, _] => .ack (pageIdOf i) (u16 a b) (u8 x)
    | [_, 0x84, _] => .alive
    | _ => .garbledMessage .badType

/-- The receiver after one byte (R172): the bytes of the message so far, and the event that the byte completes. A byte with a
framing error outside a message is discarded like any byte that begins none: DESIGN CHOICE, notes/assumptions/24.md. -/
def receive (soFar : List Byte) (b : Byte) (framingError : Bool) : List Byte × Option Instr :=
  match soFar with
  | [] => if b = linkHeader ∧ framingError = false then ([b], none) else ([], none)
  | _ :: rest =>
    if framingError then ([], some (.garbledMessage .framingError))
    else
      match stationFrameLength (rest.headD b) with
      | none => ([], some (.garbledMessage .badType))
      | some n => if (soFar ++ [b]).length = n then ([], some (stationMessage (soFar ++ [b]))) else (soFar ++ [b], none)

end Sys2Proof
end

