-- ==== Sys2Proof/Config.lean ====
section
/-! DEFINITION. What the manual leaves open and the model leaves free.

The manual asks some replies for "data that show it undefined" (or free, or that it holds no cabinet or no program) and gives
no bytes for them (R63, R96, R123, R127, R149): notes/assumptions/15.md. It gives a setting byte the values 0 and 1 (R190) and no
refusal for another, so that one is taken, and which of its two values the setting takes is open (R16, R17, R153):
notes/assumptions/14.md. Each is a constant without a body, so no proof can rest on what it is. DESIGN CHOICE, safe. -/

namespace Sys2Proof

/-- The data of PROGRAM_QUERY for a zone that is not an OVEN (R96). -/
opaque Config.noProgramData : ZoneId → List Byte
/-- What follows "Defined: no" in the data of ZONE_QUERY for an undefined zone (R63). -/
opaque Config.undefinedZoneRest : ZoneId → List Byte
/-- The data of WARE_QUERY for an undefined kind (R123). -/
opaque Config.undefinedWareData : WareId → List Byte
/-- The data of CABINET_QUERY for a defined zone that is not a WARMER (R127). -/
opaque Config.noCabinetData : ZoneId → List Byte
/-- What follows the state code 0 in the data of COURSE_QUERY for a FREE slot (R149). -/
opaque Config.freeCourseRest : CourseId → List Byte
/-- The valid flag that a byte other than 0 and 1 gives a window (R16). -/
opaque Config.otherValid : Nat → Bool
/-- The map enable that a byte other than 0 and 1 gives (R17). -/
opaque Config.otherMapEnable : Nat → Bool
/-- The fixed enable that a byte other than 0 and 1 gives (R17). -/
opaque Config.otherFixedEnable : Nat → Bool
/-- The duty setting, ON or not, that a byte other than 0 and 1 gives (R153). -/
opaque Config.otherDuty : Nat → Bool

end Sys2Proof
end

