-- ==== Sys2Proof/Machine/State.lean ====
section
/-! DEFINITION. The state of the FK448 as plain data, and the state after reset.

One record for each block of 00_scope.md, section 2, with the fields that the block's chapter gives it. What is a function of
other fields is not stored: the state of a load line and of an ATTN line (Machine/Pins.lean), a course's need, a cabinet's
available count, the in-racks count. -/

namespace Sys2Proof.Machine

/-- No event of the manual stops the part, so no fault exists: a command that cannot be taken is refused with a status. -/
inductive Fault where
  deriving DecidableEq, Repr

/-- Why the model gives a command no meaning. -/
inductive Refusal where
  /-- Raised by exec's arm for a command whose meaning is not written; safe. No arm raises it. -/
  | notModelled (mnemonic : String)
  deriving DecidableEq, Repr

/-! ### Values named in capitals -/

/-- The status words of a reply (00 section 4.4, R190). -/
inductive Status where
  | none | ok | clamped | unknown | frameError | denied | range | state | conflict | full | empty | notFound | duplicate
  deriving DecidableEq, Repr

/-- Port roles in the order of their strap numbers (R183). -/
inductive Role where
  | production | warewash | banquet | energy
  deriving DecidableEq, Repr

/-- Load classes from least to most restrictive (R11). -/
inductive LoadClass where
  | essential | staged | deferrable | lockout
  deriving DecidableEq, Repr

/-- What decided a load point's resolved class (R8, R9). -/
inductive Deciding where
  | mapOff
  | fixed (entry : Fin 16)
  | window (w : Fin 6)
  | default
  deriving DecidableEq, Repr

/-- Feed states in the order of their notice codes (R50). -/
inductive FeedState where
  | sag | restoreWait | stage1 | stage2 | normal
  deriving DecidableEq, Repr

/-- Zone kinds (R190). -/
inductive ZoneKind where
  | oven | warmer | washTank | rinseBooster
  deriving DecidableEq, Repr

/-- Zone states in the order of their codes (R190). -/
inductive ZoneState where
  | off | preheat | soak | ready | recover | standby | paused | fault
  deriving DecidableEq, Repr

/-- Why a zone is in FAULT (R76). -/
inductive FaultCause where
  | none | sensor | overMargin | absolute
  deriving DecidableEq, Repr

/-- What the end of a program step does (R86 to R88). -/
inductive EndAction where
  | next | pageNext | pageHold
  deriving DecidableEq, Repr

/-- Program states in the order of their codes (R95). RUNNING(k) and HELD(k) carry k as the current step. -/
inductive ProgramState where
  | none | loaded | running | held | done | aborted
  deriving DecidableEq, Repr

/-- Which transitions of an event line are events (R98). -/
inductive Polarity where
  | none | rise | fall | both
  deriving DecidableEq, Repr

/-- How far through the dish machine a rack has gone (R101). -/
inductive Stage where
  | wash | rinse | done
  deriving DecidableEq, Repr

/-- A rack's result (R101). -/
inductive Verdict where
  | pending | clean | rewash
  deriving DecidableEq, Repr

/-- Staff roles (R190). -/
inductive StaffRole where
  | porter | runner | cook | engineer | captain
  deriving DecidableEq, Repr

/-- Duty states (R151). -/
inductive Duty where
  | offDuty | free | paged | assigned
  deriving DecidableEq, Repr

/-- A staff group 0 to 7, or ANY (00 section 4.2). -/
inductive PageGroup where
  | group (g : Fin 8)
  | any
  deriving DecidableEq, Repr

/-- How a page ends (09 section 9.3). -/
inductive Closure where
  | info | task | event
  deriving DecidableEq, Repr

/-- Where a page stands. A page in CLOSED has left the queue, so no record of the queue holds `closed`. -/
inductive PageState where
  | queued | offered | accepted | suspended | closed
  deriving DecidableEq, Repr

/-- How a page was closed (R168). -/
inductive Outcome where
  | acceptedInfo | done | event | unanswered | dropped
  deriving DecidableEq, Repr

/-- Notice kinds in the order of their codes (11 section 11.5). -/
inductive NoticeKind where
  | clipped | feedState | zoneState | programState | lineFault | rackVerdict | linePermit | restockTask | courseState
  | pageClosed | pageDropped | linkState | lateAck | portState
  deriving DecidableEq, Repr

/-- The internal causes of pages (09 section 9.3). -/
inductive Cause where
  | feedSag | sensorFault | zoneOvertemp | portSilent | rackRewash | courseShort | restock | stepDone | stepHold
  | programDone | zoneSlow
  deriving DecidableEq, Repr

/-- What the part reports as its last reset (R192). -/
inductive ResetCause where
  | powerOn | pin
  deriving DecidableEq, Repr

/-- Whether the part runs or is held in reset, and then whether the supply monitor has asserted reset since it last ran (R192). -/
inductive Phase where
  | running
  | held (powerOn : Bool)
  deriving DecidableEq, Repr

/-! ### Records of the blocks -/

/-- Reset state and reset cause (R192). -/
structure Chip where
  phase : Phase
  cause : ResetCause
  deriving DecidableEq, Repr

/-- The levels that the field side puts on the input pins (11 section 11.11), a converter input as the code it would give. -/
structure Pins where
  feedSense : BitVec 12
  sensors : Table 32 (BitVec 12)
  enterLine : Bool
  exitLine : Bool
  outLine : Bool
  deriving DecidableEq, Repr

/-- The Time Base (R19, R20, R189). -/
structure TimeBase where
  clock : Nat
  clockTicks : Nat
  slice : Nat
  frame : Nat
  sliceTicks : Nat
  sliceLength : Nat
  slicePending : Nat
  deriving DecidableEq, Repr

/-- One load point record (R1), with what the Class Map holds for it (R8) and its placed rating (R21). -/
structure LoadPoint where
  rating : Nat
  binding : Option ZoneId
  effective : LoadClass
  resolved : LoadClass
  deciding : Deciding
  requested : Nat
  granted : Nat
  onSlices : List Nat
  deficit : Nat
  cut : Bool
  placed : Nat
  deriving DecidableEq, Repr

/-- A map window (R8). -/
structure Window where
  valid : Bool
  base : BitVec 6
  mask : BitVec 6
  cls : LoadClass
  deriving DecidableEq, Repr

/-- The Class Map's items (R8). -/
structure ClassMap where
  enabled : Bool
  fixedEnabled : Bool
  fixed : Table 16 LoadClass
  windows : Table 6 Window
  default : LoadClass
  deriving DecidableEq, Repr

/-- The Load Allocator (02 section 2.1). -/
structure Allocator where
  sums : Table 100 Nat
  order : List LoadId
  limitSetting : Nat
  limit : Nat
  shedSetting : Nat
  shed : Nat
  peak : Nat
  deriving DecidableEq, Repr

/-- The Feed Monitor (03 section 3.1). -/
structure Feed where
  code : BitVec 12
  reading : Nat
  state : FeedState
  sagThreshold : Nat
  restoreThreshold : Nat
  debounce : Nat
  restoreWait : Nat
  sagCount : Nat
  restoreCount : Nat
  waitTimer : Option Nat
  waitLength : Nat
  restoreDue : Bool
  deriving DecidableEq, Repr

/-- A sensor channel (04 section 4.1). -/
structure Channel where
  code : BitVec 12
  reading : Nat
  rail : Nat
  deriving DecidableEq, Repr

/-- The Sensor Scanner (R55). -/
structure Scanner where
  channels : Table 32 Channel
  position : ChannelId
  deriving DecidableEq, Repr

/-- A program step (05 section 5.1). -/
structure ProgramStep where
  setpoint : Nat
  soakTime : Nat
  duration : Nat
  action : EndAction
  deriving DecidableEq, Repr

/-- An OVEN's draft and program (R80). The step count is the length of the step list. -/
structure Program where
  draft : Table 8 (Option ProgramStep)
  state : ProgramState
  steps : List ProgramStep
  hold : Nat
  current : Nat
  timer : Nat
  lastRun : Nat
  deriving DecidableEq, Repr

/-- A WARMER's cabinet record (R124). -/
structure Cabinet where
  kind : Option WareId
  capacity : Nat
  low : Nat
  high : Nat
  stock : Nat
  reserved : Nat
  deriving DecidableEq, Repr

/-- A zone record (04 section 4.2). A zone that is not defined has none. -/
structure Zone where
  kind : ZoneKind
  owner : PortId
  channel : ChannelId
  loads : List LoadId
  level : Nat
  group : PageGroup
  setpoint : Nat
  fallback : Nat
  standby : Option Nat
  band : Nat
  tolerance : Nat
  soakTime : Nat
  margin : Nat
  recoverLimit : Nat
  active : Nat
  state : ZoneState
  soakTimer : Option Nat
  recoverTimer : Option Nat
  slowRaised : Bool
  standbyTimer : Option Nat
  overCount : Nat
  overArmed : Bool
  faultCause : FaultCause
  cleanCount : Nat
  duty : Nat
  program : Option Program
  cabinet : Option Cabinet
  deriving DecidableEq, Repr

/-- A rack of the queue (06 section 6.1). -/
structure Rack where
  tag : Nat
  kind : WareId
  count : Nat
  stage : Stage
  washMin : Nat
  rinseMin : Option Nat
  verdict : Verdict
  entered : Nat
  deriving DecidableEq, Repr

/-- The Dish Line Tracker (06 section 6.1). `sampled` says that the first sample of the lines was taken (R97). -/
structure DishLine where
  configured : Bool
  wash : Option ZoneId
  booster : Option ZoneId
  washThreshold : Nat
  rinseThreshold : Nat
  enterPolarity : Polarity
  exitPolarity : Polarity
  outPolarity : Polarity
  group : PageGroup
  sampled : Bool
  enterLevel : Bool
  exitLevel : Bool
  outLevel : Bool
  racks : List Rack
  faults : Nat
  permit : Bool
  deriving DecidableEq, Repr

/-- A ware kind record (R118). -/
structure Ware where
  defined : Bool
  total : Nat
  soiled : Nat
  clean : Nat
  out : Nat
  deriving DecidableEq, Repr

/-- A restock task (R128). -/
structure RestockTask where
  cabinet : ZoneId
  kind : WareId
  wanted : Nat
  paged : Bool
  opened : Nat
  deriving DecidableEq, Repr

/-- A live course (08 section 8.1). A FREE slot has none. -/
structure Course where
  short : Bool
  room : Nat
  kind : WareId
  covers : Nat
  plated : Nat
  group : PageGroup
  cabinets : List ZoneId
  entries : List (ZoneId × Nat)
  fired : Nat
  deriving DecidableEq, Repr

/-- The Course Table: the slots and the fire order (R137). -/
structure CourseTable where
  slots : Table 16 (Option Course)
  order : List CourseId
  deriving DecidableEq, Repr

/-- A staff record (R151). `since` is the place of its last assignment in the order of assignments. -/
structure Staff where
  address : Nat
  role : StaffRole
  group : Fin 8
  duty : Duty
  current : Option PageId
  suspended : Option PageId
  since : Nat
  deriving DecidableEq, Repr

/-- The roster and the free lists (R151), one list for each of the five roles. -/
structure Roster where
  entries : Table 64 Staff
  free : Table 5 (List EntryId)
  nextStamp : Nat
  deriving DecidableEq, Repr

/-- A page record (09 section 9.3). -/
structure Page where
  id : PageId
  source : Fin 6
  cause : Nat
  object : Nat
  role : StaffRole
  group : PageGroup
  level : Nat
  closure : Closure
  state : PageState
  target : Option EntryId
  step : Nat
  excluded : Option EntryId
  ackTimer : Option Nat
  created : Nat
  deriving DecidableEq, Repr

/-- A cancel request: a page id and a pager address (R167). -/
structure CancelRequest where
  page : PageId
  address : Nat
  deriving DecidableEq, Repr

/-- The page queue and what the Paging Controller holds beside it (09 section 9.1). -/
structure PageDesk where
  pages : List Page
  nextId : PageId
  levels : Table 6 Nat
  ackSetting : Nat
  reoffers : List PageId
  cancels : List CancelRequest
  deriving DecidableEq, Repr

/-- The message outstanding on the pager link (R173). -/
inductive Outstanding where
  | none
  | page (id : PageId) (address : Nat)
  | cancel (id : PageId) (address : Nat)
  | probe
  deriving DecidableEq, Repr

/-- The Pager Link Interface (10 section 10.1). `transmitting` is the frame whose last byte has not left the UART yet;
`received` is the receive state, the empty list being idle; `rxGap` counts the ticks since the last received byte. -/
structure Link where
  up : Bool
  outstanding : Outstanding
  transmitting : List Byte
  responseTimer : Option Nat
  timeouts : Nat
  probeTimer : Option Nat
  probeDue : Bool
  stale : Nat
  late : Nat
  garbled : Nat
  received : List Byte
  rxGap : Nat
  deriving DecidableEq, Repr

/-- A reply in a port's slot (R182, R190). -/
structure Reply where
  status : Status
  overrun : Bool
  noticeOverflow : Bool
  data : List Byte
  deriving DecidableEq, Repr

/-- A notice record (R190). -/
structure Notice where
  kind : NoticeKind
  object : Nat
  value : Nat
  time : Nat
  deriving DecidableEq, Repr

/-- What a command port holds (11 section 11.1). `csIgnored` marks a chip select that was low when the part left reset (R192). -/
structure Port where
  role : Role
  slot : Option Reply
  notices : List Notice
  overflow : Bool
  interval : Nat
  timer : Option Nat
  silent : Bool
  csIgnored : Bool
  deriving DecidableEq, Repr

/-- The whole part, and the queue of the commands that are waiting, first in, first out. -/
structure State where
  pending : List Instr
  chip : Chip
  pins : Pins
  time : TimeBase
  loads : Table 48 LoadPoint
  map : ClassMap
  alloc : Allocator
  feed : Feed
  scan : Scanner
  zones : Table 32 (Option Zone)
  line : DishLine
  wares : Table 8 Ware
  restock : List RestockTask
  courses : CourseTable
  roster : Roster
  desk : PageDesk
  link : Link
  ports : Table 4 Port
  deriving DecidableEq, Repr

/-! ### The reset state of each block -/

/-- R19, R189. -/
def TimeBase.reset : TimeBase :=
  { clock := 0, clockTicks := 0, slice := 0, frame := 0, sliceTicks := 0, sliceLength := 4, slicePending := 4 }

/-- R2, R8. -/
def LoadPoint.reset : LoadPoint :=
  { rating := 0, binding := none, effective := .lockout, resolved := .lockout, deciding := .mapOff, requested := 0,
    granted := 0, onSlices := [], deficit := 0, cut := false, placed := 0 }

/-- R8. -/
def ClassMap.reset : ClassMap :=
  { enabled := false, fixedEnabled := false, fixed := Table.fill 16 .lockout,
    windows := Table.fill 6 { valid := false, base := 0, mask := 0, cls := .lockout }, default := .lockout }

/-- 02 section 2.1. -/
def Allocator.reset : Allocator :=
  { sums := Table.fill 100 0, order := [], limitSetting := 0, limit := 0, shedSetting := 0, shed := 0, peak := 0 }

/-- R42. -/
def Feed.reset : Feed :=
  { code := 0, reading := 0, state := .sag, sagThreshold := 85, restoreThreshold := 90, debounce := 3, restoreWait := 10,
    sagCount := 0, restoreCount := 0, waitTimer := none, waitLength := 10, restoreDue := false }

/-- R55. -/
def Scanner.reset : Scanner := { channels := Table.fill 32 { code := 0, reading := 0, rail := 0 }, position := 0 }

/-- R97. The levels are the model's until the first sample: DESIGN CHOICE, notes/assumptions/11.md. -/
def DishLine.reset : DishLine :=
  { configured := false, wash := none, booster := none, washThreshold := 600, rinseThreshold := 820, enterPolarity := .none,
    exitPolarity := .none, outPolarity := .none, group := .any, sampled := false, enterLevel := false, exitLevel := false,
    outLevel := false, racks := [], faults := 0, permit := false }

/-- R118. -/
def Ware.reset : Ware := { defined := false, total := 0, soiled := 0, clean := 0, out := 0 }

/-- R137. -/
def CourseTable.reset : CourseTable := { slots := Table.fill 16 none, order := [] }

/-- R151. The assignment stamp is the model's: DESIGN CHOICE, notes/assumptions/12.md. -/
def Staff.reset : Staff :=
  { address := 0, role := .porter, group := 0, duty := .offDuty, current := none, suspended := none, since := 0 }

/-- R151. -/
def Roster.reset : Roster := { entries := Table.fill 64 Staff.reset, free := Table.fill 5 [], nextStamp := 0 }

/-- The group levels after reset, G0 to G5 (09 section 9.1). -/
def PageDesk.resetLevels : Table 6 Nat := ⟨[3, 2, 2, 1, 1, 1], rfl⟩

/-- 09 section 9.1. -/
def PageDesk.reset : PageDesk :=
  { pages := [], nextId := 0, levels := PageDesk.resetLevels, ackSetting := 5, reoffers := [], cancels := [] }

/-- R170. The first PROBE is still to be sent, at the first tick after the release; the mark `probeDue` that says so is the
model's: notes/assumptions/9.md. -/
def Link.reset : Link :=
  { up := false, outstanding := .none, transmitting := [], responseTimer := none, timeouts := 0, probeTimer := none,
    probeDue := true, stale := 0, late := 0, garbled := 0, received := [], rxGap := 0 }

/-- R191. The role comes from the straps (R183). -/
def Port.reset (role : Role) (csIgnored : Bool) : Port :=
  { role := role, slot := none, notices := [], overflow := false, interval := 0, timer := none, silent := false,
    csIgnored := csIgnored }

/-- The role that a strap number gives (R183). -/
def Role.ofStraps : Fin 4 → Role
  | 0 => .production
  | 1 => .warewash
  | 2 => .banquet
  | 3 => .energy

/-- The pins of a board whose inputs all stand at 0. DESIGN CHOICE, notes/assumptions/25.md. -/
def Pins.low : Pins :=
  { feedSense := 0, sensors := Table.fill 32 0, enterLine := false, exitLine := false, outLine := false }

/-- Every block in its reset state (R191), with the reset state and the ports as given; the queue and the pins are not the
part's to reset. -/
def State.resetBlocks (s : State) (chip : Chip) (ports : Table 4 Port) : State :=
  { pending := s.pending, chip := chip, pins := s.pins, time := TimeBase.reset, loads := Table.fill 48 LoadPoint.reset,
    map := ClassMap.reset, alloc := Allocator.reset, feed := Feed.reset, scan := Scanner.reset, zones := Table.fill 32 none,
    line := DishLine.reset, wares := Table.fill 8 Ware.reset, restock := [], courses := CourseTable.reset,
    roster := Roster.reset, desk := PageDesk.reset, link := Link.reset, ports := ports }

/-- The part right after a power-on reset, its first tick still to come, with nothing waiting. The straps of ports A to D are
0 to 3: DESIGN CHOICE, notes/assumptions/10.md. -/
def State.reset : State :=
  { pending := [], chip := { phase := .running, cause := .powerOn }, pins := Pins.low, time := TimeBase.reset,
    loads := Table.fill 48 LoadPoint.reset, map := ClassMap.reset, alloc := Allocator.reset, feed := Feed.reset,
    scan := Scanner.reset, zones := Table.fill 32 none, line := DishLine.reset, wares := Table.fill 8 Ware.reset,
    restock := [], courses := CourseTable.reset, roster := Roster.reset, desk := PageDesk.reset, link := Link.reset,
    ports := Table.build 4 (fun p => Port.reset (Role.ofStraps p) false) }

end Sys2Proof.Machine
end

