-- ==== Sys2Proof/Machine/Operands.lean ====
section
/-! DEFINITION. Operand forms: the values that a code in a payload stands for, and the code of each value (R190).

A code outside the list of its values has no value, and the command that carries it refuses it with RANGE. -/

namespace Sys2Proof.Machine

/-- The member of `Fin n` with a given number, none where the number is out of range. -/
def index? (n v : Nat) : Option (Fin n) := if h : v < n then some ⟨v, h⟩ else none

/-- A setting of yes or no, on or off, set or clear: 0 or 1 (R190). What another byte gives is open: `other`, a free value of
Config (notes/assumptions/14.md). -/
def settingOr (other : Nat → Bool) : Nat → Bool
  | 0 => false
  | 1 => true
  | n => other n

def LoadClass.ofCode? : Nat → Option LoadClass
  | 0 => some .essential
  | 1 => some .staged
  | 2 => some .deferrable
  | 3 => some .lockout
  | _ => none

def ZoneKind.ofCode? : Nat → Option ZoneKind
  | 0 => some .oven
  | 1 => some .warmer
  | 2 => some .washTank
  | 3 => some .rinseBooster
  | _ => none

def EndAction.ofCode? : Nat → Option EndAction
  | 0 => some .next
  | 1 => some .pageNext
  | 2 => some .pageHold
  | _ => none

def Polarity.ofCode? : Nat → Option Polarity
  | 0 => some .none
  | 1 => some .rise
  | 2 => some .fall
  | 3 => some .both
  | _ => none

def StaffRole.ofCode? : Nat → Option StaffRole
  | 0 => some .porter
  | 1 => some .runner
  | 2 => some .cook
  | 3 => some .engineer
  | 4 => some .captain
  | _ => none

def Closure.ofCode? : Nat → Option Closure
  | 0 => some .info
  | 1 => some .task
  | 2 => some .event
  | _ => none

/-- A page group 0 to 7, or ANY, which is given with every bit set (R190). -/
def PageGroup.ofCode? (v : Nat) : Option PageGroup := if v = 255 then some .any else (index? 8 v).map .group

def Status.code : Status → Nat
  | .none => 0x00 | .ok => 0x01 | .clamped => 0x02 | .unknown => 0x10 | .frameError => 0x11 | .denied => 0x12
  | .range => 0x13 | .state => 0x14 | .conflict => 0x15 | .full => 0x16 | .empty => 0x17 | .notFound => 0x18
  | .duplicate => 0x19

def Role.code : Role → Nat
  | .production => 0 | .warewash => 1 | .banquet => 2 | .energy => 3

def LoadClass.code : LoadClass → Nat
  | .essential => 0 | .staged => 1 | .deferrable => 2 | .lockout => 3

/-- The codes of the FEED_STATE notice (R50). -/
def FeedState.code : FeedState → Nat
  | .sag => 0 | .restoreWait => 1 | .stage1 => 2 | .stage2 => 3 | .normal => 4

def ZoneKind.code : ZoneKind → Nat
  | .oven => 0 | .warmer => 1 | .washTank => 2 | .rinseBooster => 3

def ZoneState.code : ZoneState → Nat
  | .off => 0 | .preheat => 1 | .soak => 2 | .ready => 3 | .recover => 4 | .standby => 5 | .paused => 6 | .fault => 7

def FaultCause.code : FaultCause → Nat
  | .none => 0 | .sensor => 1 | .overMargin => 2 | .absolute => 3

def EndAction.code : EndAction → Nat
  | .next => 0 | .pageNext => 1 | .pageHold => 2

def ProgramState.code : ProgramState → Nat
  | .none => 0 | .loaded => 1 | .running => 2 | .held => 3 | .done => 4 | .aborted => 5

def Polarity.code : Polarity → Nat
  | .none => 0 | .rise => 1 | .fall => 2 | .both => 3

def Stage.code : Stage → Nat
  | .wash => 0 | .rinse => 1 | .done => 2

def Verdict.code : Verdict → Nat
  | .pending => 0 | .clean => 1 | .rewash => 2

/-- The index of a role, by which the free lists are kept, and its code. -/
def StaffRole.index : StaffRole → Fin 5
  | .porter => 0 | .runner => 1 | .cook => 2 | .engineer => 3 | .captain => 4

def Duty.code : Duty → Nat
  | .offDuty => 0 | .free => 1 | .paged => 2 | .assigned => 3

def Closure.code : Closure → Nat
  | .info => 0 | .task => 1 | .event => 2

def PageState.code : PageState → Nat
  | .queued => 0 | .offered => 1 | .accepted => 2 | .suspended => 3 | .closed => 4

/-- The outcomes of PAGE_CLOSED (R168). -/
def Outcome.code : Outcome → Nat
  | .acceptedInfo => 0 | .done => 1 | .event => 2 | .unanswered => 3 | .dropped => 4

def NoticeKind.code : NoticeKind → Nat
  | .clipped => 1 | .feedState => 2 | .zoneState => 3 | .programState => 4 | .lineFault => 5 | .rackVerdict => 6
  | .linePermit => 7 | .restockTask => 8 | .courseState => 9 | .pageClosed => 10 | .pageDropped => 11 | .linkState => 12
  | .lateAck => 13 | .portState => 14

def ResetCause.code : ResetCause → Nat
  | .powerOn => 0 | .pin => 1

/-- The cause table of 09 section 9.3: the code of a cause. -/
def Cause.code : Cause → Nat
  | .feedSag => 1 | .sensorFault => 2 | .zoneOvertemp => 3 | .portSilent => 4 | .rackRewash => 16 | .courseShort => 32
  | .restock => 48 | .stepDone => 64 | .stepHold => 65 | .programDone => 66 | .zoneSlow => 67

/-- The source group of a cause (09 section 9.3). -/
def Cause.source : Cause → Fin 6
  | .feedSag | .sensorFault | .zoneOvertemp | .portSilent => 0
  | .rackRewash => 1
  | .courseShort => 2
  | .restock => 3
  | .stepDone | .stepHold | .programDone | .zoneSlow => 4

/-- The staff role that a cause asks for (09 section 9.3). -/
def Cause.role : Cause → StaffRole
  | .feedSag | .sensorFault | .zoneOvertemp | .portSilent => .engineer
  | .rackRewash | .courseShort | .restock => .porter
  | .stepDone | .stepHold | .programDone | .zoneSlow => .cook

/-- The closure kind of a cause's page (09 section 9.3). -/
def Cause.closure : Cause → Closure
  | .feedSag | .sensorFault | .zoneOvertemp | .portSilent | .courseShort | .restock | .stepHold => .event
  | .rackRewash => .task
  | .stepDone | .programDone | .zoneSlow => .info

end Sys2Proof.Machine
end

