-- ==== Sys2Proof/Machine/Layout.lean ====
section
/-! DEFINITION. The byte layout of the items of a reply and of the notice record (R190).

A number takes the bytes that hold the largest value of its range, high byte first. An item that is none, absent or ANY has
every bit of its bytes set: notes/assumptions/16.md. What the rule leaves open is in notes/assumptions/17.md. -/

namespace Sys2Proof.Machine

/-- An item of `k` bytes that may be absent. -/
def optionalBytes (k : Nat) : Option Nat → List Byte
  | some v => bigEndian k v
  | none => List.replicate k 0xFF

/-- A setting of yes or no in one byte. -/
def flagByte (b : Bool) : List Byte := bigEndian 1 (if b then 1 else 0)

/-- A list of one-byte members: their number, then the members. -/
def listBytes (ms : List Nat) : List Byte := bigEndian 1 ms.length ++ (ms.map (bigEndian 1)).flatten

/-- A page group: 0 to 7, or ANY. -/
def groupBytes : PageGroup → List Byte
  | .group g => bigEndian 1 g.val
  | .any => optionalBytes 1 none

/-- The deciding entry of MAP_QUERY: what decided, then the entry or window number. -/
def decidingBytes : Deciding → List Byte
  | .mapOff => bigEndian 1 0 ++ bigEndian 1 0
  | .fixed e => bigEndian 1 1 ++ bigEndian 1 e.val
  | .window w => bigEndian 1 2 ++ bigEndian 1 w.val
  | .default => bigEndian 1 3 ++ bigEndian 1 0

/-- The notice record: kind, object, value, time. -/
def noticeBytes (n : Notice) : List Byte :=
  bigEndian 1 n.kind.code ++ bigEndian 1 n.object ++ bigEndian 2 n.value ++ bigEndian 3 n.time

/-- The four fields of a program step, or of a draft slot, absent where the slot is unset. -/
def stepBytes : Option ProgramStep → List Byte
  | some p => bigEndian 2 p.setpoint ++ bigEndian 2 p.soakTime ++ bigEndian 2 p.duration ++ bigEndian 1 p.action.code
  | none => optionalBytes 2 none ++ optionalBytes 2 none ++ optionalBytes 2 none ++ optionalBytes 1 none

/-- The largest data length of a reply. -/
def maxData : Nat := 160

end Sys2Proof.Machine
end

