-- ==== Sys2Proof/Machine/Flags.lean ====
section
/-! DEFINITION. The flags of a reply, the reply slot and the notice queue of one port (R182, R184, R185, R190). -/

namespace Sys2Proof.Machine

/-- Byte 1 of a reply: bit 0 OVERRUN, bit 1 notice overflow, the other bits 0 (R190). -/
def Reply.flags (r : Reply) : Nat := (if r.overrun then 1 else 0) + (if r.noticeOverflow then 2 else 0)

/-- A reply as the port clocks it out: status, flags, data length, data (R190). -/
def Reply.bytes (r : Reply) : List Byte :=
  bigEndian 1 r.status.code ++ bigEndian 1 r.flags ++ bigEndian 1 r.data.length ++ r.data

/-- What a port with no reply waiting clocks out before its fill: NONE, flags 0, length 0 (R182). -/
def noReplyBytes : List Byte := [0, 0, 0]

/-- The slot after a transaction that clocked out `clocked` bytes: a reply whose three header bytes were clocked out is read
and the slot is NONE; otherwise it stays as it is (R182, "First"). -/
def readSlot (slot : Option Reply) (clocked : Nat) : Option Reply := if 3 ≤ clocked then none else slot

/-- The slot after a reply is placed: a reply that replaces an unread one carries OVERRUN (R182, "Second"). -/
def placeReply (slot : Option Reply) (status : Status) (noticeOverflow : Bool) (data : List Byte) : Option Reply :=
  some { status := status, overrun := slot.isSome, noticeOverflow := noticeOverflow, data := data }

/-- The length of a full notice queue (R184). -/
def noticeCapacity : Nat := 16

/-- A notice offered to a port joins its queue, or is dropped with the overflow mark set where the queue is full (R184). -/
def Port.offer (p : Port) (n : Notice) : Port :=
  if p.notices.length < noticeCapacity then { p with notices := p.notices ++ [n] } else { p with overflow := true }

/-- The subscription table of 11 section 11.5. -/
def NoticeKind.subscribed : NoticeKind → Role → Bool
  | .clipped, r => r != .banquet
  | .feedState, _ => true
  | .zoneState, r => r != .energy
  | .programState, r => r == .production
  | .lineFault, r => r == .warewash
  | .rackVerdict, r => r == .warewash
  | .linePermit, r => r == .warewash
  | .restockTask, r => r != .energy
  | .courseState, r => r == .production || r == .banquet
  | .pageClosed, _ => true
  | .pageDropped, r => r == .banquet
  | .linkState, r => r == .banquet
  | .lateAck, r => r == .banquet
  | .portState, _ => true

end Sys2Proof.Machine
end

