-- ==== Sys2Proof/Machine/Ops.lean ====
section
/-! DEFINITION. The named operations on the state that every block uses: one entry of a table replaced, a notice posted, an
answer given. -/

namespace Sys2Proof.Machine

/-- What `exec` and `step` answer. -/
abbrev Result := Host.Outcome State Fault Refusal

/-- The part runs: it is neither held in reset nor in its stability wait (R192). -/
def State.running (s : State) : Bool := s.chip.phase == .running

/-! ### One entry replaced -/

def State.setLoad (s : State) (n : LoadId) (v : LoadPoint) : State := { s with loads := s.loads.set n v }
def State.setZone (s : State) (z : ZoneId) (v : Zone) : State := { s with zones := s.zones.set z (some v) }
def State.setWare (s : State) (k : WareId) (v : Ware) : State := { s with wares := s.wares.set k v }
def State.setCourse (s : State) (c : CourseId) (v : Option Course) : State :=
  { s with courses := { s.courses with slots := s.courses.slots.set c v } }
def State.setStaff (s : State) (e : EntryId) (v : Staff) : State :=
  { s with roster := { s.roster with entries := s.roster.entries.set e v } }
def State.setFree (s : State) (r : StaffRole) (l : List EntryId) : State :=
  { s with roster := { s.roster with free := s.roster.free.set r.index l } }
def State.setPort (s : State) (p : PortId) (v : Port) : State := { s with ports := s.ports.set p v }

/-- A defined zone changed by `f`; an undefined one is left undefined. -/
def State.changeZone (s : State) (z : ZoneId) (f : Zone → Zone) : State :=
  match s.zones.get z with
  | some r => s.setZone z (f r)
  | none => s

/-! ### All the numbers of a collection, ascending -/

def allLoads : List LoadId := List.finRange 48
def allZones : List ZoneId := List.finRange 32
def allPorts : List PortId := List.finRange 4
def allCourses : List CourseId := List.finRange 16
def allEntries : List EntryId := List.finRange 64
def allSlices : List (Fin 100) := List.finRange 100

/-! ### Notices -/

/-- A notice is offered at once to every port whose role subscribes to its kind, stamped with the kitchen clock (R184, R189). -/
def post (kind : NoticeKind) (object value : Nat) (s : State) : State :=
  { s with ports := s.ports.map fun p =>
      if kind.subscribed p.role then p.offer { kind := kind, object := object, value := value, time := s.time.clock } else p }

/-! ### Answers -/

/-- What a request is answered with: the reply's status, its notice-overflow flag and data, and the state it leaves. -/
structure Answer where
  status : Status
  noticeOverflow : Bool
  data : List Byte
  state : State
  deriving DecidableEq, Repr

/-- A refused command changes nothing in any block, and its reply has no data (R181, R190). -/
def refuse (why : Status) (s : State) : Answer := { status := why, noticeOverflow := false, data := [], state := s }

/-- Taken as given. -/
def accept (s : State) : Answer := { status := .ok, noticeOverflow := false, data := [], state := s }

/-- Taken as given, with reply data. -/
def reply (data : List Byte) (s : State) : Answer := { status := .ok, noticeOverflow := false, data := data, state := s }

/-- Taken, with CLAMPED where a value was brought into its range. -/
def acceptClamped (moved : Bool) (data : List Byte) (s : State) : Answer :=
  { status := if moved then .clamped else .ok, noticeOverflow := false, data := data, state := s }

end Sys2Proof.Machine
end

