-- ==== Sys2Proof/Machine/Paging.lean ====
section
/-! DEFINITION. The Paging Controller's own operations: pages created and closed, staff released, causes and clearing events,
candidates and the arbiter's choice (09_staff_roster_and_paging.md). The commands that use them are in Staff.lean. -/

namespace Sys2Proof.Machine

/-- The length of a full page queue (R155). -/
def pageCapacity : Nat := 32
/-- The length of a full cancel list (R167). -/
def cancelCapacity : Nat := 32

/-- The live page with a given id. -/
def State.page? (s : State) (id : PageId) : Option Page := s.desk.pages.find? (fun p => p.id == id)

/-- A roster entry. -/
def State.staff (s : State) (e : EntryId) : Staff := s.roster.entries.get e

/-- The free list of a role. -/
def State.freeList (s : State) (r : StaffRole) : List EntryId := s.roster.free.get r.index

/-- The live page with a given id, changed by `f`. -/
def updatePage (id : PageId) (f : Page → Page) (s : State) : State :=
  { s with desk := { s.desk with pages := s.desk.pages.map fun p => if p.id = id then f p else p } }

/-- A page leaves the queue; the pages behind it keep their order (R155). -/
def removePage (id : PageId) (s : State) : State :=
  { s with desk := { s.desk with pages := s.desk.pages.filter fun p => p.id ≠ id } }

/-- A page leaves the re-offer list, if it is on it. -/
def dropReoffer (id : PageId) (s : State) : State :=
  { s with desk := { s.desk with reoffers := s.desk.reoffers.filter (· ≠ id) } }

/-- A cancel request joins the tail of the cancel list; a full list discards its oldest (R167). -/
def pushCancel (r : CancelRequest) (s : State) : State :=
  { s with desk := { s.desk with cancels :=
      (if s.desk.cancels.length < cancelCapacity then s.desk.cancels else s.desk.cancels.drop 1) ++ [r] } }

/-! ### Staff -/

/-- An entry becomes FREE and joins the tail of its role's free list (R151). -/
def becomeFree (e : EntryId) (s : State) : State :=
  let m := s.staff e
  (s.setStaff e { m with duty := .free, current := none, suspended := none }).setFree m.role (s.freeList m.role ++ [e])

/-- An entry leaves its role's free list (R151). -/
def leaveFree (e : EntryId) (s : State) : State :=
  s.setFree (s.staff e).role ((s.freeList (s.staff e).role).filter (· ≠ e))

/-- An entry becomes ASSIGNED to a page, the assignment counted now (R163, R164). -/
def becomeAssigned (e : EntryId) (id : PageId) (suspended : Option PageId) (s : State) : State :=
  let s' := s.setStaff e { s.staff e with
    duty := .assigned, current := some id, suspended := suspended, since := s.roster.nextStamp }
  { s' with roster := { s'.roster with nextStamp := s.roster.nextStamp + 1 } }

/-- An entry is released (R163): it takes up its suspended page, or else becomes FREE. -/
def release (e : EntryId) (s : State) : State :=
  match (s.staff e).suspended with
  | some q => updatePage q (fun p => { p with state := .accepted }) (becomeAssigned e q none s)
  | none => becomeFree e s

/-! ### Pages created -/

/-- The first id, counting upward from the id counter and wrapping, that no live page holds (R155). With at most 32 live pages
one is always found. -/
def freePageId (d : PageDesk) : PageId :=
  (((List.range 256).map fun i => d.nextId + Fin.ofNat 256 i).find?
    fun id => d.pages.all fun p => p.id ≠ id).getD d.nextId

/-- A page is created at the tail of the queue (R155, R156). -/
def addPage (source : Fin 6) (cause object : Nat) (role : StaffRole) (group : PageGroup) (closure : Closure) (s : State) :
    State :=
  let id := freePageId s.desk
  let page : Page :=
    { id := id, source := source, cause := cause, object := object, role := role, group := group,
      level := s.desk.levels.get source, closure := closure, state := .queued, target := none, step := 0, excluded := none,
      ackTimer := none, created := s.time.clock }
  { s with desk := { s.desk with pages := s.desk.pages ++ [page], nextId := id + 1 } }

/-! ### Pages closed -/

/-- A page enters CLOSED: it leaves the queue and the re-offer list, and PAGE_CLOSED is posted (R155, R168). -/
def closePage (p : Page) (outcome : Outcome) (s : State) : State :=
  post .pageClosed p.id.val (outcome.code * 256 + p.cause) (dropReoffer p.id (removePage p.id s))

/-- A page is closed by a master or by its clearing event, with the further actions of the table of R166. -/
def retirePage (p : Page) (outcome : Outcome) (s : State) : State :=
  match p.state, p.target with
  | .offered, some e => release e (closePage p outcome (pushCancel { page := p.id, address := (s.staff e).address } s))
  | .accepted, some e => release e (closePage p outcome s)
  | .suspended, some e =>
    let s := closePage p outcome s
    s.setStaff e { s.staff e with suspended := none }
  | _, _ => closePage p outcome s

/-- A page returns to QUEUED with no target and its timer stopped, off the re-offer list; its step and excluded entry are as
`f` leaves them. -/
def requeuePage (id : PageId) (f : Page → Page) (s : State) : State :=
  dropReoffer id (updatePage id (fun p => { f p with state := .queued, target := none, ackTimer := none }) s)

/-! ### Causes and clearing events -/

/-- The lowest level among the QUEUED pages (R157). -/
def lowestQueued (pages : List Page) : Option Nat :=
  (pages.filter fun p => p.state == .queued).foldl
    (fun m p => match m with | none => some p.level | some v => some (min v p.level)) none

/-- The youngest QUEUED page at a level (R157). -/
def youngestQueued (pages : List Page) (level : Nat) : Option Page :=
  (pages.filter fun p => p.state == .queued && p.level == level).getLast?

/-- An owner block raises a cause (R156): suppressed by a live page of the same code and object, else a new page, and with a
full queue as R157 decides. -/
def raise (c : Cause) (group : PageGroup) (object : Nat) (s : State) : State :=
  if s.desk.pages.any fun p => p.cause == c.code && p.object == object then s
  else if s.desk.pages.length < pageCapacity then addPage c.source c.code object c.role group c.closure s
  else
    let dropped :=
      match lowestQueued s.desk.pages with
      | some m => if m < s.desk.levels.get c.source then youngestQueued s.desk.pages m else none
      | none => none
    match dropped with
    | some p => addPage c.source c.code object c.role group c.closure (closePage p .dropped s)
    | none => post .pageDropped c.code object s

/-- The clearing event of an EVENT cause closes the live EVENT page of its code and object, if there is one (R167). -/
def clearEvent (c : Cause) (object : Nat) (s : State) : State :=
  match s.desk.pages.find? fun p => p.closure == .event && p.cause == c.code && p.object == object with
  | some p => retirePage p .event s
  | none => s

/-! ### Off duty -/

/-- An entry goes off duty (R154). -/
def goOffDuty (e : EntryId) (s : State) : State :=
  let m := s.staff e
  let s := leaveFree e s
  let s :=
    match m.current with
    | some id =>
      let s :=
        match s.page? id with
        | some p => if p.state = .offered then pushCancel { page := id, address := m.address } s else s
        | none => s
      requeuePage id (fun p => p) s
    | none => s
  let s :=
    match m.suspended with
    | some id => requeuePage id (fun p => p) s
    | none => s
  s.setStaff e { s.staff e with duty := .offDuty, current := none, suspended := none }

/-! ### Expiries and answers -/

/-- The ack timer of an OFFERED page expires, or its PAGE is answered UNREACHABLE (R165). -/
def ackExpiry (p : Page) (s : State) : State :=
  match p.state, p.target with
  | .offered, some e =>
    match p.step with
    | 0 =>
      let s := updatePage p.id (fun p => { p with step := 1, ackTimer := none }) s
      { s with desk := { s.desk with reoffers := s.desk.reoffers ++ [p.id] } }
    | 1 => release e (requeuePage p.id (fun p => { p with step := 2, excluded := some e }) s)
    | 2 =>
      release e (requeuePage p.id
        (fun p => { p with step := 3, role := .captain, group := .any, excluded := some e }) s)
    | _ => release e (closePage p .unanswered s)
  | _, _ => s

/-- The PAGE of a page timed out on the link: the page is withdrawn to QUEUED, its step and excluded entry kept, and its target
released (R165, R175). -/
def withdrawPage (p : Page) (s : State) : State :=
  match p.state, p.target with
  | .offered, some e => release e (requeuePage p.id (fun p => p) s)
  | _, _ => s

/-- ACCEPT of an OFFERED page by its target (R164). -/
def answerAccept (p : Page) (e : EntryId) (s : State) : State :=
  match p.closure with
  | .info => release e (closePage p .acceptedInfo s)
  | .task | .event =>
    let s := dropReoffer p.id (updatePage p.id (fun p => { p with state := .accepted, ackTimer := none }) s)
    becomeAssigned e p.id (s.staff e).suspended s

/-- DECLINE of an OFFERED page by its target (R164). -/
def answerDecline (p : Page) (e : EntryId) (s : State) : State :=
  release e (requeuePage p.id (fun p => { p with step := max 2 p.step, excluded := some e }) s)

/-- DONE of an OFFERED or ACCEPTED page by its target (R164). -/
def answerDone (p : Page) (e : EntryId) (s : State) : State := release e (closePage p .done s)

/-! ### Candidates and the arbiter's choice -/

/-- Whether an entry matches a page (R160). -/
def entryMatches (s : State) (p : Page) (e : EntryId) : Bool :=
  (s.staff e).role == p.role &&
    (match p.group with | .any => true | .group g => (s.staff e).group == g) && p.excluded != some e

/-- The matching entry that has been FREE the longest (R160). -/
def freeCandidate (s : State) (p : Page) : Option EntryId := (s.freeList p.role).find? (entryMatches s p)

/-- The level of an entry's current page. -/
def heldLevel (s : State) (e : EntryId) : Option Nat := ((s.staff e).current.bind s.page?).map (·.level)

/-- The entry that a level 3 page without a free candidate preempts (R160). -/
def preemptionCandidate (s : State) (p : Page) : Option EntryId :=
  if p.level ≠ 3 then none
  else
    let open_ := allEntries.filter fun e =>
      entryMatches s p e && (s.staff e).duty == .assigned && (s.staff e).suspended.isNone &&
        (match heldLevel s e with | some l => decide (l ≤ 2) | none => false)
    (sortBy (fun a b =>
      let la := (heldLevel s a).getD 0
      let lb := (heldLevel s b).getD 0
      decide (la < lb) || (la == lb && decide ((s.staff a).since ≤ (s.staff b).since))) open_).head?

/-- A page's candidate (R160). -/
def candidate (s : State) (p : Page) : Option EntryId :=
  match freeCandidate s p with
  | some e => some e
  | none => preemptionCandidate s p

/-- The QUEUED page that the arbiter offers next: the highest level, then the lowest source group, then the oldest, among those
that have a candidate (R161). -/
def nextOffer (s : State) : Option (Page × EntryId) :=
  let open_ := s.desk.pages.filter fun p => p.state == .queued && (candidate s p).isSome
  (sortBy (fun a b => decide (b.level < a.level) || (a.level == b.level && decide (a.source.val ≤ b.source.val)))
    open_).head?.bind fun p => (candidate s p).map fun e => (p, e)

end Sys2Proof.Machine
end

