-- ==== Sys2Proof/Machine/Arbiter.lean ====
section
/-! DEFINITION. The link's arbiter: its three grants, and which of them is due (R161, R162). -/

namespace Sys2Proof.Machine

/-! ### Sending a message (R173) -/

/-- A message becomes the outstanding message and its frame is sent; the response timer waits for its last byte (R173). -/
def sendMessage (o : Outstanding) (frame : List Byte) (s : State) : State :=
  { s with link := { s.link with outstanding := o, transmitting := frame, responseTimer := none } }

/-- The PAGE of a page for a pager address is sent (R162, R171). -/
def sendPage (p : Page) (address : Nat) (s : State) : State :=
  sendMessage (.page p.id address) (pageFrame p.id.val address p.cause p.object p.level) s

/-! ### The arbiter's grants (R161, R162) -/

/-- The link may be granted: it is UP and holds no outstanding message (R161). -/
def linkFree (s : State) : Bool := s.link.up && s.link.outstanding == .none

/-- The oldest cancel request is granted (R161). -/
def grantCancel (s : State) : State :=
  match s.desk.cancels with
  | r :: rest =>
    if linkFree s then
      sendMessage (.cancel r.page r.address) (cancelFrame r.page.val r.address)
        { s with desk := { s.desk with cancels := rest } }
    else s
  | [] => s

/-- The oldest re-offer is granted where no cancel request waits (R161). -/
def grantReOffer (s : State) : State :=
  match s.desk.reoffers with
  | id :: rest =>
    if linkFree s ∧ s.desk.cancels = [] then
      let s := { s with desk := { s.desk with reoffers := rest } }
      match s.page? id with
      | some p =>
        match p.target with
        | some e => sendPage p (s.staff e).address s
        | none => s
      | none => s
    else s
  | [] => s

/-- A page is offered to an entry (R162). -/
def offerPage (p : Page) (e : EntryId) (s : State) : State :=
  let m := s.staff e
  let s := updatePage p.id (fun p => { p with state := .offered, target := some e, ackTimer := none }) s
  let s :=
    match m.duty with
    | .assigned =>
      match m.current with
      | some q =>
        (updatePage q (fun p => { p with state := .suspended }) s).setStaff e
          { m with duty := .paged, current := some p.id, suspended := some q }
      | none => s.setStaff e { m with duty := .paged, current := some p.id }
    | .offDuty | .free | .paged => (leaveFree e s).setStaff e { m with duty := .paged, current := some p.id }
  sendPage p m.address s

/-- A new offer is granted where neither a cancel request nor a re-offer waits (R161). -/
def grantOffer (s : State) : State :=
  if linkFree s ∧ s.desk.cancels = [] ∧ s.desk.reoffers = [] then
    match nextOffer s with
    | some (p, e) => offerPage p e s
    | none => s
  else s

/-! ### The grant that is due (R161) -/

/-- The three kinds of request, in the order in which the arbiter takes them (R161). -/
inductive Grant where
  | cancel | reOffer | offer
  deriving DecidableEq, Repr

/-- The grant that is due: none while the link is DOWN or holds a message, or no request waits (R161). -/
def grantDue (s : State) : Option Grant :=
  if linkFree s = false then none
  else if s.desk.cancels ≠ [] then some .cancel
  else if s.desk.reoffers ≠ [] then some .reOffer
  else if (nextOffer s).isSome then some .offer
  else none

/-- The arbiter acts: the grant that is due, if there is one, is made (R161). -/
def arbitrate (s : State) : State :=
  match grantDue s with
  | some .cancel => grantCancel s
  | some .reOffer => grantReOffer s
  | some .offer => grantOffer s
  | none => s

end Sys2Proof.Machine
end

