-- ==== Sys2Proof/Machine/Transact.lean ====
section
/-! DEFINITION. What every transaction of a port does before and after its request is judged (R181, R182, R186, R187), and the
shape of an event of the part. Before either is taken the arbiter makes the grant that is due, since R161 makes it at once:
notes/assumptions/1.md. -/

namespace Sys2Proof.Machine

/-- A port's supervision timer at its full interval: stopped where the interval is 0 (R186). -/
def fullInterval (interval : Nat) : Option Nat := if interval = 0 then none else some (interval * 100)

/-- A frame is taken from a port: a SILENT port returns to ACTIVE (R187), and the timer of a port with an interval restarts
(R186). -/
def takeFrame (p : PortId) (s : State) : State :=
  let r := s.ports.get p
  if r.silent then
    let s := s.setPort p { r with silent := false }
    let s := clearEvent .portSilent p.val s
    let s := post .portState p.val 1 s
    let r := s.ports.get p
    s.setPort p { r with timer := fullInterval r.interval }
  else s.setPort p { r with timer := if r.interval = 0 then r.timer else fullInterval r.interval }

/-- The reply slot is dealt with first (R182). -/
def clockOut (p : PortId) (clocked : Nat) (s : State) : State :=
  let r := s.ports.get p
  s.setPort p { r with slot := readSlot r.slot clocked }

/-- The reply of a request is placed in the slot (R182). -/
def placeAnswer (p : PortId) (a : Answer) : State :=
  let r := a.state.ports.get p
  a.state.setPort p { r with slot := placeReply r.slot a.status a.noticeOverflow a.data }

/-- Everything that precedes the judgement of a request: the frame is counted and the slot dealt with. -/
def openTransaction (p : PortId) (clocked : Nat) (s : State) : State := clockOut p clocked (takeFrame p s)

/-- A transaction of at least one byte at a port. In reset a port takes nothing, and a chip select that was low when the part
left reset is ignored until this rise of it (R192). `body` is what the transaction does once its frame is counted. -/
def transaction (p : PortId) (clocked : Nat) (body : State → State) (s : State) : State :=
  if s.running = false then s
  else
    let s := arbitrate s
    if (s.ports.get p).csIgnored then s.setPort p { s.ports.get p with csIgnored := false }
    else body (openTransaction p clocked s)

/-- The judgement of a well-formed request whose code is in the table (R181, steps 2 to 4). -/
def judge (t : Transfer) (roles : List Role) (body : State → Answer) (s : State) : Answer :=
  if (s.ports.get t.port).role ∉ roles then refuse .denied s
  else if t.lengthOk = false then refuse .range s
  else body s

/-- A port command permitted to the roles given. -/
def command (t : Transfer) (roles : List Role) (body : State → Answer) (s : State) : Result :=
  .next (transaction t.port t.clocked (fun s => placeAnswer t.port (judge t roles body s)) s)

/-- "All" of the command table. -/
def allRoles : List Role := [.production, .warewash, .banquet, .energy]

/-- An event of the field side, the link or the part's own timers: nothing happens while the part is held in reset (R192). -/
def event (f : State → State) (s : State) : Result := .next (if s.running then f (arbitrate s) else s)

/-- A grant of the arbiter (R161): no other comes before it. -/
def grant (f : State → State) (s : State) : Result := .next (if s.running then f s else s)

end Sys2Proof.Machine
end

