-- ==== Sys2Proof/Machine/Loads.lean ====
section
/-! DEFINITION. Load points, cuts and the class map (01_load_points_and_the_class_map.md; R34, R37, R39 for the cuts). -/

namespace Sys2Proof.Machine

/-! ### Cuts -/

/-- The on-slices of a load point from the current slice onward (R4). -/
def remaining (slice : Nat) (l : LoadPoint) : List Nat := l.onSlices.filter (slice ≤ ·)

/-- The slice sums with a placed rating taken out of some slices. -/
def lowerSums (sums : Table 100 Nat) (slices : List Nat) (rating : Nat) : Table 100 Nat :=
  Table.build 100 fun i => if i.val ∈ slices then sums.get i - rating else sums.get i

/-- A named cut of one load point in the current frame (R37). A load point with no remaining on-slices is left as it was. -/
def cutLoad (n : LoadId) (s : State) : State :=
  let l := s.loads.get n
  let rem := remaining s.time.slice l
  if rem = [] then s
  else
    { s.setLoad n { l with onSlices := l.onSlices.filter (· < s.time.slice), cut := true } with
      alloc := { s.alloc with sums := lowerSums s.alloc.sums rem l.placed } }

/-- Every load point of a list cut in turn (R38). -/
def cutLoads (ns : List LoadId) (s : State) : State := ns.foldl (fun s n => cutLoad n s) s

/-- The current frame is discarded: every remaining on-slice is removed and every remaining slice sum falls to 0 (R39). -/
def discardFrame (s : State) : State :=
  let s := cutLoads allLoads s
  { s with alloc := { s.alloc with
      sums := Table.build 100 fun i => if s.time.slice ≤ i.val then 0 else s.alloc.sums.get i } }

/-! ### Resolution -/

/-- A valid window matches a load point on the bits that its mask makes significant (R10). -/
def Window.matchesLoad (w : Window) (n : LoadId) : Bool :=
  w.valid && (BitVec.ofNat 6 n.val &&& w.mask == w.base &&& w.mask)

/-- The valid windows that match a load point (R9, R18), in ascending number. DESIGN CHOICE, notes/assumptions/17.md: R18 and
R190 give MAP_QUERY's set of them no order. -/
def matchingWindows (m : ClassMap) (n : LoadId) : List (Fin 6) :=
  (List.finRange 6).filter fun w => (m.windows.get w).matchesLoad n

/-- The more restrictive of two classes (R11). -/
def LoadClass.tighter (a b : LoadClass) : LoadClass := if a.code < b.code then b else a

/-- The resolved class of a load point and its deciding entry (R9, R11). -/
def resolveClass (m : ClassMap) (n : LoadId) : LoadClass × Deciding :=
  if m.enabled = false then (.lockout, .mapOff)
  else
    match (if m.fixedEnabled then index? 16 n.val else none) with
    | some e => (m.fixed.get e, .fixed e)
    | none =>
      let ws := matchingWindows m n
      let cls := ws.foldl (fun c w => LoadClass.tighter c (m.windows.get w).cls) .essential
      match ws.find? fun w => (m.windows.get w).cls == cls with
      | some w => (cls, .window w)
      | none => (m.default, .default)

/-- One load point resolved anew: a change to LOCKOUT is in force at once and cuts it, any other waits (R13). -/
def resolveLoad (n : LoadId) (s : State) : State :=
  let l := s.loads.get n
  let r := resolveClass s.map n
  if r.1 = .lockout ∧ l.effective ≠ .lockout then
    cutLoad n (s.setLoad n { l with resolved := r.1, deciding := r.2, effective := .lockout })
  else s.setLoad n { l with resolved := r.1, deciding := r.2 }

/-- A map command that is taken: the items, and then all 48 load points resolved anew (R13). -/
def changeMap (m : ClassMap) (s : State) : State := allLoads.foldl (fun s n => resolveLoad n s) { s with map := m }

/-! ### Commands -/

/-- LOAD_SET (R4). -/
def loadSet (load rating : Nat) (s : State) : Answer :=
  match index? 48 load with
  | none => refuse .range s
  | some n =>
    if 400 < rating then refuse .range s
    else accept (cutLoad n (s.setLoad n { s.loads.get n with rating := rating }))

/-- A load point's line is on in a slice of the current frame when the slice is in its on-slice set (R31). -/
def LoadPoint.isOn (l : LoadPoint) (slice : Nat) : Bool := l.onSlices.contains slice

/-- The data of LOAD_QUERY (R7). -/
def loadData (n : LoadId) (s : State) : List Byte :=
  let l := s.loads.get n
  bigEndian 1 n.val ++ bigEndian 2 l.rating ++ optionalBytes 1 (l.binding.map (·.val)) ++ bigEndian 1 l.effective.code ++
    bigEndian 1 l.resolved.code ++ bigEndian 1 l.requested ++ bigEndian 1 l.granted ++
    bigEndian 1 (l.onSlices.filter (· < s.time.slice)).length ++ bigEndian 1 (remaining s.time.slice l).length ++
    flagByte (l.isOn s.time.slice) ++ bigEndian 1 l.deficit ++ flagByte l.cut

/-- LOAD_QUERY (R7). -/
def loadQuery (load : Nat) (s : State) : Answer :=
  match index? 48 load with
  | none => refuse .range s
  | some n => reply (loadData n s) s

/-- MAP_FIXED (R15). -/
def mapFixed (entry cls : Nat) (s : State) : Answer :=
  match index? 16 entry, LoadClass.ofCode? cls with
  | some e, some c => accept (changeMap { s.map with fixed := s.map.fixed.set e c } s)
  | _, _ => refuse .range s

/-- MAP_WINDOW (R16). -/
def mapWindow (window base mask cls valid : Nat) (s : State) : Answer :=
  match index? 6 window, LoadClass.ofCode? cls with
  | some w, some c =>
    let m : Window := {
      valid := settingOr Config.otherValid valid, base := BitVec.ofNat 6 base, mask := BitVec.ofNat 6 mask, cls := c }
    acceptClamped (63 < base || 63 < mask) [] (changeMap { s.map with windows := s.map.windows.set w m } s)
  | _, _ => refuse .range s

/-- MAP_DEFAULT (R17). -/
def mapDefault (cls : Nat) (s : State) : Answer :=
  match LoadClass.ofCode? cls with
  | some c => accept (changeMap { s.map with default := c } s)
  | none => refuse .range s

/-- MAP_ENABLE (R17). No setting refuses it. -/
def mapEnable (mapOn fixedOn : Nat) (s : State) : Answer :=
  accept (changeMap { s.map with
    enabled := settingOr Config.otherMapEnable mapOn, fixedEnabled := settingOr Config.otherFixedEnable fixedOn } s)

/-- The data of MAP_QUERY (R18). -/
def mapData (n : LoadId) (s : State) : List Byte :=
  let l := s.loads.get n
  bigEndian 1 n.val ++ bigEndian 1 l.resolved.code ++ decidingBytes l.deciding ++
    listBytes ((matchingWindows s.map n).map (·.val)) ++ bigEndian 1 l.effective.code ++
    flagByte (l.resolved != l.effective) ++ flagByte s.map.enabled ++ flagByte s.map.fixedEnabled ++
    bigEndian 1 s.map.default.code

/-- MAP_QUERY (R18). -/
def mapQuery (load : Nat) (s : State) : Answer :=
  match index? 48 load with
  | none => refuse .range s
  | some n => reply (mapData n s) s

/-! ### The meanings of the commands -/

def execLoadSet (t : Transfer) (load rating : Nat) (s : State) : Result :=
  command t [.production, .energy] (loadSet load rating) s

def execLoadQuery (t : Transfer) (load : Nat) (s : State) : Result := command t allRoles (loadQuery load) s

def execMapFixed (t : Transfer) (entry cls : Nat) (s : State) : Result := command t [.energy] (mapFixed entry cls) s

def execMapWindow (t : Transfer) (window base mask cls valid : Nat) (s : State) : Result :=
  command t [.energy] (mapWindow window base mask cls valid) s

def execMapDefault (t : Transfer) (cls : Nat) (s : State) : Result := command t [.energy] (mapDefault cls) s

def execMapEnable (t : Transfer) (mapOn fixedOn : Nat) (s : State) : Result :=
  command t [.energy] (mapEnable mapOn fixedOn) s

def execMapQuery (t : Transfer) (load : Nat) (s : State) : Result := command t allRoles (mapQuery load) s

end Sys2Proof.Machine
end

