-- ==== Sys2Proof/Machine/ZoneRecord.lean ====
section
/-! DEFINITION. The zone record on its own: limits of the kinds, the active setpoint, the duty request, the over test, and the
record's part of a change of state (04_sensor_channels_and_heat_zones.md). What a change of state does elsewhere is in
ZoneMoves.lean. -/

namespace Sys2Proof.Machine

/-- The setpoint range of a kind (04 section 4.2). -/
def ZoneKind.setpointRange : ZoneKind → Nat × Nat
  | .oven => (300, 2800)
  | .warmer => (300, 900)
  | .washTank => (400, 800)
  | .rinseBooster => (600, 920)

/-- A setpoint clamped into its kind's range (R61). -/
def ZoneKind.clampSetpoint (k : ZoneKind) (v : Nat) : Nat := clampTo k.setpointRange.1 k.setpointRange.2 v

/-- The absolute limit of a kind (R75). -/
def ZoneKind.absoluteLimit : ZoneKind → Nat
  | .oven => 3000
  | .warmer => 1100
  | .washTank => 900
  | .rinseBooster => 990

/-- The kind rights: which role may command a zone of a kind (R59). -/
def ZoneKind.commandedBy : ZoneKind → Role
  | .oven | .warmer => .production
  | .washTank | .rinseBooster => .warewash

/-- The states in which a zone heats: those that a pause acts on (R73). -/
def ZoneState.heating : ZoneState → Bool
  | .preheat | .soak | .ready | .recover | .standby => true
  | .off | .paused | .fault => false

/-- The setpoint that a zone in a state regulates to (R64). -/
def Zone.setpointFor (z : Zone) : ZoneState → Nat
  | .standby => z.standby.getD z.setpoint
  | .paused => z.fallback
  | .fault => z.active
  | .off | .preheat | .soak | .ready | .recover => z.setpoint

/-- The active setpoint set to a value: a lowering disarms the over test and zeroes the over count (R74). -/
def Zone.setActive (z : Zone) (v : Nat) : Zone :=
  if v < z.active then { z with active := v, overArmed := false, overCount := 0 } else { z with active := v }

/-- The over level (R74). -/
def Zone.overLevel (z : Zone) : Nat := z.active + z.margin

/-- Whether a reading lies in the window: at or above the active setpoint less the tolerance (R67). -/
def Zone.inWindow (z : Zone) (reading : Nat) : Bool := decide (z.active ≤ reading + z.tolerance)

/-- A soak of `seconds` in ticks (R67). -/
def soakTicks (seconds : Nat) : Nat := 100 * seconds

/-- The record's part of an entry into a state: timers of the state left are abandoned, the entered state's timer starts, and
the active setpoint is the state's (R64, R66 to R73, R76). The standby timer is the Ware Table's report to start (R71). That
every entry clears the ZONE_SLOW-raised mark, and not the one into RECOVER alone (R69), is a DESIGN CHOICE,
notes/assumptions/34.md. -/
def Zone.enter (z : Zone) (st : ZoneState) : Zone :=
  let z := { z with state := st, soakTimer := none, recoverTimer := none, slowRaised := false, standbyTimer := none }
  let z := z.setActive (z.setpointFor st)
  match st with
  | .soak => { z with soakTimer := some (soakTicks z.soakTime) }
  | .recover => { z with recoverTimer := some 0 }
  | .off => { z with overArmed := false, overCount := 0, faultCause := .none, cleanCount := 0 }
  | .fault => { z with overCount := 0, cleanCount := 0 }
  | .preheat | .ready | .standby | .paused => z

/-- The duty request for a reading (R65). -/
def dutyFor (active band reading : Nat) : Nat :=
  if active ≤ reading then 0
  else if band ≤ active - reading then 100
  else ceilDiv (100 * (active - reading)) band

/-- The duty request that a zone computes at a boundary (R65). -/
def Zone.dutyRequest (z : Zone) (reading : Nat) : Nat :=
  match z.state with
  | .off | .fault => 0
  | .preheat | .soak | .ready | .recover | .standby | .paused => dutyFor z.active z.band reading

/-- The over test of a reading in a state that makes it (R74). -/
def Zone.overTest (z : Zone) (reading : Nat) : Zone :=
  if reading ≤ z.overLevel then { z with overCount := 0, overArmed := true }
  else if z.overArmed then { z with overCount := z.overCount + 1 }
  else z

/-- The clean count after a conversion in FAULT: a rail code, or a reading above either level, sets it to 0 (R76). -/
def Zone.countClean (z : Zone) (reading : Option Nat) : Zone :=
  match reading with
  | some v =>
    if v ≤ z.overLevel ∧ v ≤ z.kind.absoluteLimit then { z with cleanCount := min 3 (z.cleanCount + 1) }
    else { z with cleanCount := 0 }
  | none => { z with cleanCount := 0 }

/-- The reading of a zone's channel. -/
def zoneReading (s : State) (z : Zone) : Nat := (s.scan.channels.get z.channel).reading

end Sys2Proof.Machine
end

