-- ==== Sys2Proof/Machine/Permit.lean ====
section
/-! DEFINITION. The conveyor permit and the rack minimums, which follow the states of the line's two zones and of the feed
(R100, R104, R105, R112). -/

namespace Sys2Proof.Machine

/-- The state in which a named zone stands for the line: OFF where it is not of the kind required, or not named (R100). -/
def standsIn (s : State) (zone : Option ZoneId) (kind : ZoneKind) : ZoneState :=
  match zone with
  | none => .off
  | some z =>
    match s.zones.get z with
    | some r => if r.kind = kind then r.state else .off
    | none => .off

/-- The state in which the wash zone stands. -/
def washState (s : State) : ZoneState := standsIn s s.line.wash .washTank
/-- The state in which the booster zone stands. -/
def boosterState (s : State) : ZoneState := standsIn s s.line.booster .rinseBooster

/-- Whether the feed state lets the permit be asserted (R112). -/
def FeedState.inService : FeedState → Bool
  | .normal | .stage1 | .stage2 => true
  | .sag | .restoreWait => false

/-- The conditions under which the conveyor permit is asserted (R112). -/
def permitCondition (s : State) : Bool :=
  s.line.configured && boosterState s == .ready && (washState s == .ready || washState s == .recover) &&
    s.feed.state.inService

/-- The permit is tested: it is asserted or withdrawn where its conditions have changed, with LINE_PERMIT posted (R112, R113). -/
def testPermit (s : State) : State :=
  if permitCondition s = s.line.permit then s
  else
    post .linePermit 0 (if permitCondition s then 1 else 0)
      { s with line := { s.line with permit := permitCondition s } }

/-- The racks of a stage, in queue order, changed by `f`. -/
def changeRacks (stage : Stage) (f : Rack → Rack) (s : State) : State :=
  { s with line := { s.line with racks := s.line.racks.map fun r => if r.stage = stage then f r else r } }

/-- A named zone enters OFF or FAULT: the minimums of the racks in its stage become 0 (R104, R105). -/
def zeroMinimums (z : ZoneId) (s : State) : State :=
  let s := if s.line.wash = some z then changeRacks .wash (fun r => { r with washMin := 0 }) s else s
  if s.line.booster = some z then changeRacks .rinse (fun r => { r with rinseMin := some 0 }) s else s

/-- A reading of a channel lowers the minimums of the racks in the stage of the zone that names it (R104, R105). -/
def lowerMinimums (channel : ChannelId) (reading : Nat) (s : State) : State :=
  let names (zone : Option ZoneId) : Bool :=
    match zone.bind s.zones.get with
    | some r => r.channel == channel
    | none => false
  let s :=
    if names s.line.wash then changeRacks .wash (fun r => { r with washMin := min r.washMin reading }) s else s
  if names s.line.booster then changeRacks .rinse (fun r => { r with rinseMin := r.rinseMin.map (min reading) }) s else s

end Sys2Proof.Machine
end

