-- ==== Sys2Proof/Machine/Feed.lean ====
section
/-! DEFINITION. The Feed Monitor (03_feed_supervision.md). -/

namespace Sys2Proof.Machine

/-- The feed state changes: the permit is tested at the change, and FEED_STATE is posted after what `within` does (R45, R50,
R112). -/
def enterFeedState (st : FeedState) (within : State → State) (s : State) : State :=
  let s := within (testPermit { s with feed := { s.feed with state := st } })
  post .feedState st.code s.feed.reading s

/-- Entry into SAG (R45). -/
def enterSag (s : State) : State :=
  let s := { s with feed := { s.feed with
    state := .sag, sagCount := 0, restoreCount := 0, waitTimer := none, restoreDue := false } }
  let s := raise .feedSag .any 0 (testPermit (discardFrame s))
  post .feedState FeedState.sag.code s.feed.reading s

/-- Entry into RESTORE_WAIT (R46). -/
def enterRestoreWait (s : State) : State :=
  enterFeedState .restoreWait id
    { s with feed := { s.feed with
        restoreCount := 0, waitTimer := some (100 * s.feed.restoreWait), waitLength := s.feed.restoreWait } }

/-- The percentage of nominal that a code gives (R43). -/
def feedPercent (code : BitVec 12) : Nat := code.toNat * 150 / 4095

/-- A reading tested in SAG (R46) or in another state (R44). -/
def testFeed (s : State) : State :=
  if s.feed.state = .sag then
    if s.feed.restoreThreshold ≤ s.feed.reading then
      let s := { s with feed := { s.feed with restoreCount := s.feed.restoreCount + 1 } }
      if s.feed.debounce ≤ s.feed.restoreCount then enterRestoreWait s else s
    else { s with feed := { s.feed with restoreCount := 0 } }
  else if s.feed.reading < s.feed.sagThreshold then
    let s := { s with feed := { s.feed with sagCount := s.feed.sagCount + 1 } }
    if s.feed.debounce ≤ s.feed.sagCount then enterSag s else s
  else { s with feed := { s.feed with sagCount := 0 } }

/-- One conversion of the feed sense channel (R43). -/
def feedConversion (code : BitVec 12) (s : State) : State :=
  testFeed { s with feed := { s.feed with code := code, reading := feedPercent code } }

/-- The restore wait timer expires: restore due is set (R47). -/
def waitExpiry (s : State) : State :=
  if s.feed.waitTimer.isSome then { s with feed := { s.feed with waitTimer := none, restoreDue := true } } else s

/-- The staged move of a boundary, in force for the frame built at it (R48, R49). -/
def stagedMove (s : State) : State :=
  match s.feed.state with
  | .restoreWait =>
    if s.feed.restoreDue then enterFeedState .stage1 id { s with feed := { s.feed with restoreDue := false } } else s
  | .stage1 => enterFeedState .stage2 id s
  | .stage2 => enterFeedState .normal (clearEvent .feedSag 0) s
  | .sag | .normal => s

/-- FEED_CONFIG (R52, R53). -/
def feedConfig (sag restore debounce wait : Nat) (s : State) : Answer :=
  if sag < 60 ∨ 95 < sag ∨ restore ≤ sag + 2 ∨ 98 < restore ∨ debounce < 1 ∨ 20 < debounce ∨ wait < 1 ∨ 120 < wait then
    refuse .range s
  else
    accept { s with feed := { s.feed with
      sagThreshold := sag, restoreThreshold := restore, debounce := debounce, restoreWait := wait, sagCount := 0,
      restoreCount := 0 } }

/-- The data of FEED_QUERY (R54). -/
def feedData (s : State) : List Byte :=
  let f := s.feed
  bigEndian 2 f.code.toNat ++ bigEndian 1 f.reading ++ bigEndian 1 f.state.code ++ bigEndian 1 f.sagThreshold ++
    bigEndian 1 f.restoreThreshold ++ bigEndian 1 f.debounce ++ bigEndian 1 f.restoreWait ++ bigEndian 1 f.sagCount ++
    bigEndian 1 f.restoreCount ++ flagByte f.waitTimer.isSome ++ bigEndian 2 (f.waitTimer.getD 0) ++
    bigEndian 1 f.waitLength ++ flagByte f.restoreDue ++ bigEndian 2 s.time.frame ++ bigEndian 1 s.time.slice

/-! ### The meanings -/

def execFeedConfig (t : Transfer) (sag restore debounce wait : Nat) (s : State) : Result :=
  command t [.energy] (feedConfig sag restore debounce wait) s

def execFeedQuery (t : Transfer) (s : State) : Result := command t allRoles (fun s => reply (feedData s) s) s

def execFeedConversion (code : BitVec 12) (s : State) : Result := event (feedConversion code) s

def execWaitTimerExpiry (s : State) : Result := event waitExpiry s

end Sys2Proof.Machine
end

