-- ==== Sys2Proof/Machine/Frame.lean ====
section
/-! DEFINITION. The allocation frame: slices, the boundary and its build, the feed limit and the shed level
(02_the_allocation_frame.md). -/

namespace Sys2Proof.Machine

/-! ### Eligibility (R23 to R25) -/

/-- Whether a shed level excludes a class, at a zone priority level (R24). -/
def shedExcludes (shed : Nat) (cls : LoadClass) (level : Nat) : Bool :=
  match cls with
  | .deferrable => decide (1 ≤ shed)
  | .staged => decide (3 ≤ shed) || (shed == 2 && decide (level ≤ 1))
  | .essential | .lockout => false

/-- Whether a feed state excludes a class (R25). -/
def feedExcludes (st : FeedState) (cls : LoadClass) : Bool :=
  match st with
  | .sag | .restoreWait => true
  | .stage1 => cls != .essential
  | .stage2 => cls == .deferrable || cls == .lockout
  | .normal => cls == .lockout

/-- The record of the zone that a load point is bound to. -/
def boundZone (s : State) (n : LoadId) : Option Zone := (s.loads.get n).binding.bind s.zones.get

/-- The priority level of the zone that a load point is bound to. -/
def boundLevel (s : State) (n : LoadId) : Nat :=
  match boundZone s n with
  | some z => z.level
  | none => 0

/-- How a load point stands in the frame being built (R23). -/
inductive Standing where
  | eligible | heldBack | idle
  deriving DecidableEq, Repr

/-- The first four conditions of R23: installed, bound to a zone that is neither OFF nor FAULT, not LOCKOUT, with a request. -/
def wantsHeat (s : State) (n : LoadId) : Bool :=
  let l := s.loads.get n
  decide (1 ≤ l.placed) &&
    (match boundZone s n with | some z => z.state != .off && z.state != .fault | none => false) &&
    l.effective != .lockout && decide (1 ≤ l.requested)

/-- A load point's standing at the boundary (R23). -/
def standing (s : State) (n : LoadId) : Standing :=
  if wantsHeat s n = false then .idle
  else if shedExcludes s.alloc.shed (s.loads.get n).effective (boundLevel s n) ||
      feedExcludes s.feed.state (s.loads.get n).effective then .heldBack
  else .eligible

/-! ### Grant order and placement (R26 to R28) -/

/-- The four keys of the grant order (R26). -/
def grantedBefore (s : State) (a b : LoadId) : Bool :=
  let la := s.loads.get a
  let lb := s.loads.get b
  if la.effective.code ≠ lb.effective.code then decide (la.effective.code < lb.effective.code)
  else if boundLevel s a ≠ boundLevel s b then decide (boundLevel s b < boundLevel s a)
  else if la.deficit ≠ lb.deficit then decide (lb.deficit < la.deficit)
  else decide (a.val ≤ b.val)

/-- The grant order of the frame being built (R26). -/
def grantOrder (s : State) : List LoadId :=
  sortBy (grantedBefore s) (allLoads.filter fun n => standing s n == .eligible)

/-- Whether a slice has room for a placed rating under the limit (R27). -/
def hasRoom (alloc : Allocator) (rating : Nat) (slice : Fin 100) : Bool := decide (alloc.sums.get slice + rating ≤ alloc.limit)

/-- The slices in scan order from the start pointer, wrapping past slice 99 (R28). -/
def scanOrder (start : Fin 100) : List (Fin 100) := (List.range 100).map fun i => start + Fin.ofNat 100 i

/-- The slices given to a load point: the first ones in scan order that have room, as many as it requests or finds (R27, R28). -/
def chosenSlices (alloc : Allocator) (start : Fin 100) (rating requested : Nat) : List (Fin 100) :=
  ((scanOrder start).filter (hasRoom alloc rating)).take requested

/-- One load point placed in the frame being built, with the start pointer before and after (R27, R28). -/
def placeLoad (acc : State × Fin 100) (n : LoadId) : State × Fin 100 :=
  let s := acc.1
  let l := s.loads.get n
  let chosen := chosenSlices s.alloc acc.2 l.placed l.requested
  let sums := Table.build 100 fun i => if i ∈ chosen then s.alloc.sums.get i + l.placed else s.alloc.sums.get i
  let slices := (allSlices.filter (· ∈ chosen)).map (·.val)
  ({ s.setLoad n { l with granted := chosen.length, onSlices := slices } with alloc := { s.alloc with sums := sums } },
   match chosen.getLast? with | some x => x + 1 | none => acc.2)

/-- The largest slice sum (R28). -/
def largestSum (sums : Table 100 Nat) : Nat := sums.items.foldl max 0

/-! ### The boundary (R19, R21, R29, R30) -/

/-- The new frame's counters and lengths (R19, R20). -/
def newFrameTime (t : TimeBase) : TimeBase :=
  { t with slice := 0, frame := (t.frame + 1) % 65536, sliceTicks := 0, sliceLength := t.slicePending }

/-- Every defined zone computes its duty request (R65). -/
def computeRequests (s : State) : State :=
  { s with zones := s.zones.map fun z => z.map fun r => { r with duty := r.dutyRequest (zoneReading s r) } }

/-- A load point as the boundary takes it: the old frame's placement gone, the new one's inputs in (R12, R21). -/
def takeLoadInputs (s : State) (l : LoadPoint) : LoadPoint :=
  { l with
    cut := false, onSlices := [], granted := 0, effective := l.resolved, placed := l.rating,
    requested := match l.binding.bind s.zones.get with | some z => z.duty | none => 0 }

/-- The inputs of the new frame are taken (R21). -/
def takeInputs (s : State) : State :=
  { s with
    loads := s.loads.map (takeLoadInputs s),
    alloc := { s.alloc with
      sums := Table.fill 100 0, order := [], limit := s.alloc.limitSetting, shed := s.alloc.shedSetting } }

/-- A load point's deficit after the build (R29). -/
def updateDeficit (st : Standing) (l : LoadPoint) : LoadPoint :=
  match st with
  | .eligible => { l with deficit := if l.granted < l.requested then min 15 (l.deficit + 1) else 0 }
  | .heldBack => l
  | .idle => { l with deficit := 0 }

/-- The frame built from its inputs: order, placement, peak, deficits (R26 to R29). -/
def buildFrame (s : State) : State :=
  let order := grantOrder s
  let placed := (order.foldl placeLoad (s, (0 : Fin 100))).1
  { placed with
    loads := Table.build 48 fun n => updateDeficit (standing s n) (placed.loads.get n),
    alloc := { placed.alloc with order := order, peak := largestSum placed.alloc.sums } }

/-- CLIPPED of one load point, where it is in the grant order, ESSENTIAL and short (R30). -/
def postClipped (s : State) (n : LoadId) : State :=
  let l := s.loads.get n
  if n ∈ s.alloc.order ∧ l.effective = .essential ∧ l.granted < l.requested then
    post .clipped n.val (l.requested - l.granted) s
  else s

/-- The frame boundary (R19, R21): counters, the staged move, the inputs, the build, the CLIPPED notices. -/
def frameBoundary (s : State) : State :=
  let s := stagedMove { s with time := newFrameTime s.time }
  allLoads.foldl postClipped (buildFrame (takeInputs (computeRequests s)))

/-- One slice length in force has passed: the next slice begins, or the frame ends (R19). -/
def sliceAdvance (s : State) : State :=
  if s.time.slice < 99 then { s with time := { s.time with slice := s.time.slice + 1, sliceTicks := 0 } }
  else frameBoundary s

/-! ### The feed limit and the shed level (R33 to R36) -/

/-- Whether every remaining slice is within the limit in force (R34). -/
def withinLimit (s : State) : Bool :=
  allSlices.all fun i => decide (i.val < s.time.slice) || decide (s.alloc.sums.get i ≤ s.alloc.limit)

/-- One step of the reverse-order walk (R34). -/
def walkStep (s : State) (n : LoadId) : State :=
  if withinLimit s then s
  else if allSlices.any fun i =>
      decide (i.val ∈ remaining s.time.slice (s.loads.get n)) && decide (s.alloc.limit < s.alloc.sums.get i) then
    cutLoad n s
  else s

/-- The reverse-order walk: the grant order from the last to the first (R34). -/
def reverseWalk (s : State) : State := s.alloc.order.reverse.foldl walkStep s

/-- FEED_LIMIT (R33). -/
def feedLimit (limit : Nat) (s : State) : Answer :=
  if 9999 < limit then refuse .range s
  else
    let set := { s with alloc := { s.alloc with limitSetting := limit } }
    if limit < s.alloc.limit then accept (reverseWalk { set with alloc := { set.alloc with limit := limit } })
    else accept set

/-- One load point under a raised shed level: it is cut where the new level excludes it and the old did not (R36). -/
def shedLoad (old new : Nat) (s : State) (n : LoadId) : State :=
  let cls := (s.loads.get n).effective
  if shedExcludes new cls (boundLevel s n) && !shedExcludes old cls (boundLevel s n) then cutLoad n s else s

/-- SHED_LEVEL (R36). -/
def shedLevel (level : Nat) (s : State) : Answer :=
  if 3 < level then refuse .range s
  else
    let set := { s with alloc := { s.alloc with shedSetting := level } }
    if s.alloc.shed < level then
      accept (allLoads.foldl (shedLoad s.alloc.shed level) { set with alloc := { set.alloc with shed := level } })
    else accept set

/-- FRAME_SET (R20). -/
def frameSet (length : Nat) (s : State) : Answer :=
  if length = 0 ∨ 10 < length then refuse .range s
  else accept { s with time := { s.time with slicePending := length } }

/-- The data of FRAME_QUERY (R40). -/
def frameData (s : State) : List Byte :=
  bigEndian 2 s.time.frame ++ bigEndian 1 s.time.slice ++ bigEndian 1 s.time.sliceLength ++
    bigEndian 1 s.time.slicePending ++ bigEndian 2 s.alloc.limit ++ bigEndian 2 s.alloc.limitSetting ++
    bigEndian 1 s.alloc.shed ++ bigEndian 1 s.alloc.shedSetting ++ bigEndian 1 s.feed.state.code ++
    bigEndian 2 s.alloc.peak ++
    (s.loads.items.map fun l => bigEndian 1 l.granted ++ flagByte l.cut).flatten

/-! ### The meanings -/

def execFrameSet (t : Transfer) (length : Nat) (s : State) : Result := command t [.energy] (frameSet length) s

def execFeedLimit (t : Transfer) (limit : Nat) (s : State) : Result := command t [.energy] (feedLimit limit) s

def execShedLevel (t : Transfer) (level : Nat) (s : State) : Result := command t [.energy] (shedLevel level) s

def execFrameQuery (t : Transfer) (s : State) : Result := command t allRoles (fun s => reply (frameData s) s) s

def execSliceAdvance (s : State) : Result := event sliceAdvance s

def execFrameBoundary (s : State) : Result := event frameBoundary s

end Sys2Proof.Machine
end

