-- ==== Sys2Proof/Machine/Restock.lean ====
section
/-! DEFINITION. Cabinets and the restock list: the test for a task, its opening, wakening and closing, and the reports to the
zone (07_ware_stock_and_restocking.md, R126, R128 to R135; R71 and R72 for what a report does). -/

namespace Sys2Proof.Machine

/-- The cabinet record of a zone, where it is a defined WARMER (R124). -/
def State.cabinet? (s : State) (z : ZoneId) : Option Cabinet :=
  match s.zones.get z with
  | some r => if r.kind = .warmer then r.cabinet else none
  | none => none

/-- A zone's cabinet record replaced. -/
def State.setCabinet (s : State) (z : ZoneId) (c : Cabinet) : State :=
  s.changeZone z fun r => { r with cabinet := some c }

/-- Stock less reserved (R124). -/
def Cabinet.available (c : Cabinet) : Nat := c.stock - c.reserved

/-- The state of a zone; an undefined zone stands as OFF does. -/
def State.zoneState (s : State) (z : ZoneId) : ZoneState :=
  match s.zones.get z with
  | some r => r.state
  | none => .off

/-- The page group of a zone. -/
def State.zoneGroup (s : State) (z : ZoneId) : PageGroup :=
  match s.zones.get z with
  | some r => r.group
  | none => .any

/-- The open restock task of a cabinet (R128). -/
def State.task? (s : State) (z : ZoneId) : Option RestockTask := s.restock.find? fun t => t.cabinet == z

/-- An entry into a state: the zone's record, and then the permit, which follows the line's two zones (R112). -/
def moveZone (z : ZoneId) (st : ZoneState) (s : State) : State := testPermit (s.changeZone z fun r => r.enter st)

/-! ### Reports to the zone (R134) -/

/-- The three conditions of the standby timer: stock 0, reserved 0, a task open in WAITING (R71). -/
def standbyHolds (s : State) (z : ZoneId) : Bool :=
  match s.cabinet? z, s.task? z with
  | some c, some t => c.stock == 0 && c.reserved == 0 && !t.paged
  | _, _ => false

/-- The standby timer of a READY WARMER follows its three conditions: it starts at 120 s where they come to hold, and is
abandoned where one ceases to (R71). -/
def refreshStandby (z : ZoneId) (s : State) : State :=
  match s.zones.get z with
  | some r =>
    if r.kind = .warmer ∧ r.state = .ready then
      if standbyHolds s z then (if r.standbyTimer.isSome then s else s.setZone z { r with standbyTimer := some 12000 })
      else s.setZone z { r with standbyTimer := none }
    else s
  | none => s

/-- A zone in STANDBY enters PREHEAT (R72); in every other state it is left. -/
def wakeStandby (z : ZoneId) (s : State) : State := if s.zoneState z = .standby then moveZone z .preheat s else s

/-- A change of stock, of the reserved count or of the task is reported to the zone (R134). `wakes` says that the task became
PAGED or the stock rose. -/
def report (z : ZoneId) (wakes : Bool) (s : State) : State :=
  let s := refreshStandby z s
  if wakes then wakeStandby z s else s

/-! ### Tasks -/

/-- Whether a restock task is to be opened for a cabinet (R129). -/
def taskDue (s : State) (z : ZoneId) : Bool :=
  match s.cabinet? z with
  | some c =>
    s.zoneState z != .off && s.zoneState z != .fault && c.kind.isSome && decide (c.available < c.low) && (s.task? z).isNone
  | none => false

/-- The restock test of a cabinet: a task is opened where one is due (R129), with its cause (R133), its notice (R135) and its
report (R134). -/
def testRestock (z : ZoneId) (s : State) : State :=
  if taskDue s z = false then s
  else
    match s.cabinet? z with
    | some c =>
      match c.kind with
      | some k =>
        let paged := decide (1 ≤ (s.wares.get k).clean)
        let task : RestockTask :=
          { cabinet := z, kind := k, wanted := max 1 (c.high - c.stock), paged := paged, opened := s.time.clock }
        let s := { s with restock := s.restock ++ [task] }
        let s := if paged then raise .restock (s.zoneGroup z) z.val s else s
        report z paged (post .restockTask z.val (if paged then 1 else 0) s)
      | none => s
    | none => s

/-- How a restock task closes (R132), with the value of its notice (R135). -/
inductive TaskClosing where
  | confirmed | withdrawn
  deriving DecidableEq, Repr

def TaskClosing.value : TaskClosing → Nat
  | .confirmed => 2
  | .withdrawn => 3

/-- The open task of a cabinet closes (R132). That its notice is posted before the clearing event is sent is the model's choice:
notes/assumptions/36.md. -/
def closeTask (z : ZoneId) (how : TaskClosing) (s : State) : State :=
  match s.task? z with
  | some t =>
    let s := { s with restock := s.restock.filter fun t => t.cabinet ≠ z }
    let s := post .restockTask z.val how.value s
    let s := if t.paged then clearEvent .restock z.val s else s
    report z false s
  | none => s

/-- One WAITING task of a kind becomes PAGED (R130). -/
def wakeTask (k : WareId) (s : State) (z : ZoneId) : State :=
  match s.task? z with
  | some t =>
    if t.kind = k ∧ t.paged = false then
      let s := { s with restock := s.restock.map fun t => if t.cabinet = z then { t with paged := true } else t }
      let s := raise .restock (s.zoneGroup z) z.val s
      report z true (post .restockTask z.val 1 s)
    else s
  | none => s

/-- CLEAN of a kind has risen: its WAITING tasks become PAGED in list order (R130). -/
def wakeTasks (k : WareId) (s : State) : State := (s.restock.map (·.cabinet)).foldl (wakeTask k) s

/-! ### Requests of the Course Table (R126) -/

/-- Plates are reserved on a cabinet. The restock test is made by the caller, at once or after the reruns of an event. -/
def reservePlates (z : ZoneId) (n : Nat) (s : State) : State :=
  match s.cabinet? z with
  | some c => report z false (s.setCabinet z { c with reserved := c.reserved + n })
  | none => s

/-- Reserved plates of a cabinet are released. -/
def releasePlates (z : ZoneId) (n : Nat) (s : State) : State :=
  match s.cabinet? z with
  | some c => report z false (s.setCabinet z { c with reserved := c.reserved - n })
  | none => s

/-- One reserved plate is drawn to OUT of the cabinet's kind (R119, R126). -/
def drawPlate (z : ZoneId) (s : State) : State :=
  match s.cabinet? z with
  | some c =>
    let s := s.setCabinet z { c with stock := c.stock - 1, reserved := c.reserved - 1 }
    let s :=
      match c.kind with
      | some k => s.setWare k { s.wares.get k with out := (s.wares.get k).out + 1 }
      | none => s
    testRestock z (report z false s)
  | none => s

/-! ### Counts that are not stored (R118) -/

/-- The sum of the counts of a kind's racks in the rack queue. -/
def inRacks (s : State) (k : WareId) : Nat := ((s.line.racks.filter fun r => r.kind == k).map (·.count)).sum

/-- The cabinets that hold a kind. -/
def cabinetsOf (s : State) (k : WareId) : List ZoneId :=
  allZones.filter fun z => match s.cabinet? z with | some c => c.kind == some k | none => false

/-- The sum of the stocks of a kind's cabinets. -/
def inCabinets (s : State) (k : WareId) : Nat :=
  ((cabinetsOf s k).map fun z => match s.cabinet? z with | some c => c.stock | none => 0).sum

end Sys2Proof.Machine
end

