-- ==== Sys2Proof/Machine/CourseTable.lean ====
section
/-! DEFINITION. The reservation pass, the reruns and the releases of the Course Table (08_banquet_courses.md, R137 to R147). The
commands are in Courses.lean. -/

namespace Sys2Proof.Machine

/-- The course in a slot, where it is live. -/
def State.course? (s : State) (c : CourseId) : Option Course := s.courses.slots.get c

/-- A live course changed by `f`; a FREE slot is left FREE. -/
def changeCourse (c : CourseId) (f : Course → Course) (s : State) : State :=
  match s.course? c with
  | some r => s.setCourse c (some (f r))
  | none => s

/-- The sum of the counts of a course's reservation entries (08 section 8.1). -/
def Course.totalReserved (r : Course) : Nat := (r.entries.map (·.2)).sum

/-- Covers less plated less total reserved (08 section 8.1). -/
def Course.need (r : Course) : Nat := r.covers - r.plated - r.totalReserved

/-- Whether a course lists a cabinet (08 section 8.1). -/
def listsCabinet (s : State) (r : Course) (z : ZoneId) : Bool :=
  if r.cabinets.isEmpty then (match s.cabinet? z with | some c => c.kind == some r.kind | none => false)
  else r.cabinets.contains z

/-- The cabinets that a pass walks: the list in its order, or every cabinet of the kind in zone number order (R139). -/
def walkOf (s : State) (r : Course) : List ZoneId :=
  if r.cabinets.isEmpty then cabinetsOf s r.kind else r.cabinets

/-- The most entries that a course holds (R139). -/
def entryCapacity : Nat := 6

/-- A reserve added to a course's entry for a cabinet, or a new entry at the tail (R139). -/
def addEntry (z : ZoneId) (n : Nat) (entries : List (ZoneId × Nat)) : List (ZoneId × Nat) :=
  if entries.any fun e => e.1 == z then entries.map fun e => if e.1 = z then (e.1, e.2 + n) else e
  else entries ++ [(z, n)]

/-- Whether a pass reserves on a cabinet (R139). -/
def canReserve (s : State) (r : Course) (z : ZoneId) : Bool :=
  match s.cabinet? z with
  | some c =>
    c.kind == some r.kind && s.zoneState z == .ready && decide (1 ≤ c.available) && decide (0 < r.need) &&
      (r.entries.any (fun e => e.1 == z) || decide (r.entries.length < entryCapacity))
  | none => false

/-- A pass at one cabinet (R139). The restock test is put off where the cabinet is the one of the event being rerun for. -/
def passAt (c : CourseId) (deferred : Option ZoneId) (s : State) (z : ZoneId) : State :=
  match s.course? c, s.cabinet? z with
  | some r, some b =>
    if canReserve s r z then
      let n := min b.available r.need
      let s := reservePlates z n s
      let s := if deferred = some z then s else testRestock z s
      changeCourse c (fun r => { r with entries := addEntry z n r.entries }) s
    else s
  | _, _ => s

/-- A cabinet that a SHORT course lists, in STANDBY, enters PREHEAT, which is a change of state that the restock test follows
(R72, R129, R140). -/
def wakeListed (s : State) (z : ZoneId) : State :=
  if s.zoneState z = .standby ∧ (s.cabinet? z).isSome then testRestock z (wakeStandby z s) else s

/-- The end of a pass: the course's state is set from its need, with the actions of the table of R140. `fired` says that this
is the pass of the fire. -/
def settleCourse (c : CourseId) (fired : Bool) (s : State) : State :=
  match s.course? c with
  | some r =>
    if r.need = 0 then
      let s1 := s.setCourse c (some { r with short := false })
      if fired then post .courseState c.val 1 s1
      else if r.short then post .courseState c.val 1 (clearEvent .courseShort c.val s1)
      else s1
    else
      let s1 := s.setCourse c (some { r with short := true })
      let s2 :=
        if fired || !r.short then post .courseState c.val 2 (raise .courseShort r.group c.val s1) else s1
      (walkOf s2 r).foldl wakeListed s2
  | none => s

/-- The pass of a course (R139), ended as R140 gives. -/
def runPass (c : CourseId) (deferred : Option ZoneId) (fired : Bool) (s : State) : State :=
  match s.course? c with
  | some r => settleCourse c fired ((walkOf s r).foldl (passAt c deferred) s)
  | none => s

/-- One course at an event of a cabinet: it is rerun where it is SHORT and lists the cabinet (R141). -/
def rerunCourse (z : ZoneId) (s : State) (c : CourseId) : State :=
  match s.course? c with
  | some r => if r.short && listsCabinet s r z then runPass c (some z) false s else s
  | none => s

/-- The reruns of one event of a cabinet, in fire order (R141). The restock test on the cabinet follows them. -/
def rerunCourses (z : ZoneId) (s : State) : State := s.courses.order.foldl (rerunCourse z) s

/-- Whether a course holds an entry on a cabinet. -/
def holdsEntry (s : State) (z : ZoneId) (c : CourseId) : Bool :=
  match s.course? c with
  | some r => r.entries.any fun e => e.1 == z
  | none => false

/-- A course's entry on a cabinet is removed (R145). -/
def removeEntry (z : ZoneId) (s : State) (c : CourseId) : State :=
  changeCourse c (fun r => { r with entries := r.entries.filter fun e => e.1 ≠ z }) s

/-- A WARMER enters OFF or FAULT: every entry on its cabinet is released, and the holding courses have their passes run again in
fire order (R126, R145). -/
def releaseCabinet (z : ZoneId) (s : State) : State :=
  match s.cabinet? z with
  | some b =>
    let holders := s.courses.order.filter (holdsEntry s z)
    let s := holders.foldl (removeEntry z) s
    let s := report z false (s.setCabinet z { b with reserved := 0 })
    holders.foldl (fun s c => runPass c none false s) s
  | none => s

/-- A course leaves the fire order and its slot becomes FREE (R137). -/
def freeCourse (c : CourseId) (s : State) : State :=
  let s := s.setCourse c none
  { s with courses := { s.courses with order := s.courses.order.filter (· ≠ c) } }

end Sys2Proof.Machine
end

