-- ==== Sys2Proof/Machine/ZoneMoves.lean ====
section
/-! DEFINITION. The entries of a zone into its states, whole: what each does to the program, the permit, the rack minimums, the
cabinet and the courses (R66 to R78, R84, R91). -/

namespace Sys2Proof.Machine

/-! ### The program's end with its zone (R90, R91) -/

/-- A program that is LOADED, RUNNING or HELD becomes ABORTED (R90). The discarded step timer stands at 0 (R85).
That the current step stays as it was is a DESIGN CHOICE, since the manual gives an aborted program's last run step only:
notes/assumptions/37.md. -/
def abortProgram (z : ZoneId) (s : State) : State :=
  match (s.zones.get z).bind (·.program) with
  | some p =>
    let s := s.changeZone z fun r =>
      { r with program := some { p with state := .aborted, lastRun := p.current, timer := 0 } }
    let s := if p.state = .held then clearEvent .stepHold z.val s else s
    post .programState z.val ProgramState.aborted.code s
  | none => s

/-- The state of a zone's program; a zone without one stands as NONE does. -/
def programState (s : State) (z : ZoneId) : ProgramState :=
  match (s.zones.get z).bind (·.program) with
  | some p => p.state
  | none => .none

/-- A RUNNING or HELD program ends with its zone's entry into OFF (R91). -/
def endProgramOff (z : ZoneId) (s : State) : State :=
  match programState s z with
  | .running | .held => abortProgram z s
  | .none | .loaded | .done | .aborted => s

/-- A program that is not NONE, DONE or ABORTED ends with its zone's entry into FAULT (R76, R91). -/
def endProgramFault (z : ZoneId) (s : State) : State :=
  match programState s z with
  | .loaded | .running | .held => abortProgram z s
  | .none | .done | .aborted => s

/-! ### Entries into states -/

/-- ZONE_STATE at an entry into READY, FAULT, PAUSED or OFF (R78). -/
def postZoneState (z : ZoneId) (st : ZoneState) (s : State) : State := post .zoneState z.val st.code s

/-- Entry into PREHEAT, SOAK, RECOVER or STANDBY, which post nothing (R67 to R73, R78). -/
def enterQuietly (z : ZoneId) (st : ZoneState) (s : State) : State := testRestock z (moveZone z st s)

/-- Entry into READY (R67 to R69): the notice, the standby timer (R71), the reruns of SHORT courses (R141) and then the restock
test (R129). -/
def enterReady (z : ZoneId) (s : State) : State :=
  let s := refreshStandby z (postZoneState z .ready (moveZone z .ready s))
  if (s.cabinet? z).isSome then testRestock z (rerunCourses z s) else s

/-- Entry into PAUSED (R73). -/
def enterPaused (z : ZoneId) (s : State) : State := testRestock z (postZoneState z .paused (moveZone z .paused s))

/-- The load list of a zone. -/
def zoneLoads (s : State) (z : ZoneId) : List LoadId :=
  match s.zones.get z with
  | some r => r.loads
  | none => []

/-- What entries into OFF and FAULT share: the record, the permit, the minimums, the cuts, the program, the cabinet's
reservations and its task (R38, R66, R76). The order is notes/assumptions/18.md and 19.md. -/
def leaveService (z : ZoneId) (st : ZoneState) (endProgram : State → State) (s : State) : State :=
  let s := zeroMinimums z (moveZone z st s)
  let s := endProgram (cutLoads (zoneLoads s z) s)
  closeTask z .withdrawn (releaseCabinet z s)

/-- Entry into OFF (R66, R77): `within` is what the command does before the notice. -/
def enterOff (z : ZoneId) (within : State → State) (s : State) : State :=
  postZoneState z .off (within (leaveService z .off (endProgramOff z) s))

/-- The cause that a fault raises (R76). -/
def FaultCause.raised : FaultCause → Cause
  | .sensor => .sensorFault
  | .none | .overMargin | .absolute => .zoneOvertemp

/-- Entry into FAULT (R76). -/
def enterFault (z : ZoneId) (cause : FaultCause) (s : State) : State :=
  let s := leaveService z .fault (endProgramFault z) s
  let s := s.changeZone z fun r => { r with faultCause := cause }
  postZoneState z .fault (raise cause.raised (s.zoneGroup z) z.val s)

/-! ### Setpoint changes (R62, R64, R70) -/

/-- A zone's setpoint takes a value, and a changed one acts on the state (R70): from SOAK, READY or RECOVER the zone enters
PREHEAT, elsewhere the active setpoint follows the state (R64). -/
def changeSetpoint (z : ZoneId) (v : Nat) (s : State) : State :=
  match s.zones.get z with
  | some r =>
    if r.setpoint = v then s
    else
      let r' := { r with setpoint := v }
      match r.state with
      | .soak | .ready | .recover => enterQuietly z .preheat (s.setZone z r')
      | .off | .preheat | .standby | .paused | .fault => s.setZone z (r'.setActive (r'.setpointFor r'.state))
  | none => s

/-! ### Program steps (R84 to R89) -/

/-- Ticks of a step of some minutes (R84). -/
def stepTicks (minutes : Nat) : Nat := 6000 * minutes

/-- Step `k` of a program, counted from 1. -/
def Program.step? (p : Program) (k : Nat) : Option ProgramStep := if k = 0 then none else p.steps[k - 1]?

/-- The program becomes RUNNING(k) and step `k` is applied (R84). -/
def applyStep (z : ZoneId) (k : Nat) (s : State) : State :=
  match s.zones.get z with
  | some r =>
    match r.program with
    | some p =>
      match p.step? k with
      | some st =>
        changeSetpoint z st.setpoint (s.setZone z { r with
          soakTime := st.soakTime,
          program := some { p with state := .running, current := k, timer := stepTicks st.duration } })
      | none => s
    | none => s
  | none => s

/-- The last step has ended: the program is DONE, the hold setpoint is applied, PROGRAM_DONE is raised and PROGRAM_STATE posted
(R88). -/
def finishProgram (z : ZoneId) (s : State) : State :=
  match (s.zones.get z).bind (·.program) with
  | some p =>
    let s := s.changeZone z fun r =>
      { r with program := some { p with state := .done, lastRun := p.current, timer := 0 } }
    let s := changeSetpoint z p.hold s
    post .programState z.val ProgramState.done.code (raise .programDone (s.zoneGroup z) z.val s)
  | none => s

/-- The program is HELD at its step (R87). -/
def holdProgram (z : ZoneId) (s : State) : State :=
  match (s.zones.get z).bind (·.program) with
  | some p =>
    let s := s.changeZone z fun r => { r with program := some { p with state := .held, timer := 0 } }
    post .programState z.val ProgramState.held.code (raise .stepHold (s.zoneGroup z) z.val s)
  | none => s

end Sys2Proof.Machine
end

