-- ==== Sys2Proof/Machine/Zones.lean ====
section
/-! DEFINITION. Sensor conversions, zone commands and zone timers (04_sensor_channels_and_heat_zones.md). -/

namespace Sys2Proof.Machine

/-! ### Conversions (R56, R57, R67 to R69, R74 to R76) -/

/-- A rail code: a short at 8 or less, an open at 4,087 or more (R56). -/
def isRail (code : BitVec 12) : Bool := decide (code.toNat ≤ 8) || decide (4087 ≤ code.toNat)

/-- The reading that a code gives, in tenths of a degree (R56). -/
def temperature (code : BitVec 12) : Nat := code.toNat * 25 / 32

/-- A channel after a conversion (R56). -/
def Channel.convert (c : Channel) (code : BitVec 12) : Channel :=
  if isRail code then { c with code := code, rail := min 3 (c.rail + 1) }
  else { code := code, reading := temperature code, rail := 0 }

/-- What a reading does to a zone's state once no fault test has taken it (R67 to R69). -/
def followReading (z : ZoneId) (r : Zone) (reading : Nat) (s : State) : State :=
  match r.state with
  | .preheat =>
    if r.inWindow reading then (if r.soakTime = 0 then enterReady z s else enterQuietly z .soak s) else s
  | .soak => if r.inWindow reading then s else enterQuietly z .preheat s
  | .ready => if r.inWindow reading then s else enterQuietly z .recover s
  | .recover => if r.inWindow reading then enterReady z s else s
  | .off | .standby | .paused | .fault => s

/-- A reading taken by a zone that is not in FAULT: the absolute limit, the over test, and then the state (R67 to R69, R74, R75).
Beyond what R75 settles, the order of the three, and that a reading that faults is put to no later one, is the model's choice:
notes/assumptions/35.md. -/
def takeReading (z : ZoneId) (r : Zone) (reading : Nat) (s : State) : State :=
  if r.kind.absoluteLimit < reading then enterFault z .absolute s
  else if r.state = .off then s
  else
    let r := r.overTest reading
    let s := s.setZone z r
    if 3 ≤ r.overCount then enterFault z .overMargin s else followReading z r reading s

/-- A conversion handed to one zone that names its channel: the reading, or none for a rail code; `failed` says that the rail
count stands at 3 (R56, R57, R76). -/
def handZone (c : ChannelId) (reading : Option Nat) (failed : Bool) (s : State) (z : ZoneId) : State :=
  match s.zones.get z with
  | some r =>
    if r.channel ≠ c then s
    else if r.state = .fault then s.setZone z (r.countClean reading)
    else
      match reading with
      | some v => takeReading z r v s
      | none => if failed then enterFault z .sensor s else s
  | none => s

/-- One conversion of the scan: the channel, the zones that name it in ascending number, then the dish line (R55, R56). -/
def sensorConversion (code : BitVec 12) (s : State) : State :=
  let c := s.scan.position
  let ch := (s.scan.channels.get c).convert code
  let s := { s with scan := { channels := s.scan.channels.set c ch, position := c + 1 } }
  let reading := if isRail code then none else some ch.reading
  let s := allZones.foldl (handZone c reading (decide (3 ≤ ch.rail))) s
  match reading with
  | some v => lowerMinimums c v s
  | none => s

/-- The data of SENSOR_QUERY (R58). That the zones are sent in ascending number is the model's choice: notes/assumptions/17.md. -/
def sensorData (c : ChannelId) (s : State) : List Byte :=
  let ch := s.scan.channels.get c
  bigEndian 2 ch.code.toNat ++ bigEndian 2 ch.reading ++ bigEndian 1 ch.rail ++ flagByte (decide (3 ≤ ch.rail)) ++
    listBytes ((allZones.filter fun z =>
      match s.zones.get z with | some r => r.channel == c | none => false).map (·.val))

/-- SENSOR_QUERY (R58). -/
def sensorQuery (channel : Nat) (s : State) : Answer :=
  match index? 32 channel with
  | none => refuse .range s
  | some c => reply (sensorData c s) s

/-! ### Zone commands -/

/-- The role of a port. -/
def State.roleOf (s : State) (p : PortId) : Role := (s.ports.get p).role

/-- The checks that a command of a zone makes first: its number, its definition, the kind rights (R59, R82). -/
def withZone (p : PortId) (zone : Nat) (s : State) (body : ZoneId → Zone → Answer) : Answer :=
  match index? 32 zone with
  | none => refuse .range s
  | some z =>
    match s.zones.get z with
    | none => refuse .notFound s
    | some r => if s.roleOf p = r.kind.commandedBy then body z r else refuse .denied s

/-- The cabinet record of a zone that first becomes a WARMER (R124). -/
def Cabinet.fresh : Cabinet := { kind := none, capacity := 0, low := 0, high := 0, stock := 0, reserved := 0 }

/-- The draft and program of a zone that ZONE_DEFINE makes an OVEN (R80). -/
def Program.fresh : Program :=
  { draft := Table.fill 8 none, state := .none, steps := [], hold := 300, current := 0, timer := 0, lastRun := 0 }

/-- The cabinet record that a redefined zone keeps or gets (R61, R124). -/
def cabinetAfter (old : Option Zone) (kind : ZoneKind) : Option Cabinet :=
  if kind = .warmer then
    match old with
    | some r => if r.kind = .warmer then r.cabinet else some Cabinet.fresh
    | none => some Cabinet.fresh
  else none

/-- The record of a ZONE_DEFINE that is taken (R61), its lists and enumerations already checked. -/
def definedZone (owner : PortId) (z : ZoneSettings) (kind : ZoneKind) (channel : ChannelId) (loads : List LoadId)
    (group : PageGroup) (old : Option Zone) : Zone :=
  { kind := kind, owner := owner, channel := channel, loads := loads, level := z.level, group := group,
    setpoint := kind.clampSetpoint z.setpoint, fallback := kind.clampSetpoint z.fallback,
    standby := if kind = .warmer then some (ZoneKind.clampSetpoint .warmer z.standby) else none,
    band := clampTo 5 200 z.band, tolerance := clampTo 5 100 z.tolerance, soakTime := z.soakTime,
    margin := clampTo 50 500 z.margin, recoverLimit := z.recoverLimit, active := kind.clampSetpoint z.setpoint,
    state := .off, soakTimer := none, recoverTimer := none, slowRaised := false, standbyTimer := none, overCount := 0,
    overArmed := false, faultCause := .none, cleanCount := 0, duty := 0,
    program := if kind = .oven then some Program.fresh else none, cabinet := cabinetAfter old kind }

/-- Whether a ZONE_DEFINE moves a value into its range (R61). -/
def zoneSettingsMoved (z : ZoneSettings) (r : Zone) : Bool :=
  r.setpoint != z.setpoint || r.fallback != z.fallback || (match r.standby with | some v => v != z.standby | none => false) ||
    r.band != z.band || r.tolerance != z.tolerance || r.margin != z.margin

/-- The load bindings after a ZONE_DEFINE (R6). -/
def rebind (z : ZoneId) (loads : List LoadId) (s : State) : State :=
  { s with loads := Table.build 48 fun n =>
      let l := s.loads.get n
      if n ∈ loads then { l with binding := some z } else if l.binding = some z then { l with binding := none } else l }

/-- The checks of ZONE_DEFINE on the zone as it stands (R60, the last three). -/
def defineConflict (s : State) (z : ZoneId) (kind : ZoneKind) (loads : List LoadId) : Option Status :=
  if (s.zones.get z).any fun r => r.state != .off then some .state
  else if (s.zones.get z).any fun r =>
      r.kind == .warmer && kind != .warmer && r.cabinet.any fun c => decide (0 < c.stock) then some .state
  else if loads.any fun n => (s.loads.get n).binding != none && (s.loads.get n).binding != some z then some .conflict
  else none

/-- Whether a port's role has the right to a kind, and to the zone's present kind (R59). -/
def mayDefine (s : State) (p : PortId) (z : ZoneId) (kind : ZoneKind) : Bool :=
  s.roleOf p == kind.commandedBy &&
    (match s.zones.get z with | some r => s.roleOf p == r.kind.commandedBy | none => true)

/-- The load points of a list of numbers, none where one is above 47 or repeated, or the list does not hold 1 to 4 (R60). -/
def loadList? (ns : List Nat) : Option (List LoadId) :=
  if ns.length < 1 ∨ 4 < ns.length ∨ ¬ ns.Nodup then none else ns.mapM (index? 48)

/-- ZONE_DEFINE (R60, R61). -/
def zoneDefine (p : PortId) (z : ZoneSettings) (s : State) : Answer :=
  match index? 32 z.zone, ZoneKind.ofCode? z.kind with
  | some n, some kind =>
    if mayDefine s p n kind = false then refuse .denied s
    else
      match index? 32 z.channel, loadList? z.loads, PageGroup.ofCode? z.group with
      | some channel, some loads, some group =>
        if 3 < z.level ∨ 600 < z.soakTime ∨ z.recoverLimit < 10 ∨ 900 < z.recoverLimit then refuse .range s
        else
          match defineConflict s n kind loads with
          | some why => refuse why s
          | none =>
            let r := definedZone p z kind channel loads group (s.zones.get n)
            acceptClamped (zoneSettingsMoved z r) [] (enterOff n id (rebind n loads (s.setZone n r)))
      | _, _, _ => refuse .range s
  | _, _ => refuse .range s

/-- ZONE_SETPOINT (R62, R64, R70). -/
def zoneSetpoint (p : PortId) (zone setpoint fallback standby : Nat) (s : State) : Answer :=
  withZone p zone s fun z r =>
    let sp := r.kind.clampSetpoint setpoint
    let fb := r.kind.clampSetpoint fallback
    let sb := if r.kind = .warmer then some (ZoneKind.clampSetpoint .warmer standby) else none
    let moved := sp != setpoint || fb != fallback || (match sb with | some v => v != standby | none => false)
    let r' := { r with fallback := fb, standby := sb }
    acceptClamped moved [] (changeSetpoint z sp (s.setZone z (r'.setActive (r'.setpointFor r'.state))))

/-- ZONE_START (R66). -/
def zoneStart (p : PortId) (zone : Nat) (s : State) : Answer :=
  withZone p zone s fun z r => if r.state = .off then accept (enterQuietly z .preheat s) else refuse .state s

/-- ZONE_STOP (R66). -/
def zoneStop (p : PortId) (zone : Nat) (s : State) : Answer :=
  withZone p zone s fun z r =>
    match r.state with
    | .fault => refuse .state s
    | .off => accept s
    | .preheat | .soak | .ready | .recover | .standby | .paused => accept (enterOff z id s)

/-- ZONE_PAUSE (R73). -/
def zonePause (p : PortId) (zone : Nat) (s : State) : Answer :=
  withZone p zone s fun z r =>
    match r.state with
    | .off | .fault => refuse .state s
    | .paused => accept s
    | .preheat | .soak | .ready | .recover | .standby => accept (enterPaused z s)

/-- ZONE_RESUME (R73). -/
def zoneResume (p : PortId) (zone : Nat) (s : State) : Answer :=
  withZone p zone s fun z r => if r.state = .paused then accept (enterQuietly z .preheat s) else refuse .state s

/-- ZONE_CLEAR (R77). -/
def zoneClear (p : PortId) (zone : Nat) (s : State) : Answer :=
  withZone p zone s fun z r =>
    if r.state = .fault ∧ r.cleanCount = 3 then accept (enterOff z (clearEvent r.faultCause.raised z.val) s)
    else refuse .state s

/-- The data of ZONE_QUERY for a defined zone (R63): the record's fields in the order of its table, then the channel's reading
and rail count. What a stopped timer reads is a DESIGN CHOICE, notes/assumptions/17.md. -/
def zoneData (s : State) (r : Zone) : List Byte :=
  flagByte true ++ bigEndian 1 r.kind.code ++ bigEndian 1 r.owner.val ++ bigEndian 1 r.channel.val ++
    listBytes (r.loads.map (·.val)) ++ bigEndian 1 r.level ++ groupBytes r.group ++ bigEndian 2 r.setpoint ++
    bigEndian 2 r.fallback ++ optionalBytes 2 r.standby ++ bigEndian 1 r.band ++ bigEndian 1 r.tolerance ++
    bigEndian 2 r.soakTime ++ bigEndian 2 r.margin ++ bigEndian 2 r.recoverLimit ++ bigEndian 2 r.active ++
    bigEndian 1 r.state.code ++ bigEndian 2 (r.soakTimer.getD 0) ++ bigEndian 3 (r.recoverTimer.getD 0) ++
    flagByte r.slowRaised ++ bigEndian 2 (r.standbyTimer.getD 0) ++ bigEndian 1 r.overCount ++ flagByte r.overArmed ++
    bigEndian 1 r.faultCause.code ++ bigEndian 1 r.cleanCount ++ bigEndian 1 r.duty ++ bigEndian 2 (zoneReading s r) ++
    bigEndian 1 (s.scan.channels.get r.channel).rail

/-- ZONE_QUERY (R63). -/
def zoneQuery (zone : Nat) (s : State) : Answer :=
  match index? 32 zone with
  | none => refuse .range s
  | some z =>
    match s.zones.get z with
    | some r => reply (zoneData s r) s
    | none => reply ((flagByte false ++ Config.undefinedZoneRest z).take maxData) s

/-! ### Zone timers -/

/-- The soak timer expires (R68). -/
def soakExpiry (z : ZoneId) (s : State) : State :=
  match s.zones.get z with
  | some r => if r.state = .soak ∧ r.soakTimer.isSome then enterReady z s else s
  | none => s

/-- The recover timer reaches the recover limit: ZONE_SLOW is raised, once in a stay, and the timer stops at the limit (R69).
That the stopped timer keeps the limit, in ticks, as the value that ZONE_QUERY reads (R63) is a DESIGN CHOICE: the manual does
not say what it then reads, notes/assumptions/17.md. -/
def recoverLimitReached (z : ZoneId) (s : State) : State :=
  match s.zones.get z with
  | some r =>
    if r.state = .recover ∧ r.slowRaised = false then
      raise .zoneSlow r.group z.val
        (s.setZone z { r with recoverTimer := some (100 * r.recoverLimit), slowRaised := true })
    else s
  | none => s

/-- The standby timer expires (R71). -/
def standbyExpiry (z : ZoneId) (s : State) : State :=
  match s.zones.get z with
  | some r => if r.state = .ready ∧ r.standbyTimer.isSome then enterQuietly z .standby s else s
  | none => s

/-! ### The meanings -/

/-- The roles of a command marked with kind rights (11 section 11.4). -/
def kindRoles : List Role := [.production, .warewash]

def execSensorConversion (code : BitVec 12) (s : State) : Result := event (sensorConversion code) s

def execSensorQuery (t : Transfer) (channel : Nat) (s : State) : Result := command t allRoles (sensorQuery channel) s

def execZoneDefine (t : Transfer) (z : ZoneSettings) (s : State) : Result := command t kindRoles (zoneDefine t.port z) s

def execZoneSetpoint (t : Transfer) (zone setpoint fallback standby : Nat) (s : State) : Result :=
  command t kindRoles (zoneSetpoint t.port zone setpoint fallback standby) s

def execZoneStart (t : Transfer) (zone : Nat) (s : State) : Result := command t kindRoles (zoneStart t.port zone) s

def execZoneStop (t : Transfer) (zone : Nat) (s : State) : Result := command t kindRoles (zoneStop t.port zone) s

def execZonePause (t : Transfer) (zone : Nat) (s : State) : Result := command t kindRoles (zonePause t.port zone) s

def execZoneResume (t : Transfer) (zone : Nat) (s : State) : Result := command t kindRoles (zoneResume t.port zone) s

def execZoneClear (t : Transfer) (zone : Nat) (s : State) : Result := command t kindRoles (zoneClear t.port zone) s

def execZoneQuery (t : Transfer) (zone : Nat) (s : State) : Result := command t allRoles (zoneQuery zone) s

def execSoakTimerExpiry (z : ZoneId) (s : State) : Result := event (soakExpiry z) s

def execRecoverTimerLimit (z : ZoneId) (s : State) : Result := event (recoverLimitReached z) s

def execStandbyTimerExpiry (z : ZoneId) (s : State) : Result := event (standbyExpiry z) s

end Sys2Proof.Machine
end

