-- ==== Sys2Proof/Machine/Programs.lean ====
section
/-! DEFINITION. Oven programs: the commands and the step timer (05_oven_programs.md). -/

namespace Sys2Proof.Machine

/-- The checks of a program command: those of a zone command, then the zone's kind (R81, R82). -/
def withOven (p : PortId) (zone : Nat) (s : State) (body : ZoneId → Zone → Program → Answer) : Answer :=
  withZone p zone s fun z r =>
    if r.kind ≠ .oven then refuse .state s
    else
      match r.program with
      | some g => body z r g
      | none => refuse .state s

/-- PROGRAM_STEP (R81). -/
def programStep (p : PortId) (zone slot setpoint soak duration action : Nat) (s : State) : Answer :=
  withOven p zone s fun z r g =>
    match (if slot = 0 then none else index? 8 (slot - 1)), EndAction.ofCode? action with
    | some i, some a =>
      if 600 < soak ∨ duration < 1 ∨ 600 < duration then refuse .range s
      else
        let sp := ZoneKind.clampSetpoint .oven setpoint
        let st : ProgramStep := { setpoint := sp, soakTime := soak, duration := duration, action := a }
        acceptClamped (sp != setpoint) []
          (s.setZone z { r with program := some { g with draft := g.draft.set i (some st) } })
    | _, _ => refuse .range s

/-- Draft slots 1 to a count, none where one of them is unset (R82). -/
def Program.draftSteps? (g : Program) (count : Nat) : Option (List ProgramStep) := (g.draft.items.take count).mapM id

/-- PROGRAM_LOAD (R82). -/
def programLoad (p : PortId) (zone count hold : Nat) (s : State) : Answer :=
  withOven p zone s fun z r g =>
    if count < 1 ∨ 8 < count then refuse .range s
    else if g.state = .running ∨ g.state = .held then refuse .state s
    else
      match g.draftSteps? count with
      | none => refuse .notFound s
      | some steps =>
        let h := ZoneKind.clampSetpoint .oven hold
        acceptClamped (h != hold) []
          (s.setZone z { r with program := some { g with
            state := .loaded, steps := steps, hold := h, current := 0, timer := 0, lastRun := 0 } })

/-- PROGRAM_RUN (R83): step 1 is applied with the zone still OFF, and the zone then enters PREHEAT. -/
def programRun (p : PortId) (zone : Nat) (s : State) : Answer :=
  withOven p zone s fun z r g =>
    if r.state ≠ .off then refuse .state s
    else
      match g.state with
      | .loaded | .done | .aborted => accept (enterQuietly z .preheat (applyStep z 1 s))
      | .none | .running | .held => refuse .state s

/-- PROGRAM_ADVANCE (R89). -/
def programAdvance (p : PortId) (zone : Nat) (s : State) : Answer :=
  withOven p zone s fun z _ g =>
    if g.state ≠ .held then refuse .state s
    else
      accept (clearEvent .stepHold z.val
        (if g.current < g.steps.length then applyStep z (g.current + 1) s else finishProgram z s))

/-- PROGRAM_ABORT (R90). What an aborted program keeps of its current step: notes/assumptions/37.md. -/
def programAbort (p : PortId) (zone : Nat) (s : State) : Answer :=
  withOven p zone s fun z _ g =>
    match g.state with
    | .loaded | .running | .held => accept (abortProgram z s)
    | .aborted => accept s
    | .none | .done => refuse .state s

/-- Whether a program's step timer counts (R85). -/
def stepCounts (r : Zone) (g : Program) : Bool := g.state == .running && (r.state == .ready || r.state == .recover)

/-- The data of PROGRAM_QUERY for an OVEN (R96). That 1 says running and 0 frozen of the step timer is a DESIGN CHOICE,
notes/assumptions/17.md. -/
def programData (r : Zone) (g : Program) : List Byte :=
  bigEndian 1 g.state.code ++ bigEndian 1 g.current ++ bigEndian 3 g.timer ++ flagByte (stepCounts r g) ++
    bigEndian 1 g.lastRun ++ bigEndian 1 g.steps.length ++ bigEndian 2 g.hold ++
    (g.steps.map fun st => stepBytes (some st)).flatten ++
    (g.draft.items.map fun d => flagByte d.isSome ++ stepBytes d).flatten

/-- PROGRAM_QUERY (R96). -/
def programQuery (p : PortId) (zone : Nat) (s : State) : Answer :=
  withZone p zone s fun z r =>
    match r.kind, r.program with
    | .oven, some g => reply (programData r g) s
    | _, _ => reply ((Config.noProgramData z).take maxData) s

/-- The step timer of a RUNNING program expires: the step ends by its end action (R85 to R88). -/
def stepExpiry (z : ZoneId) (s : State) : State :=
  match s.zones.get z with
  | some r =>
    match r.program with
    | some g =>
      if stepCounts r g = false then s
      else
        match g.step? g.current with
        | some st =>
          match st.action with
          | .pageHold => holdProgram z s
          | .next => if g.current < g.steps.length then applyStep z (g.current + 1) s else finishProgram z s
          | .pageNext =>
            if g.current < g.steps.length then raise .stepDone r.group z.val (applyStep z (g.current + 1) s)
            else finishProgram z s
        | none => s
    | none => s
  | none => s

/-! ### The meanings -/

def execProgramStep (t : Transfer) (zone slot setpoint soak duration action : Nat) (s : State) : Result :=
  command t kindRoles (programStep t.port zone slot setpoint soak duration action) s

def execProgramLoad (t : Transfer) (zone count hold : Nat) (s : State) : Result :=
  command t kindRoles (programLoad t.port zone count hold) s

def execProgramRun (t : Transfer) (zone : Nat) (s : State) : Result := command t kindRoles (programRun t.port zone) s

def execProgramAdvance (t : Transfer) (zone : Nat) (s : State) : Result :=
  command t kindRoles (programAdvance t.port zone) s

def execProgramAbort (t : Transfer) (zone : Nat) (s : State) : Result := command t kindRoles (programAbort t.port zone) s

def execProgramQuery (t : Transfer) (zone : Nat) (s : State) : Result := command t kindRoles (programQuery t.port zone) s

def execStepTimerExpiry (z : ZoneId) (s : State) : Result := event (stepExpiry z) s

end Sys2Proof.Machine
end

