-- ==== Sys2Proof/Machine/DishLine.lean ====
section
/-! DEFINITION. The dish line: its commands, its three events and the change of a held level (06_the_dish_line.md). -/

namespace Sys2Proof.Machine

/-- The most racks that the queue holds (R101). -/
def rackCapacity : Nat := 12

/-! ### Configuration -/

/-- Whether a defined zone is of a kind. -/
def zoneIsOf (s : State) (z : ZoneId) (kind : ZoneKind) : Bool := (s.zones.get z).any fun r => r.kind == kind

/-- LINE_CONFIG (R99). -/
def lineConfig (l : LineSettings) (s : State) : Answer :=
  match index? 32 l.wash, index? 32 l.booster, Polarity.ofCode? l.enterPolarity, Polarity.ofCode? l.exitPolarity,
      Polarity.ofCode? l.outPolarity, PageGroup.ofCode? l.group with
  | some w, some b, some pe, some px, some po, some g =>
    if l.washThreshold < 400 ∨ 800 < l.washThreshold ∨ l.rinseThreshold < 700 ∨ 900 < l.rinseThreshold then refuse .range s
    else if (s.zones.get w).isNone ∨ (s.zones.get b).isNone then refuse .notFound s
    else if zoneIsOf s w .washTank = false ∨ zoneIsOf s b .rinseBooster = false then refuse .range s
    else if s.line.racks ≠ [] then refuse .state s
    else
      accept (testPermit { s with line := { s.line with
        configured := true, wash := some w, booster := some b, washThreshold := l.washThreshold,
        rinseThreshold := l.rinseThreshold, enterPolarity := pe, exitPolarity := px, outPolarity := po, group := g } })
  | _, _, _, _, _, _ => refuse .range s

/-! ### Minimums at entry into a stage (R103, R106) -/

/-- The present reading of a named zone's channel, 0 where the zone stands in OFF or FAULT (R100). -/
def startMinimum (s : State) (zone : Option ZoneId) (kind : ZoneKind) : Nat :=
  match standsIn s zone kind with
  | .off | .fault => 0
  | .preheat | .soak | .ready | .recover | .standby | .paused =>
    match zone.bind s.zones.get with
    | some r => zoneReading s r
    | none => 0

/-! ### Loading and purging -/

/-- RACK_LOAD (R102, R103). -/
def rackLoad (tag kind count : Nat) (s : State) : Answer :=
  match index? 8 kind with
  | none => refuse .range s
  | some k =>
    if 255 < tag ∨ count < 1 ∨ 40 < count then refuse .range s
    else if s.line.configured = false then refuse .state s
    else if (s.wares.get k).defined = false then refuse .notFound s
    else if rackCapacity ≤ s.line.racks.length then refuse .full s
    else if s.line.racks.any fun r => r.tag == tag then refuse .duplicate s
    else if (s.wares.get k).soiled = 0 then refuse .empty s
    else
      let w := s.wares.get k
      let n := min count w.soiled
      let rack : Rack :=
        { tag := tag, kind := k, count := n, stage := .wash, washMin := startMinimum s s.line.wash .washTank,
          rinseMin := none, verdict := .pending, entered := s.time.clock }
      let s := s.setWare k { w with soiled := w.soiled - n }
      acceptClamped (n != count) [] { s with line := { s.line with racks := s.line.racks ++ [rack] } }

/-- A rack that has left the queue with verdict REWASH: its plates to SOILED, and RACK_REWASH raised (R108, R109, R111,
R114). -/
def condemn (r : Rack) (s : State) : State :=
  let w := s.wares.get r.kind
  raise .rackRewash s.line.group r.tag (s.setWare r.kind { w with soiled := w.soiled + r.count })

/-- The head of the queue leaves it (R101). -/
def dropHead (s : State) : State := { s with line := { s.line with racks := s.line.racks.drop 1 } }

/-- LINE_PURGE (R111): every rack leaves, taken from the head to the tail. -/
def linePurge (s : State) : Answer :=
  reply (bigEndian 1 s.line.racks.length) (s.line.racks.foldl (fun s r => condemn r (dropHead s)) s)

/-! ### Line events -/

/-- The kinds of line fault (R110). -/
inductive LineFault where
  | enterNoRack
  | exitNoRack
  | outNoRack
  | outEarly (tag : Nat)
  deriving DecidableEq, Repr

/-- The object of a LINE_FAULT notice (R110). -/
def LineFault.object : LineFault → Nat
  | .enterNoRack => 0
  | .exitNoRack => 1
  | .outNoRack => 2
  | .outEarly _ => 3

/-- The value of a LINE_FAULT notice: the tag of the rack removed, or 256 (R110). -/
def LineFault.value : LineFault → Nat
  | .outEarly tag => tag
  | .enterNoRack | .exitNoRack | .outNoRack => 256

/-- A line fault: the counter, which stays at 65,535 once there, and the notice (R110). -/
def lineFault (f : LineFault) (s : State) : State :=
  post .lineFault f.object f.value { s with line := { s.line with faults := saturate 65535 s.line.faults } }

/-- The held level of a line takes the sample that differs from it (R98). -/
def flipLevel (l : DishLine) : EventLine → DishLine
  | .rinseEnter => { l with enterLevel := !l.enterLevel }
  | .rinseExit => { l with exitLevel := !l.exitLevel }
  | .rackOut => { l with outLevel := !l.outLevel }

/-- The transition of a line is seen, an event of it or not (R98). -/
def seeTransition (line : EventLine) (s : State) : State := { s with line := flipLevel s.line line }

/-- The oldest rack of a stage changed by `f`; none where the queue holds no rack of the stage. -/
def advanceRack (stage : Stage) (f : Rack → Rack) : List Rack → Option (List Rack)
  | [] => none
  | r :: rs => if r.stage = stage then some (f r :: rs) else (advanceRack stage f rs).map (r :: ·)

/-- RINSE_ENTER, the transition apart (R106). -/
def enterRinse (s : State) : State :=
  let low := startMinimum s s.line.booster .rinseBooster
  match advanceRack .wash (fun r => { r with stage := .rinse, rinseMin := some low }) s.line.racks with
  | some racks => { s with line := { s.line with racks := racks } }
  | none => lineFault .enterNoRack s

/-- The verdict of a rack under the thresholds held (R107). -/
def judgeRack (l : DishLine) (r : Rack) : Verdict :=
  if l.washThreshold ≤ r.washMin ∧ l.rinseThreshold ≤ r.rinseMin.getD 0 then .clean else .rewash

/-- RINSE_EXIT, the transition apart (R107, R113). -/
def leaveRinse (s : State) : State :=
  match s.line.racks.find? fun r => r.stage == .rinse,
      advanceRack .rinse (fun r => { r with stage := .done, verdict := judgeRack s.line r }) s.line.racks with
  | some r, some racks =>
    post .rackVerdict r.tag (judgeRack s.line r).code { s with line := { s.line with racks := racks } }
  | _, _ => lineFault .exitNoRack s

/-- RACK_OUT, the transition apart (R108, R109, R130). -/
def unloadRack (s : State) : State :=
  match s.line.racks with
  | [] => lineFault .outNoRack s
  | r :: _ =>
    let s := dropHead s
    match r.stage with
    | .wash | .rinse => condemn r (lineFault (.outEarly r.tag) s)
    | .done =>
      match r.verdict with
      | .clean =>
        let w := s.wares.get r.kind
        wakeTasks r.kind (s.setWare r.kind { w with clean := w.clean + r.count })
      | .pending | .rewash => condemn r s

/-- RINSE_ENTER: a transition that the line's polarity admits (R98, R106). -/
def rinseEnter (s : State) : State := enterRinse (seeTransition .rinseEnter s)

/-- RINSE_EXIT: a transition that the line's polarity admits (R98, R107). -/
def rinseExit (s : State) : State := leaveRinse (seeTransition .rinseExit s)

/-- RACK_OUT: a transition that the line's polarity admits (R98, R108, R109). -/
def rackOut (s : State) : State := unloadRack (seeTransition .rackOut s)

/-! ### Reading the line -/

/-- The state of a named zone for the line as an item: absent where no zone is named. -/
def standsBytes (zone : Option ZoneId) (st : ZoneState) : List Byte := optionalBytes 1 (zone.map fun _ => st.code)

/-- The data of LINE_QUERY (R115). The bytes of a level, of the permit and of a zone not named are the model's choice:
notes/assumptions/17.md. -/
def lineData (s : State) : List Byte :=
  let l := s.line
  flagByte l.configured ++ optionalBytes 1 (l.wash.map (·.val)) ++ optionalBytes 1 (l.booster.map (·.val)) ++
    standsBytes l.wash (washState s) ++ standsBytes l.booster (boosterState s) ++ bigEndian 2 l.washThreshold ++
    bigEndian 2 l.rinseThreshold ++ bigEndian 1 l.enterPolarity.code ++ bigEndian 1 l.exitPolarity.code ++
    bigEndian 1 l.outPolarity.code ++ flagByte l.enterLevel ++ flagByte l.exitLevel ++ flagByte l.outLevel ++
    groupBytes l.group ++ flagByte l.permit ++ bigEndian 2 l.faults ++ listBytes (l.racks.map (·.tag))

/-- The data of RACK_QUERY (R116). -/
def rackData (r : Rack) : List Byte :=
  bigEndian 1 r.tag ++ bigEndian 1 r.kind.val ++ bigEndian 1 r.count ++ bigEndian 1 r.stage.code ++ bigEndian 2 r.washMin ++
    optionalBytes 2 r.rinseMin ++ bigEndian 1 r.verdict.code ++ bigEndian 3 r.entered

/-- RACK_QUERY (R116). -/
def rackQuery (position : Nat) (s : State) : Answer :=
  if 11 < position then refuse .range s
  else
    match s.line.racks[position]? with
    | some r => reply (rackData r) s
    | none => refuse .notFound s

/-! ### The meanings -/

def execLineConfig (t : Transfer) (l : LineSettings) (s : State) : Result := command t [.warewash] (lineConfig l) s

def execRackLoad (t : Transfer) (tag kind count : Nat) (s : State) : Result :=
  command t [.warewash] (rackLoad tag kind count) s

def execLinePurge (t : Transfer) (s : State) : Result := command t [.warewash] linePurge s

def execLineQuery (t : Transfer) (s : State) : Result := command t allRoles (fun s => reply (lineData s) s) s

def execRackQuery (t : Transfer) (position : Nat) (s : State) : Result := command t allRoles (rackQuery position) s

def execRinseEnter (s : State) : Result := event rinseEnter s

def execRinseExit (s : State) : Result := event rinseExit s

def execRackOut (s : State) : Result := event rackOut s

def execLineLevelChange (line : EventLine) (s : State) : Result := event (seeTransition line) s

end Sys2Proof.Machine
end

