-- ==== Sys2Proof/Machine/Wares.lean ====
section
/-! DEFINITION. The commands of the Ware Table (07_ware_stock_and_restocking.md). -/

namespace Sys2Proof.Machine

/-- The largest stock total of a kind (R118). -/
def wareLimit : Nat := 9999

/-- The locations that WARE_ADJUST names by code (07 section 7.1). -/
inductive Location where
  | soiled | clean | out
  | cabinet (z : ZoneId)
  deriving DecidableEq, Repr

/-- The location of a code, with the zone number that a cabinet uses (R121). -/
def location? (code zone : Nat) : Option Location :=
  match code with
  | 0 => some .soiled
  | 1 => some .clean
  | 2 => some .out
  | 3 => (index? 32 zone).map .cabinet
  | _ => none

/-! ### Stock commands -/

/-- WARE_DEFINE (R120). -/
def wareDefine (kind stock : Nat) (s : State) : Answer :=
  match index? 8 kind with
  | none => refuse .range s
  | some k =>
    if wareLimit < stock then refuse .range s
    else if (s.wares.get k).defined then refuse .duplicate s
    else accept (s.setWare k { defined := true, total := stock, soiled := 0, clean := stock, out := 0 })

/-- Whether a location can hold a kind: a cabinet must be one of a defined WARMER that holds it (R121). -/
def holdsKind (s : State) (k : WareId) : Location → Bool
  | .soiled | .clean | .out => true
  | .cabinet z => (s.cabinet? z).any fun c => c.kind == some k

/-- What a location can give to a removal (R121). -/
def canGive (s : State) (k : WareId) : Location → Nat
  | .soiled => (s.wares.get k).soiled
  | .clean => (s.wares.get k).clean
  | .out => (s.wares.get k).out
  | .cabinet z => ((s.cabinet? z).map (·.available)).getD 0

/-- A purchase: the location and the stock total rise (R121); a rise of CLEAN wakes the kind's tasks (R130). Only SOILED and
CLEAN take one. -/
def purchase (k : WareId) (n : Nat) (s : State) : Location → State
  | .soiled => let w := s.wares.get k; s.setWare k { w with total := w.total + n, soiled := w.soiled + n }
  | .clean => let w := s.wares.get k; wakeTasks k (s.setWare k { w with total := w.total + n, clean := w.clean + n })
  | .out | .cabinet _ => s

/-- A removal: the location and the stock total fall (R121); a cabinet is then reported and tested (R134, R129). -/
def removal (k : WareId) (n : Nat) (s : State) : Location → State
  | .soiled => let w := s.wares.get k; s.setWare k { w with total := w.total - n, soiled := w.soiled - n }
  | .clean => let w := s.wares.get k; s.setWare k { w with total := w.total - n, clean := w.clean - n }
  | .out => let w := s.wares.get k; s.setWare k { w with total := w.total - n, out := w.out - n }
  | .cabinet z =>
    match s.cabinet? z with
    | some c =>
      let w := s.wares.get k
      let s := s.setWare k { w with total := w.total - n }
      testRestock z (report z false (s.setCabinet z { c with stock := c.stock - n }))
    | none => s

/-- Whether a purchase may be added to a location (R121). -/
def takesPurchase : Location → Bool
  | .soiled | .clean => true
  | .out | .cabinet _ => false

/-- WARE_ADJUST (R121). -/
def wareAdjust (kind code zone : Nat) (amount : Int) (s : State) : Answer :=
  match index? 8 kind, location? code zone with
  | some k, some l =>
    if wareLimit < amount.natAbs then refuse .range s
    else if (s.wares.get k).defined = false then refuse .notFound s
    else if holdsKind s k l = false then refuse .state s
    else if amount = 0 then reply (bigEndian 2 0) s
    else
      let n := amount.natAbs
      if 0 < amount then
        if takesPurchase l = false ∨ wareLimit < (s.wares.get k).total + n then refuse .range s
        else reply (bigEndian 2 n) (purchase k n s l)
      else
        let m := min n (canGive s k l)
        if m = 0 then refuse .empty s else acceptClamped (m != n) (bigEndian 2 m) (removal k m s l)
  | _, _ => refuse .range s

/-- RETURN (R122). -/
def wareReturn (kind number : Nat) (s : State) : Answer :=
  match index? 8 kind with
  | none => refuse .range s
  | some k =>
    let w := s.wares.get k
    if number < 1 ∨ wareLimit < number then refuse .range s
    else if w.defined = false then refuse .notFound s
    else if w.out = 0 then refuse .empty s
    else
      let n := min number w.out
      acceptClamped (n != number) (bigEndian 2 n) (s.setWare k { w with out := w.out - n, soiled := w.soiled + n })

/-- The data of WARE_QUERY for a defined kind (R123). -/
def wareData (s : State) (k : WareId) : List Byte :=
  let w := s.wares.get k
  bigEndian 2 w.total ++ bigEndian 2 w.soiled ++ bigEndian 2 (inRacks s k) ++ bigEndian 2 w.clean ++
    bigEndian 2 (inCabinets s k) ++ bigEndian 2 w.out ++ bigEndian 1 (cabinetsOf s k).length ++
    bigEndian 1 (s.restock.filter fun t => t.kind == k && !t.paged).length ++
    bigEndian 1 (s.restock.filter fun t => t.kind == k && t.paged).length

/-- WARE_QUERY (R123). -/
def wareQuery (kind : Nat) (s : State) : Answer :=
  match index? 8 kind with
  | none => refuse .range s
  | some k => reply (if (s.wares.get k).defined then wareData s k else (Config.undefinedWareData k).take maxData) s

/-! ### Cabinets -/

/-- CABINET_SET (R125). -/
def cabinetSet (p : PortId) (zone kind capacity low high : Nat) (s : State) : Answer :=
  match index? 8 kind with
  | none => refuse .range s
  | some k =>
    if capacity < 1 ∨ 400 < capacity ∨ 399 < low ∨ high < 1 ∨ 400 < high then refuse .range s
    else
      withZone p zone s fun z _ =>
        match s.cabinet? z with
        | none => refuse .state s
        | some c =>
          if (s.wares.get k).defined = false then refuse .notFound s
          else if high ≤ low ∨ capacity < high then refuse .range s
          else if c.stock ≠ 0 ∧ c.kind ≠ some k then refuse .state s
          else if capacity < c.stock then refuse .state s
          else if c.kind = some k ∧ c.capacity = capacity ∧ c.low = low ∧ c.high = high then accept s
          else
            let s := s.setCabinet z { c with kind := some k, capacity := capacity, low := low, high := high }
            accept (testRestock z (report z false (closeTask z .withdrawn s)))

/-- The data of CABINET_QUERY for a WARMER (R127). -/
def cabinetData (s : State) (z : ZoneId) (c : Cabinet) : List Byte :=
  let task := s.task? z
  optionalBytes 1 (c.kind.map (·.val)) ++ bigEndian 2 c.capacity ++ bigEndian 2 c.low ++ bigEndian 2 c.high ++
    bigEndian 2 c.stock ++ bigEndian 2 c.reserved ++ bigEndian 2 c.available ++ bigEndian 1 (s.zoneState z).code ++
    flagByte task.isSome ++ optionalBytes 1 (task.map fun t => if t.paged then 1 else 0) ++
    optionalBytes 2 (task.map (·.wanted))

/-- CABINET_QUERY (R127). -/
def cabinetQuery (zone : Nat) (s : State) : Answer :=
  match index? 32 zone with
  | none => refuse .range s
  | some z =>
    if (s.zones.get z).isNone then refuse .notFound s
    else
      match s.cabinet? z with
      | some c => reply (cabinetData s z c) s
      | none => reply ((Config.noCabinetData z).take maxData) s

/-! ### Restocking -/

/-- The number that RESTOCK_CONFIRM moves (R131). -/
def restockMove (n : Nat) (w : Ware) (c : Cabinet) : Nat := min n (min w.clean (c.capacity - c.stock))

/-- The plates of a RESTOCK_CONFIRM moved, and what follows in order: the task closes, the zone is told, the SHORT courses are
rerun and the restock test is made (R131). -/
def confirmRestock (z : ZoneId) (k : WareId) (c : Cabinet) (m : Nat) (s : State) : State :=
  let w := s.wares.get k
  let s := (s.setWare k { w with clean := w.clean - m }).setCabinet z { c with stock := c.stock + m }
  testRestock z (rerunCourses z (report z true (closeTask z .confirmed s)))

/-- RESTOCK_CONFIRM (R131). -/
def restockConfirm (zone number : Nat) (s : State) : Answer :=
  match index? 32 zone with
  | none => refuse .range s
  | some z =>
    if number < 1 ∨ 400 < number then refuse .range s
    else if (s.zones.get z).isNone then refuse .notFound s
    else
      match s.cabinet? z with
      | none => refuse .state s
      | some c =>
        match c.kind with
        | none => refuse .state s
        | some k =>
          let m := restockMove number (s.wares.get k) c
          if m = 0 then refuse .empty s
          else acceptClamped (m != number) (bigEndian 2 m) (confirmRestock z k c m s)

/-- One task of RESTOCK_QUERY (R136). -/
def taskBytes (t : RestockTask) : List Byte :=
  bigEndian 1 t.cabinet.val ++ bigEndian 1 t.kind.val ++ bigEndian 2 t.wanted ++ bigEndian 1 (if t.paged then 1 else 0) ++
    bigEndian 3 t.opened

/-- The tasks that one reply holds beside their count: 8 bytes each (R136, R190). -/
def tasksPerReply : Nat := (maxData - 1) / 8

/-- The data of RESTOCK_QUERY (R136). -/
def restockData (s : State) : List Byte :=
  bigEndian 1 s.restock.length ++ ((s.restock.take tasksPerReply).map taskBytes).flatten

/-! ### The meanings -/

def execWareDefine (t : Transfer) (kind stock : Nat) (s : State) : Result :=
  command t [.warewash, .banquet] (wareDefine kind stock) s

def execWareAdjust (t : Transfer) (kind code zone : Nat) (amount : Int) (s : State) : Result :=
  command t [.warewash, .banquet] (wareAdjust kind code zone amount) s

def execWareReturn (t : Transfer) (kind number : Nat) (s : State) : Result :=
  command t [.warewash, .banquet] (wareReturn kind number) s

def execWareQuery (t : Transfer) (kind : Nat) (s : State) : Result := command t allRoles (wareQuery kind) s

def execCabinetSet (t : Transfer) (zone kind capacity low high : Nat) (s : State) : Result :=
  command t kindRoles (cabinetSet t.port zone kind capacity low high) s

def execCabinetQuery (t : Transfer) (zone : Nat) (s : State) : Result := command t allRoles (cabinetQuery zone) s

def execRestockConfirm (t : Transfer) (zone number : Nat) (s : State) : Result :=
  command t [.warewash] (restockConfirm zone number) s

def execRestockQuery (t : Transfer) (s : State) : Result := command t allRoles (fun s => reply (restockData s) s) s

end Sys2Proof.Machine
end

