-- ==== Sys2Proof/Machine/Courses.lean ====
section
/-! DEFINITION. The commands of the Course Table (08_banquet_courses.md). -/

namespace Sys2Proof.Machine

/-! ### Firing -/

/-- The cabinet list of a COURSE_FIRE: 0 to 6 zone numbers of 0 to 31, none repeated (R138). -/
def cabinetList? (ns : List Nat) : Option (List ZoneId) :=
  if 6 < ns.length ∨ ¬ ns.Nodup then none else ns.mapM (index? 32)

/-- The lowest FREE slot (R138). -/
def freeSlot (s : State) : Option CourseId := allCourses.find? fun c => (s.course? c).isNone

/-- The state code of a live course (R149). -/
def Course.stateCode (r : Course) : Nat := if r.short then 2 else 1

/-- The data of COURSE_FIRE: course number, state entered, total reserved, need (R138). -/
def fireData (c : CourseId) (s : State) : List Byte :=
  match s.course? c with
  | some r =>
    bigEndian 1 c.val ++ bigEndian 1 r.stateCode ++ bigEndian 2 r.totalReserved ++ bigEndian 2 r.need
  | none => []

/-- The course taken into its slot and the fire order, its pass still to be run (R138). -/
def seatCourse (c : CourseId) (r : Course) (s : State) : State :=
  let s := s.setCourse c (some r)
  { s with courses := { s.courses with order := s.courses.order ++ [c] } }

/-- COURSE_FIRE (R138). -/
def courseFire (room kind covers group : Nat) (cabinets : List Nat) (s : State) : Answer :=
  match index? 8 kind, PageGroup.ofCode? group, cabinetList? cabinets with
  | some k, some g, some cs =>
    if 63 < room ∨ covers < 1 ∨ 2000 < covers then refuse .range s
    else if (s.wares.get k).defined = false then refuse .notFound s
    else
      match freeSlot s with
      | none => refuse .full s
      | some c =>
        let r : Course :=
          { short := false, room := room, kind := k, covers := covers, plated := 0, group := g, cabinets := cs,
            entries := [], fired := s.time.clock }
        let s := runPass c none true (seatCourse c r s)
        reply (fireData c s) s
  | _, _, _ => refuse .range s

/-! ### Plating (R142, R143) -/

/-- The first entry gives up one plate; an entry whose count reaches 0 is removed. -/
def takeFromHead : List (ZoneId × Nat) → List (ZoneId × Nat)
  | [] => []
  | e :: es => if e.2 ≤ 1 then es else (e.1, e.2 - 1) :: es

/-- One plate of a course drawn from its first entry (R126, R142). -/
def plateOne (c : CourseId) (s : State) : State :=
  match (s.course? c).bind (·.entries.head?) with
  | some e => drawPlate e.1 (changeCourse c (fun r => { r with entries := takeFromHead r.entries }) s)
  | none => s

/-- Some plates of a course drawn, one after another. -/
def platePlates (c : CourseId) : Nat → State → State
  | 0, s => s
  | n + 1, s => platePlates c n (plateOne c s)

/-- COURSE_PLATED (R142, R143). -/
def coursePlated (course number : Nat) (s : State) : Answer :=
  match index? 16 course with
  | none => refuse .range s
  | some c =>
    if number < 1 ∨ 2000 < number then refuse .range s
    else
      match s.course? c with
      | none => refuse .notFound s
      | some r =>
        if r.totalReserved = 0 then refuse .empty s
        else
          let n := min number r.totalReserved
          let plated := r.plated + n
          let s := changeCourse c (fun r => { r with plated := plated }) (platePlates c n s)
          acceptClamped (n != number) (bigEndian 2 n ++ bigEndian 2 plated)
            (if plated = r.covers then freeCourse c (post .courseState c.val 3 s) else s)

/-! ### Closing (R144) -/

/-- The SHORT courses that list a released cabinet are rerun, and its restock test is made (R144). -/
def refill (s : State) (z : ZoneId) : State := testRestock z (rerunCourses z s)

/-- The close of a live course (R144). -/
def closeCourse (c : CourseId) (r : Course) (s : State) : State :=
  let s := r.entries.foldl (fun s e => releasePlates e.1 e.2 s) s
  let s := if r.short then clearEvent .courseShort c.val s else s
  let s := post .courseState c.val 4 (freeCourse c s)
  (r.entries.map (·.1)).foldl refill s

/-- COURSE_CLOSE (R144). -/
def courseClose (course : Nat) (s : State) : Answer :=
  match index? 16 course with
  | none => refuse .range s
  | some c =>
    match s.course? c with
    | none => refuse .notFound s
    | some r => reply (bigEndian 2 r.totalReserved ++ bigEndian 2 r.plated) (closeCourse c r s)

/-! ### Reading -/

/-- The data of COURSE_QUERY for a live course (R149). -/
def courseData (s : State) (c : CourseId) (r : Course) : List Byte :=
  bigEndian 1 r.stateCode ++ bigEndian 1 r.room ++ bigEndian 1 r.kind.val ++ bigEndian 2 r.covers ++ bigEndian 2 r.plated ++
    bigEndian 2 r.totalReserved ++ bigEndian 2 r.need ++ groupBytes r.group ++ bigEndian 3 r.fired ++
    bigEndian 1 (s.courses.order.idxOf c) ++ listBytes (r.cabinets.map (·.val)) ++ bigEndian 1 r.entries.length ++
    (r.entries.map fun e => bigEndian 1 e.1.val ++ bigEndian 2 e.2).flatten

/-- COURSE_QUERY (R149). -/
def courseQuery (course : Nat) (s : State) : Answer :=
  match index? 16 course with
  | none => refuse .range s
  | some c =>
    match s.course? c with
    | some r => reply (courseData s c r) s
    | none => reply ((bigEndian 1 0 ++ Config.freeCourseRest c).take maxData) s

/-! ### The meanings -/

def execCourseFire (t : Transfer) (room kind covers group : Nat) (cabinets : List Nat) (s : State) : Result :=
  command t [.banquet] (courseFire room kind covers group cabinets) s

def execCoursePlated (t : Transfer) (course number : Nat) (s : State) : Result :=
  command t [.banquet] (coursePlated course number) s

def execCourseClose (t : Transfer) (course : Nat) (s : State) : Result := command t [.banquet] (courseClose course) s

def execCourseQuery (t : Transfer) (course : Nat) (s : State) : Result := command t allRoles (courseQuery course) s

end Sys2Proof.Machine
end

