-- ==== Sys2Proof/Machine/Staff.lean ====
section
/-! DEFINITION. The commands of the Paging Controller and the ack timer's expiry (09_staff_roster_and_paging.md). -/

namespace Sys2Proof.Machine

/-- STAFF_SET (R152). -/
def staffSet (entry address role group : Nat) (s : State) : Answer :=
  match index? 64 entry, StaffRole.ofCode? role, index? 8 group with
  | some e, some r, some g =>
    if 65535 < address then refuse .range s
    else if (s.staff e).duty ≠ .offDuty then refuse .state s
    else accept (s.setStaff e { s.staff e with address := address, role := r, group := g })
  | _, _, _ => refuse .range s

/-- STAFF_DUTY (R153). -/
def staffDuty (entry setting : Nat) (s : State) : Answer :=
  match index? 64 entry with
  | some e =>
    if (s.staff e).address = 0 then refuse .notFound s
    else
      match settingOr Config.otherDuty setting, (s.staff e).duty with
      | true, .offDuty => accept (becomeFree e s)
      | true, .free | true, .paged | true, .assigned => accept s
      | false, .offDuty => accept s
      | false, .free | false, .paged | false, .assigned => accept (goOffDuty e s)
  | none => refuse .range s

/-- An entry's position in its role's free list, 0 at the head. -/
def freePosition (s : State) (e : EntryId) : Option Nat :=
  let l := s.freeList (s.staff e).role
  if e ∈ l then some (l.idxOf e) else none

/-- The data of STAFF_QUERY (R169). -/
def staffData (s : State) (e : EntryId) : List Byte :=
  let m := s.staff e
  bigEndian 2 m.address ++ bigEndian 1 m.role.index.val ++ bigEndian 1 m.group.val ++ bigEndian 1 m.duty.code ++
    optionalBytes 2 (m.current.map (·.val)) ++ optionalBytes 2 (m.suspended.map (·.val)) ++
    optionalBytes 1 (freePosition s e)

/-- STAFF_QUERY (R169). -/
def staffQuery (entry : Nat) (s : State) : Answer :=
  match index? 64 entry with
  | none => refuse .range s
  | some e => reply (staffData s e) s

/-- PAGE_SEND (R158). -/
def pageSend (role group closure code object : Nat) (s : State) : Answer :=
  match StaffRole.ofCode? role, PageGroup.ofCode? group, Closure.ofCode? closure with
  | some r, some g, some c =>
    if code < 128 ∨ 255 < code ∨ 255 < object then refuse .range s
    else if pageCapacity ≤ s.desk.pages.length then refuse .full s
    else reply (bigEndian 1 (freePageId s.desk).val) (addPage 5 code object r g c s)
  | _, _, _ => refuse .range s

/-- PAGE_DONE (R166). -/
def pageDone (page : Nat) (s : State) : Answer :=
  match (index? 256 page).bind s.page? with
  | none => refuse .notFound s
  | some p =>
    match p.closure with
    | .info => refuse .state s
    | .task | .event => accept (retirePage p .done s)

/-- PAGE_LEVELS (R159). -/
def pageLevels (g0 g1 g2 g3 g4 g5 : Nat) (s : State) : Answer :=
  if 3 < g0 ∨ 3 < g1 ∨ 3 < g2 ∨ 3 < g3 ∨ 3 < g4 ∨ 3 < g5 then refuse .range s
  else accept { s with desk := { s.desk with levels := ⟨[g0, g1, g2, g3, g4, g5], rfl⟩ } }

/-- PAGE_TIMING (R159). -/
def pageTiming (setting : Nat) (s : State) : Answer :=
  if 23 < setting then refuse .range s else accept { s with desk := { s.desk with ackSetting := setting } }

/-- The data of PAGE_QUERY (R169). -/
def pageData (s : State) (p : Page) : List Byte :=
  bigEndian 1 p.id.val ++ bigEndian 1 p.source.val ++ bigEndian 1 p.cause ++ bigEndian 1 p.object ++
    bigEndian 1 p.role.index.val ++ groupBytes p.group ++ bigEndian 1 p.level ++ bigEndian 1 p.closure.code ++
    bigEndian 1 p.state.code ++ optionalBytes 1 (p.target.map (·.val)) ++ bigEndian 1 p.step ++
    optionalBytes 1 (p.excluded.map (·.val)) ++ bigEndian 2 (p.ackTimer.getD 0) ++ bigEndian 3 p.created ++
    flagByte (s.desk.reoffers.contains p.id) ++ bigEndian 1 s.desk.pages.length ++
    bigEndian 1 (s.desk.pages.filter fun q => q.state == .queued).length ++ bigEndian 1 s.desk.cancels.length

/-- PAGE_QUERY (R169). -/
def pageQuery (page : Nat) (s : State) : Answer :=
  match index? 256 page with
  | none => refuse .range s
  | some id =>
    match s.page? id with
    | none => refuse .notFound s
    | some p => reply (pageData s p) s

/-- The ack timer of a page expires (R165). Only a running timer can. -/
def ackTimerExpiry (id : PageId) (s : State) : State :=
  match s.page? id with
  | some p => if p.ackTimer.isSome then ackExpiry p s else s
  | none => s

/-! ### The meanings -/

def execStaffSet (t : Transfer) (entry address role group : Nat) (s : State) : Result :=
  command t [.banquet, .warewash] (staffSet entry address role group) s

def execStaffDuty (t : Transfer) (entry setting : Nat) (s : State) : Result :=
  command t [.banquet, .warewash] (staffDuty entry setting) s

def execStaffQuery (t : Transfer) (entry : Nat) (s : State) : Result := command t allRoles (staffQuery entry) s

def execPageSend (t : Transfer) (role group closure code object : Nat) (s : State) : Result :=
  command t allRoles (pageSend role group closure code object) s

def execPageDone (t : Transfer) (page : Nat) (s : State) : Result := command t allRoles (pageDone page) s

def execPageLevels (t : Transfer) (g0 g1 g2 g3 g4 g5 : Nat) (s : State) : Result :=
  command t [.banquet] (pageLevels g0 g1 g2 g3 g4 g5) s

def execPageTiming (t : Transfer) (setting : Nat) (s : State) : Result := command t [.banquet] (pageTiming setting) s

def execPageQuery (t : Transfer) (page : Nat) (s : State) : Result := command t allRoles (pageQuery page) s

def execAckTimerExpiry (page : PageId) (s : State) : Result := event (ackTimerExpiry page) s

end Sys2Proof.Machine
end

