-- ==== Sys2Proof/Machine/PagerLink.lean ====
section
/-! DEFINITION. The outstanding message, the station's messages and the link's timers (10_the_pager_link.md). The arbiter's grants
are in Arbiter.lean. -/

namespace Sys2Proof.Machine

/-! ### Sending and ending a message (R173, R174) -/

/-- A PROBE is sent, and the probe timer starts with 1,000 ticks (R176). -/
def sendProbe (s : State) : State :=
  let s := sendMessage .probe probeFrame s
  { s with link := { s.link with probeTimer := some 1000 } }

/-- The outstanding message is ended by the station (R174). -/
def endMessage (s : State) : State :=
  { s with link := { s.link with outstanding := .none, transmitting := [], responseTimer := none, timeouts := 0 } }

/-- A station message that ends nothing (R174, R178). -/
def countStale (s : State) : State := { s with link := { s.link with stale := saturate 65535 s.link.stale } }

/-- The live page that is still OFFERED to an entry with an address (R174, R175). -/
def offeredTo (s : State) (id : PageId) (address : Nat) : Option Page :=
  (s.page? id).filter fun p => p.state == .offered && p.target.any fun e => (s.staff e).address == address

/-! ### The station's messages (R174, R177, R178) -/

/-- The response timer of a message: 200 ticks (R173). -/
def responseTicks : Nat := 200

/-- The last byte of the outstanding message has left the UART (R173). -/
def transmitComplete (s : State) : State :=
  if s.link.outstanding ≠ .none ∧ s.link.transmitting ≠ [] then
    { s with link := { s.link with transmitting := [], responseTimer := some responseTicks } }
  else s

/-- The ticks of an ack timer under the setting in force (R162). -/
def ackTicks (setting : Nat) : Nat := 1000 * (setting + 1)

/-- SENT (R162, R174). -/
def sentMessage (id : PageId) (s : State) : State :=
  match s.link.outstanding with
  | .page i a =>
    if i = id then
      let s := endMessage s
      match offeredTo s i a with
      | some _ => updatePage i (fun p => { p with ackTimer := some (ackTicks s.desk.ackSetting) }) s
      | none => s
    else countStale s
  | .cancel i _ => if i = id then endMessage s else countStale s
  | .none | .probe => countStale s

/-- UNREACHABLE (R165, R174). -/
def unreachableMessage (id : PageId) (s : State) : State :=
  match s.link.outstanding with
  | .page i a =>
    if i = id then
      let s := endMessage s
      match offeredTo s i a with
      | some p => ackExpiry p s
      | none => s
    else countStale s
  | .none | .cancel .. | .probe => countStale s

/-- An answer of a pager (R171). -/
inductive PagerAnswer where
  | accept | decline | done
  deriving DecidableEq, Repr

/-- The answer of a byte (R171). -/
def PagerAnswer.ofCode? : Nat → Option PagerAnswer
  | 1 => some .accept
  | 2 => some .decline
  | 3 => some .done
  | _ => none

/-- Whether an answer is one that a page in a state takes (R177). -/
def PagerAnswer.fits : PagerAnswer → PageState → Bool
  | .accept, st | .decline, st => st == .offered
  | .done, st => st == .offered || st == .accepted

/-- An answer taken for the page of its target (R164). -/
def takeAnswer (x : PagerAnswer) (p : Page) (e : EntryId) (s : State) : State :=
  match x with
  | .accept => answerAccept p e s
  | .decline => answerDecline p e s
  | .done => answerDone p e s

/-- A late ACK (R178, R179). -/
def countLate (id : PageId) (address : Nat) (s : State) : State :=
  post .lateAck id.val address { s with link := { s.link with late := saturate 65535 s.link.late } }

/-- ACK (R177, R178). -/
def ackMessage (id : PageId) (address answer : Nat) (s : State) : State :=
  match PagerAnswer.ofCode? answer, s.page? id with
  | some x, some p =>
    match p.target with
    | some e =>
      if x.fits p.state ∧ (s.staff e).address = address then takeAnswer x p e s else countLate id address s
    | none => countLate id address s
  | _, _ => countStale s

/-- ALIVE (R176): it brings a DOWN link UP, and is stale while the link is UP (R174). -/
def aliveMessage (s : State) : State :=
  if s.link.up then countStale s
  else
    post .linkState 0 1
      { s with link := { s.link with
          up := true, timeouts := 0, probeTimer := none, responseTimer := none, outstanding := .none, transmitting := [] } }

/-- A garbled message: counted, discarded, the receiver idle (R172). -/
def garble (s : State) : State :=
  { s with link := { s.link with garbled := saturate 65535 s.link.garbled, received := [], rxGap := 0 } }

/-- A gap of two ticks or more within a message (R172). In idle there is no message to end. -/
def receiveGap (s : State) : State := if s.link.received = [] then s else garble s

/-! ### The link's timers (R175, R176) -/

/-- The timeouts that take the link DOWN (R175). -/
def timeoutLimit : Nat := 3

/-- What the end by timeout does to a message that was granted (R175). -/
def timeOutMessage (o : Outstanding) (s : State) : State :=
  match o with
  | .page i a =>
    match offeredTo s i a with
    | some p => withdrawPage p s
    | none => s
  | .cancel i a =>
    if s.desk.cancels.length < cancelCapacity then
      { s with desk := { s.desk with cancels := { page := i, address := a } :: s.desk.cancels } }
    else s
  | .none | .probe => s

/-- The link enters DOWN (R176). -/
def enterDown (s : State) : State := sendProbe (post .linkState 0 0 { s with link := { s.link with up := false } })

/-- The response timer expires (R175). Only a running timer can. -/
def responseExpiry (s : State) : State :=
  if s.link.responseTimer.isNone then s
  else
    let o := s.link.outstanding
    let s := { s with link := { s.link with outstanding := .none, transmitting := [], responseTimer := none } }
    if s.link.up then
      let s := timeOutMessage o { s with link := { s.link with timeouts := s.link.timeouts + 1 } }
      if timeoutLimit ≤ s.link.timeouts then enterDown s else s
    else s

/-- The probe timer expires while the link is DOWN: a new PROBE is sent (R176). Only a running timer can. -/
def probeExpiry (s : State) : State := if s.link.probeTimer.isSome ∧ s.link.up = false then sendProbe s else s

/-! ### Reading the link (R180) -/

/-- The outstanding message's kind, page id and pager address. -/
def outstandingBytes : Outstanding → List Byte
  | .none => bigEndian 1 0 ++ optionalBytes 2 none ++ optionalBytes 3 none
  | .page i a => bigEndian 1 1 ++ bigEndian 2 i.val ++ bigEndian 3 a
  | .cancel i a => bigEndian 1 2 ++ bigEndian 2 i.val ++ bigEndian 3 a
  | .probe => bigEndian 1 3 ++ optionalBytes 2 none ++ optionalBytes 3 none

/-- The data of LINK_QUERY (R180). -/
def linkData (s : State) : List Byte :=
  let l := s.link
  flagByte l.up ++ outstandingBytes l.outstanding ++ bigEndian 1 (l.responseTimer.getD 0) ++
    bigEndian 2 (l.probeTimer.getD 0) ++ bigEndian 1 l.timeouts ++ bigEndian 2 l.stale ++ bigEndian 2 l.late ++
    bigEndian 2 l.garbled

/-! ### The meanings -/

def execLinkQuery (t : Transfer) (s : State) : Result := command t allRoles (fun s => reply (linkData s) s) s

def execOffer (s : State) : Result := grant grantOffer s

def execReOffer (s : State) : Result := grant grantReOffer s

def execCancel (s : State) : Result := grant grantCancel s

def execTransmitComplete (s : State) : Result := event transmitComplete s

def execSent (page : PageId) (s : State) : Result := event (sentMessage page) s

def execUnreachable (page : PageId) (s : State) : Result := event (unreachableMessage page) s

def execAck (page : PageId) (address answer : Nat) (s : State) : Result := event (ackMessage page address answer) s

def execAlive (s : State) : Result := event aliveMessage s

/-- The three causes of a garbled message have one effect (R172). -/
def execGarbledMessage (_cause : GarbleCause) (s : State) : Result := event garble s

def execReceiveGap (s : State) : Result := event receiveGap s

def execResponseTimerExpiry (s : State) : Result := event responseExpiry s

def execProbeTimerExpiry (s : State) : Result := event probeExpiry s

end Sys2Proof.Machine
end

