-- ==== Sys2Proof/Machine/Ports.lean ====
section
/-! DEFINITION. The ports' own commands, the other transactions, supervision and the kitchen clock (11_command_ports.md). -/

namespace Sys2Proof.Machine

/-- READ_NOTICE (R185). -/
def readNotice (p : PortId) (s : State) : Answer :=
  let r := s.ports.get p
  match r.notices with
  | [] => refuse .empty s
  | n :: rest =>
    { status := .ok, noticeOverflow := r.overflow, data := noticeBytes n ++ bigEndian 1 rest.length,
      state := s.setPort p { r with notices := rest, overflow := false } }

/-- The data of STATUS (R188). A port state has the code that R187 gives its notice: notes/assumptions/17.md. -/
def statusData (p : PortId) (s : State) : List Byte :=
  let r := s.ports.get p
  bigEndian 1 p.val ++ bigEndian 1 r.role.code ++ bigEndian 1 (if r.silent then 0 else 1) ++ bigEndian 1 r.interval ++
    bigEndian 2 (r.timer.getD 0) ++ bigEndian 1 r.notices.length ++ flagByte r.overflow ++ bigEndian 1 s.chip.cause.code ++
    bigEndian 3 s.time.clock ++ bigEndian 2 s.time.frame

/-- The last second of the day (R189). -/
def lastSecond : Nat := 86399

/-- CLOCK_SET (R189). -/
def clockSet (seconds : Nat) (s : State) : Answer :=
  if lastSecond < seconds then refuse .range s
  else accept { s with time := { s.time with clock := seconds, clockTicks := 0 } }

/-- SUPERVISE_SET (R186). -/
def superviseSet (p : PortId) (interval : Nat) (s : State) : Answer :=
  if 255 < interval then refuse .range s
  else accept (s.setPort p { s.ports.get p with interval := interval, timer := fullInterval interval })

/-- One second of the kitchen clock (R189). -/
def clockAdvance (s : State) : State :=
  { s with time := { s.time with clock := if lastSecond ≤ s.time.clock then 0 else s.time.clock + 1, clockTicks := 0 } }

/-- A zone of a port that becomes SILENT is paused where it heats (R73). -/
def pauseOwned (p : PortId) (s : State) (z : ZoneId) : State :=
  match s.zones.get z with
  | some r => if r.owner = p ∧ r.state.heating then enterPaused z s else s
  | none => s

/-- A port enters SILENT (R187). -/
def enterSilent (p : PortId) (s : State) : State :=
  let s := s.setPort p { s.ports.get p with silent := true, timer := none }
  let s := allZones.foldl (pauseOwned p) s
  post .portState p.val 0 (raise .portSilent .any p.val s)

/-- A port's supervision timer expires (R186, R187). Only a running timer can. -/
def supervisionExpiry (p : PortId) (s : State) : State := if (s.ports.get p).timer.isSome then enterSilent p s else s

/-! ### The meanings -/

def execNop (t : Transfer) (s : State) : Result := command t allRoles accept s

def execStatus (t : Transfer) (s : State) : Result := command t allRoles (fun s => reply (statusData t.port s) s) s

def execReadNotice (t : Transfer) (s : State) : Result := command t allRoles (readNotice t.port) s

def execClockSet (t : Transfer) (seconds : Nat) (s : State) : Result := command t [.banquet, .energy] (clockSet seconds) s

def execSuperviseSet (t : Transfer) (interval : Nat) (s : State) : Result := command t allRoles (superviseSet t.port interval) s

/-- A transaction of fill bytes alone places no reply (R182). -/
def execReadTransaction (p : PortId) (clocked : Nat) (s : State) : Result := .next (transaction p clocked id s)

/-- A short or long frame (R181). -/
def execFrameError (p : PortId) (clocked : Nat) (s : State) : Result :=
  .next (transaction p clocked (fun s => placeAnswer p (refuse .frameError s)) s)

/-- A well-formed request whose code is not in the table (R181). -/
def execUnknown (p : PortId) (clocked : Nat) (s : State) : Result :=
  .next (transaction p clocked (fun s => placeAnswer p (refuse .unknown s)) s)

def execSupervisionTimerExpiry (p : PortId) (s : State) : Result := event (supervisionExpiry p) s

def execKitchenClockAdvance (s : State) : Result := event clockAdvance s

end Sys2Proof.Machine
end

