-- ==== Sys2Proof/Machine/Resets.lean ====
section
/-! DEFINITION. The two resets and the end of a reset (R183, R191, R192, and the reset rule of each block). -/

namespace Sys2Proof.Machine

/-- Every block in its reset state and the part held there; a port's role stands until the straps are sampled again (R183,
R191). -/
def holdInReset (powerOn : Bool) (s : State) : State :=
  s.resetBlocks { s.chip with phase := .held powerOn } (s.ports.map fun p => Port.reset p.role false)

/-- The supply monitor asserts reset (R192). -/
def powerOnReset (s : State) : State := holdInReset true s

/-- Whether the supply monitor has asserted reset since the part last left reset (R192). -/
def Phase.powerOnMark : Phase → Bool
  | .running => false
  | .held powerOn => powerOn

/-- The RESET pin goes low (R192). -/
def pinReset (s : State) : State := holdInReset s.chip.phase.powerOnMark s

/-- The part leaves reset: the cause is recorded, the straps are sampled, and a selected port waits for its chip select's rise
(R183, R192). The link's first PROBE is sent at the first tick after it (R170): `firstProbe`. Out of reset there is none to
leave: notes/assumptions/8.md. -/
def leaveReset (straps : Table 4 (Fin 4)) (selected : Table 4 Bool) (s : State) : State :=
  match s.chip.phase with
  | .running => s
  | .held powerOn =>
    s.resetBlocks { phase := .running, cause := if powerOn then .powerOn else .pin }
      (Table.build 4 fun p => Port.reset (Role.ofStraps (straps.get p)) (selected.get p))

/-! ### The meanings -/

def execPowerOnReset (s : State) : Result := .next (powerOnReset s)

def execPinReset (s : State) : Result := .next (pinReset s)

def execLeaveReset (straps : Table 4 (Fin 4)) (selected : Table 4 Bool) (s : State) : Result :=
  .next (leaveReset straps selected s)

end Sys2Proof.Machine
end

