-- ==== Sys2Proof/Machine/Dispatch.lean ====
section
/-! DEFINITION. Every command to its meaning: one arm for each constructor of Instr, in the order of spec/opcode_table.json. -/

namespace Sys2Proof.Machine

def exec (i : Instr) (s : State) : Host.Outcome State Fault Refusal :=
  match i with
  | .nop t => Sys2Proof.Machine.execNop t s
  | .status t => Sys2Proof.Machine.execStatus t s
  | .readNotice t => Sys2Proof.Machine.execReadNotice t s
  | .clockSet t seconds => Sys2Proof.Machine.execClockSet t seconds s
  | .superviseSet t interval => Sys2Proof.Machine.execSuperviseSet t interval s
  | .loadSet t load rating => Sys2Proof.Machine.execLoadSet t load rating s
  | .loadQuery t load => Sys2Proof.Machine.execLoadQuery t load s
  | .mapFixed t entry cls => Sys2Proof.Machine.execMapFixed t entry cls s
  | .mapWindow t window base mask cls valid => Sys2Proof.Machine.execMapWindow t window base mask cls valid s
  | .mapDefault t cls => Sys2Proof.Machine.execMapDefault t cls s
  | .mapEnable t mapOn fixedOn => Sys2Proof.Machine.execMapEnable t mapOn fixedOn s
  | .mapQuery t load => Sys2Proof.Machine.execMapQuery t load s
  | .frameSet t length => Sys2Proof.Machine.execFrameSet t length s
  | .feedLimit t limit => Sys2Proof.Machine.execFeedLimit t limit s
  | .shedLevel t level => Sys2Proof.Machine.execShedLevel t level s
  | .frameQuery t => Sys2Proof.Machine.execFrameQuery t s
  | .feedConfig t sag restore debounce wait => Sys2Proof.Machine.execFeedConfig t sag restore debounce wait s
  | .feedQuery t => Sys2Proof.Machine.execFeedQuery t s
  | .sensorQuery t channel => Sys2Proof.Machine.execSensorQuery t channel s
  | .zoneDefine t z => Sys2Proof.Machine.execZoneDefine t z s
  | .zoneSetpoint t zone setpoint fallback standby => Sys2Proof.Machine.execZoneSetpoint t zone setpoint fallback standby s
  | .zoneStart t zone => Sys2Proof.Machine.execZoneStart t zone s
  | .zoneStop t zone => Sys2Proof.Machine.execZoneStop t zone s
  | .zonePause t zone => Sys2Proof.Machine.execZonePause t zone s
  | .zoneResume t zone => Sys2Proof.Machine.execZoneResume t zone s
  | .zoneClear t zone => Sys2Proof.Machine.execZoneClear t zone s
  | .zoneQuery t zone => Sys2Proof.Machine.execZoneQuery t zone s
  | .programStep t zone slot setpoint soak duration action => Sys2Proof.Machine.execProgramStep t zone slot setpoint soak duration action s
  | .programLoad t zone count hold => Sys2Proof.Machine.execProgramLoad t zone count hold s
  | .programRun t zone => Sys2Proof.Machine.execProgramRun t zone s
  | .programAdvance t zone => Sys2Proof.Machine.execProgramAdvance t zone s
  | .programAbort t zone => Sys2Proof.Machine.execProgramAbort t zone s
  | .programQuery t zone => Sys2Proof.Machine.execProgramQuery t zone s
  | .lineConfig t l => Sys2Proof.Machine.execLineConfig t l s
  | .rackLoad t tag kind count => Sys2Proof.Machine.execRackLoad t tag kind count s
  | .linePurge t => Sys2Proof.Machine.execLinePurge t s
  | .lineQuery t => Sys2Proof.Machine.execLineQuery t s
  | .rackQuery t position => Sys2Proof.Machine.execRackQuery t position s
  | .wareDefine t kind stock => Sys2Proof.Machine.execWareDefine t kind stock s
  | .wareAdjust t kind location zone amount => Sys2Proof.Machine.execWareAdjust t kind location zone amount s
  | .wareReturn t kind number => Sys2Proof.Machine.execWareReturn t kind number s
  | .wareQuery t kind => Sys2Proof.Machine.execWareQuery t kind s
  | .cabinetSet t zone kind capacity low high => Sys2Proof.Machine.execCabinetSet t zone kind capacity low high s
  | .cabinetQuery t zone => Sys2Proof.Machine.execCabinetQuery t zone s
  | .restockConfirm t zone number => Sys2Proof.Machine.execRestockConfirm t zone number s
  | .restockQuery t => Sys2Proof.Machine.execRestockQuery t s
  | .courseFire t room kind covers group cabinets => Sys2Proof.Machine.execCourseFire t room kind covers group cabinets s
  | .coursePlated t course number => Sys2Proof.Machine.execCoursePlated t course number s
  | .courseClose t course => Sys2Proof.Machine.execCourseClose t course s
  | .courseQuery t course => Sys2Proof.Machine.execCourseQuery t course s
  | .staffSet t entry address role group => Sys2Proof.Machine.execStaffSet t entry address role group s
  | .staffDuty t entry setting => Sys2Proof.Machine.execStaffDuty t entry setting s
  | .staffQuery t entry => Sys2Proof.Machine.execStaffQuery t entry s
  | .pageSend t role group closure code object => Sys2Proof.Machine.execPageSend t role group closure code object s
  | .pageDone t page => Sys2Proof.Machine.execPageDone t page s
  | .pageLevels t g0 g1 g2 g3 g4 g5 => Sys2Proof.Machine.execPageLevels t g0 g1 g2 g3 g4 g5 s
  | .pageTiming t setting => Sys2Proof.Machine.execPageTiming t setting s
  | .pageQuery t page => Sys2Proof.Machine.execPageQuery t page s
  | .linkQuery t => Sys2Proof.Machine.execLinkQuery t s
  | .readTransaction port clocked => Sys2Proof.Machine.execReadTransaction port clocked s
  | .frameError port clocked => Sys2Proof.Machine.execFrameError port clocked s
  | .unknown port clocked => Sys2Proof.Machine.execUnknown port clocked s
  | .supervisionTimerExpiry port => Sys2Proof.Machine.execSupervisionTimerExpiry port s
  | .kitchenClockAdvance => Sys2Proof.Machine.execKitchenClockAdvance s
  | .sliceAdvance => Sys2Proof.Machine.execSliceAdvance s
  | .frameBoundary => Sys2Proof.Machine.execFrameBoundary s
  | .feedConversion code => Sys2Proof.Machine.execFeedConversion code s
  | .waitTimerExpiry => Sys2Proof.Machine.execWaitTimerExpiry s
  | .sensorConversion code => Sys2Proof.Machine.execSensorConversion code s
  | .soakTimerExpiry zone => Sys2Proof.Machine.execSoakTimerExpiry zone s
  | .recoverTimerLimit zone => Sys2Proof.Machine.execRecoverTimerLimit zone s
  | .standbyTimerExpiry zone => Sys2Proof.Machine.execStandbyTimerExpiry zone s
  | .stepTimerExpiry zone => Sys2Proof.Machine.execStepTimerExpiry zone s
  | .rinseEnter => Sys2Proof.Machine.execRinseEnter s
  | .rinseExit => Sys2Proof.Machine.execRinseExit s
  | .rackOut => Sys2Proof.Machine.execRackOut s
  | .offer => Sys2Proof.Machine.execOffer s
  | .reOffer => Sys2Proof.Machine.execReOffer s
  | .cancel => Sys2Proof.Machine.execCancel s
  | .transmitComplete => Sys2Proof.Machine.execTransmitComplete s
  | .sent page => Sys2Proof.Machine.execSent page s
  | .unreachable page => Sys2Proof.Machine.execUnreachable page s
  | .ack page address answer => Sys2Proof.Machine.execAck page address answer s
  | .alive => Sys2Proof.Machine.execAlive s
  | .garbledMessage cause => Sys2Proof.Machine.execGarbledMessage cause s
  | .receiveGap => Sys2Proof.Machine.execReceiveGap s
  | .ackTimerExpiry page => Sys2Proof.Machine.execAckTimerExpiry page s
  | .responseTimerExpiry => Sys2Proof.Machine.execResponseTimerExpiry s
  | .probeTimerExpiry => Sys2Proof.Machine.execProbeTimerExpiry s
  | .powerOnReset => Sys2Proof.Machine.execPowerOnReset s
  | .pinReset => Sys2Proof.Machine.execPinReset s
  | .leaveReset straps selected => Sys2Proof.Machine.execLeaveReset straps selected s
  | .lineLevelChange line => Sys2Proof.Machine.execLineLevelChange line s

end Sys2Proof.Machine
end

