-- ==== Sys2Proof/Machine/Idle.lean ====
section
/-! DEFINITION. What the part does by itself when no command waits: a grant of the pager link, the end of a transmission, or
one tick of the Time Base. Each is taken as the commands of its rows. DESIGN CHOICE, notes/assumptions/1.md and 2.md. -/

namespace Sys2Proof.Machine

/-! ### Counting (R19, R47, R68, R69, R71, R85, R162, R172, R173, R176, R186, R189) -/

/-- A countdown after one tick. -/
def countDown (t : Option Nat) : Option Nat := t.map (· - 1)

/-- A zone's timers after one tick: the soak and standby timers count down, the recover timer counts up until ZONE_SLOW was
raised, and the step timer counts down where it counts. -/
def Zone.tick (r : Zone) : Zone :=
  { r with
    soakTimer := countDown r.soakTimer
    standbyTimer := countDown r.standbyTimer
    recoverTimer := if r.slowRaised then r.recoverTimer else r.recoverTimer.map (· + 1)
    program := r.program.map fun g => if stepCounts r g then { g with timer := g.timer - 1 } else g }

/-- The link's timers after one tick. -/
def Link.tick (l : Link) : Link :=
  { l with
    responseTimer := countDown l.responseTimer
    probeTimer := countDown l.probeTimer
    rxGap := if l.received = [] then l.rxGap else l.rxGap + 1 }

/-- The first sample of the event lines gives the held levels and raises nothing (R97). -/
def firstSample (s : State) : State :=
  if s.line.sampled then s
  else
    { s with line := { s.line with
        sampled := true, enterLevel := s.pins.enterLine, exitLevel := s.pins.exitLine, outLevel := s.pins.outLine } }

/-- The first PROBE is sent at the first tick (R170), a PROBE being sent only while the link is DOWN (R173). -/
def firstProbe (s : State) : State :=
  if s.link.probeDue then
    let s := { s with link := { s.link with probeDue := false } }
    if s.link.up then s else sendProbe s
  else s

/-- Every counter and running timer after one tick. -/
def countTick (s : State) : State :=
  firstProbe (firstSample
    { s with
      time := { s.time with clockTicks := s.time.clockTicks + 1, sliceTicks := s.time.sliceTicks + 1 }
      feed := { s.feed with waitTimer := countDown s.feed.waitTimer }
      zones := s.zones.map (Option.map Zone.tick)
      desk := { s.desk with pages := s.desk.pages.map fun p => { p with ackTimer := countDown p.ackTimer } }
      link := s.link.tick
      ports := s.ports.map fun p => { p with timer := countDown p.timer } })

/-! ### What falls due at a tick -/

/-- A command that a tick takes, and the condition under which it is still to be taken when its turn comes. -/
structure Due where
  command : Instr
  holds : State → Bool

/-- Whether a transition to a level is an event under a polarity (R98). -/
def Polarity.admits : Polarity → Bool → Bool
  | .none, _ => false
  | .rise, level => level
  | .fall, level => !level
  | .both, _ => true

/-- The level of an event line's pin. -/
def Pins.level (p : Pins) : EventLine → Bool
  | .rinseEnter => p.enterLine
  | .rinseExit => p.exitLine
  | .rackOut => p.outLine

/-- The held level of an event line. -/
def DishLine.level (l : DishLine) : EventLine → Bool
  | .rinseEnter => l.enterLevel
  | .rinseExit => l.exitLevel
  | .rackOut => l.outLevel

/-- The polarity of an event line. -/
def DishLine.polarity (l : DishLine) : EventLine → Polarity
  | .rinseEnter => l.enterPolarity
  | .rinseExit => l.exitPolarity
  | .rackOut => l.outPolarity

/-- The event of a line. -/
def lineEvent : EventLine → Instr
  | .rinseEnter => .rinseEnter
  | .rinseExit => .rinseExit
  | .rackOut => .rackOut

/-- The sample of an event line that differs from the held level (R98). -/
def sampleDue (s : State) (line : EventLine) : Due :=
  { command := if (s.line.polarity line).admits (s.pins.level line) then lineEvent line else .lineLevelChange line
    holds := fun s => s.pins.level line != s.line.level line }

/-- What may fall due in a zone. The order of one zone's timers, where two run out at one tick (R69 and R85 give none), is a DESIGN
CHOICE, notes/assumptions/2.md. -/
def zoneDues (z : ZoneId) : List Due :=
  let on (f : Zone → Bool) (s : State) : Bool := (s.zones.get z).any f
  [ { command := .soakTimerExpiry z, holds := on fun r => r.soakTimer == some 0 },
    { command := .recoverTimerLimit z
      holds := on fun r => !r.slowRaised && r.recoverTimer.any fun n => decide (100 * r.recoverLimit ≤ n) },
    { command := .standbyTimerExpiry z, holds := on fun r => r.standbyTimer == some 0 },
    { command := .stepTimerExpiry z, holds := on fun r => r.program.any fun g => stepCounts r g && g.timer == 0 } ]

/-- What may fall due in the pager link and the page queue. -/
def linkDues (s : State) : List Due :=
  { command := .receiveGap, holds := fun s => !s.link.received.isEmpty && decide (2 ≤ s.link.rxGap) } ::
    (s.desk.pages.map fun p =>
      { command := .ackTimerExpiry p.id, holds := fun s => (s.page? p.id).any fun q => q.ackTimer == some 0 }) ++
    [ { command := .responseTimerExpiry, holds := fun s => s.link.responseTimer == some 0 },
      { command := .probeTimerExpiry, holds := fun s => s.link.probeTimer == some 0 } ]

/-- What may fall due in the Time Base: the next second, the next slice, and the boundary at the end of slice 99 (R19, R189). -/
def timeDues : List Due :=
  [ { command := .kitchenClockAdvance, holds := fun s => decide (100 ≤ s.time.clockTicks) },
    { command := .frameBoundary, holds := fun s => s.time.slice == 99 && decide (s.time.sliceLength ≤ s.time.sliceTicks) },
    { command := .sliceAdvance, holds := fun s => s.time.slice != 99 && decide (s.time.sliceLength ≤ s.time.sliceTicks) } ]

/-- Everything that a tick may take, in the model's order. -/
def tickDues (s : State) : List Due :=
  [ { command := .feedConversion s.pins.feedSense, holds := fun _ => true },
    { command := .sensorConversion (s.pins.sensors.get s.scan.position), holds := fun _ => true } ] ++
    [EventLine.rinseEnter, EventLine.rinseExit, EventLine.rackOut].map (sampleDue s) ++
    [{ command := .waitTimerExpiry, holds := fun s => s.feed.waitTimer == some 0 }] ++ (allZones.map zoneDues).flatten ++
    linkDues s ++
    (allPorts.map fun p =>
      { command := .supervisionTimerExpiry p, holds := fun s => (s.ports.get p).timer == some 0 }) ++
    timeDues

/-- The arbiter acts at once: the grant that is due is made as the command of its row (R161). -/
def grantAtOnce (s : State) : Result :=
  match grantDue s with
  | some .cancel => exec .cancel s
  | some .reOffer => exec .reOffer s
  | some .offer => exec .offer s
  | none => .next s

/-- A due command taken, where it still holds, and at once after it the grant that it makes possible. -/
def takeDue (r : Result) (d : Due) : Result :=
  match r with
  | .next s =>
    if d.holds s then
      match exec d.command s with
      | .next t => grantAtOnce t
      | .fault f => .fault f
      | .refused f => .refused f
    else .next s
  | .fault f => .fault f
  | .refused f => .refused f

/-- One tick: every timer counts, and what was due when they had counted is taken in order, each with its grant. -/
def tick (s : State) : Result :=
  let s := countTick s
  ((tickDues s).filter fun d => d.holds s).foldl takeDue (.next s)

/-- The part with no command waiting: held in reset it waits; else it grants the link, ends a transmission, or ticks. -/
def idle (s : State) : Result :=
  if s.running = false then .next s
  else if (grantDue s).isSome then grantAtOnce s
  else if s.link.transmitting ≠ [] then exec .transmitComplete s
  else tick s

end Sys2Proof.Machine
end

