-- ==== Sys2Proof/Machine/Pins.lean ====
section
/-! DEFINITION. What the part drives on its output pins, read from the state (11 section 11.11). -/

namespace Sys2Proof.Machine

/-- A load line: on while the current slice is in the on-slice set of its load point, off in reset (R31, R192). -/
def loadLine (s : State) (n : LoadId) : Bool := s.running && (s.loads.get n).isOn s.time.slice

/-- The conveyor permit output (R112, R192). -/
def permitLine (s : State) : Bool := s.running && s.line.permit

/-- A port's ATTN line: asserted while its notice queue holds a notice (R185, R192). -/
def attnLine (s : State) (p : PortId) : Bool := s.running && !(s.ports.get p).notices.isEmpty

/-- The frame that the UART is sending, the empty list being an idle line (R173, R192). -/
def transmitLine (s : State) : List Byte := if s.running then s.link.transmitting else []

/-- The bytes that a port clocks out in a transaction of some bytes: the reply in its slot, or NONE, and then fill (R182,
R192). -/
def misoBytes (s : State) (p : PortId) (clocked : Nat) : List Byte :=
  let out :=
    match (s.ports.get p).slot with
    | some r => if s.running then r.bytes else noReplyBytes
    | none => noReplyBytes
  (out ++ List.replicate clocked (0xFF : Byte)).take clocked

end Sys2Proof.Machine
end

