-- ==== Sys2Proof/Machine/Inputs.lean ====
section
/-! DEFINITION. How raw inputs become commands: a transaction's bytes (R181), a byte of the UART (R172), the levels of the pins
(11 section 11.11). What they bring stands last in the queue, so that commands are taken in the order in which they came. -/

namespace Sys2Proof.Machine

/-- A command joins the queue of those waiting. -/
def State.enqueue (s : State) (is : List Instr) : State := { s with pending := s.pending ++ is }

/-- Chip select of a port rises after some bytes (R181). With no byte clocked nothing is taken; a chip select that was low when
the part left reset has then risen (R192). That such a rise acts at once and joins no queue, so that it may overtake transactions
of its port that still wait there, is a DESIGN CHOICE, notes/assumptions/38.md. -/
def State.clockTransaction (s : State) (p : PortId) (bytes : List Byte) : State :=
  match decodeTransaction p bytes with
  | some i => s.enqueue [i]
  | none => s.setPort p { s.ports.get p with csIgnored := false }

/-- A byte arrives from the station (R172). In reset nothing is received (R192). The receiver takes it at once, and the event that
it completes joins the queue: notes/assumptions/38.md. -/
def State.receiveByte (s : State) (b : Byte) (framingError : Bool) : State :=
  if s.running then
    let r := receive s.link.received b framingError
    { s with link := { s.link with received := r.1, rxGap := 0 } }.enqueue r.2.toList
  else s

/-- The field side sets the levels of the input pins. -/
def State.setPins (s : State) (pins : Pins) : State := { s with pins := pins }

end Sys2Proof.Machine
end

