-- ==== Sys2Proof/Safety.lean ====
section
/-! DEFINITION. What a safe run of the part is: the laws of the device that the manual states, each a predicate on one state.

Each law is decidable, so a concrete state can be tested against it. Facts that a law rests on and that the manual states beside
it stand in the same predicate. -/

namespace Sys2Proof.Machine

/-! ### The allocation frame (R12 to R14, R32) -/

/-- The ratings of the load points that the current frame places on a slice, added up. -/
def slicePower (s : State) (i : Nat) : Nat :=
  (allLoads.map fun n => if i ∈ (s.loads.get n).onSlices then (s.loads.get n).placed else 0).sum

/-- Whether the feed state keeps every line off (R32). -/
def FeedState.dark : FeedState → Bool
  | .sag | .restoreWait => true
  | .stage1 | .stage2 | .normal => false

/-- R32, first law, over the slices still to come: the ratings on a slice stay within the feed limit in force, and none is on
in SAG and RESTORE_WAIT. Beside it: the slice sum table holds those ratings, and the grant order holds every load point placed
(R27, R28). -/
abbrev powerLaw (s : State) : Prop :=
  (∀ i : Fin 100, s.time.slice ≤ i.val →
    slicePower s i.val = s.alloc.sums.get i ∧ s.alloc.sums.get i ≤ s.alloc.limit) ∧
  (∀ n : LoadId, remaining s.time.slice (s.loads.get n) ≠ [] →
    n ∈ s.alloc.order ∧ s.feed.state.dark = false) ∧
  (∀ n : LoadId, ∀ i ∈ (s.loads.get n).onSlices, i < 100) ∧ ∀ n : LoadId, (s.loads.get n).onSlices.Nodup

/-- R32, second law, over the slices still to come: no line is on for a LOCKOUT load point, nor for one whose zone is OFF,
FAULT or undefined. Beside it: a load point is bound to a zone that lists it (R6). -/
abbrev heatLaw (s : State) : Prop :=
  (∀ n : LoadId, remaining s.time.slice (s.loads.get n) ≠ [] →
    (s.loads.get n).effective ≠ .lockout ∧ ∃ z ∈ boundZone s n, z.state ≠ .off ∧ z.state ≠ .fault) ∧
  ∀ n : LoadId, ∀ z ∈ (s.loads.get n).binding, ∃ r ∈ s.zones.get z, n ∈ r.loads

/-- R32, third law: on-slices are at most the granted duty, and that at most the requested duty. -/
abbrev dutyLaw (s : State) : Prop :=
  ∀ n : LoadId, (s.loads.get n).onSlices.length ≤ (s.loads.get n).granted ∧
    (s.loads.get n).granted ≤ (s.loads.get n).requested

/-- A load point resolved to LOCKOUT has LOCKOUT in force (R13, R14). -/
abbrev lockoutLaw (s : State) : Prop :=
  ∀ n : LoadId, (s.loads.get n).resolved = .lockout → (s.loads.get n).effective = .lockout

/-! ### Zones (R64) -/

/-- Whether a setpoint lies in a kind's range (04 section 4.2). -/
abbrev ZoneKind.admits (k : ZoneKind) (v : Nat) : Prop := k.setpointRange.1 ≤ v ∧ v ≤ k.setpointRange.2

/-- R64: every setpoint of a zone, the active one among them, lies within its kind's range; so do the setpoints of its draft
and program (R81, R82), which only an OVEN has. -/
abbrev setpointLaw (s : State) : Prop :=
  ∀ z : ZoneId, ∀ r ∈ s.zones.get z,
    r.kind.admits r.active ∧ r.kind.admits r.setpoint ∧ r.kind.admits r.fallback ∧
      (r.standby.isSome ↔ r.kind = .warmer) ∧ (∀ v ∈ r.standby, r.kind.admits v) ∧
      ∀ g ∈ r.program,
        r.kind = .oven ∧ ZoneKind.oven.admits g.hold ∧ (∀ st ∈ g.steps, ZoneKind.oven.admits st.setpoint) ∧
          ∀ d ∈ g.draft.items, ∀ st ∈ d, ZoneKind.oven.admits st.setpoint

/-! ### The dish line (R101, R108, R112) -/

/-- The rank of a stage: it never rises from the head of the queue to the tail (R101). -/
def Stage.rank : Stage → Nat
  | .wash => 0
  | .rinse => 1
  | .done => 2

/-- R101 and R108: at most 12 racks, no tag twice, stages that never increase from head to tail, and a CLEAN verdict only where
both minimums reached their thresholds. -/
abbrev rackLaw (s : State) : Prop :=
  s.line.racks.length ≤ 12 ∧ (s.line.racks.map (·.tag)).Nodup ∧
    s.line.racks.Pairwise (fun a b => b.stage.rank ≤ a.stage.rank) ∧
    ∀ r ∈ s.line.racks,
      (r.verdict = .clean → s.line.washThreshold ≤ r.washMin ∧ s.line.rinseThreshold ≤ r.rinseMin.getD 0) ∧
        (r.verdict = .pending ↔ r.stage ≠ .done)

/-- R112: the conveyor permit stands exactly while its conditions hold. -/
abbrev permitLaw (s : State) : Prop := s.line.permit = permitCondition s

/-! ### Plates and courses (R119, R124, R128, R137, R139) -/

/-- R119: a defined kind's total is the sum of its five locations; an undefined kind has no plate anywhere (R118). -/
abbrev plateLaw (s : State) : Prop :=
  ∀ k : WareId,
    (s.wares.get k).total =
      (s.wares.get k).soiled + inRacks s k + (s.wares.get k).clean + inCabinets s k + (s.wares.get k).out ∧
    ((s.wares.get k).defined = false → (s.wares.get k).total = 0)

/-- The plates that the courses hold on a cabinet (R124). -/
def heldOn (s : State) (z : ZoneId) : Nat :=
  (allCourses.map fun c => match s.course? c with
    | some r => ((r.entries.filter fun e => e.1 = z).map (·.2)).sum
    | none => 0).sum

/-- R124: reserved at most stock, stock at most capacity, and reserved what the courses hold. A zone that is no WARMER has no
cabinet and nothing held on it, and every entry stands on a cabinet of the course's kind. -/
abbrev cabinetLaw (s : State) : Prop :=
  (∀ z : ZoneId, ∀ c ∈ s.cabinet? z,
    c.reserved ≤ c.stock ∧ c.stock ≤ c.capacity ∧ c.reserved = heldOn s z ∧ (c.kind = none → c.capacity = 0)) ∧
  (∀ z : ZoneId, s.cabinet? z = none → heldOn s z = 0) ∧
  (∀ z : ZoneId, ∀ r ∈ s.zones.get z, (r.cabinet.isSome ↔ r.kind = .warmer)) ∧
  ∀ c : CourseId, ∀ r ∈ s.course? c, ∀ e ∈ r.entries, ∃ b ∈ s.cabinet? e.1, b.kind = some r.kind

/-- R128: no cabinet has two open restock tasks. -/
abbrev taskLaw (s : State) : Prop := (s.restock.map (·.cabinet)).Nodup

/-- R137 and R139: the fire order holds the live courses, each once; no course holds more plates than its covers, its entries
are at most 6, on distinct cabinets, none empty; and it is SHORT exactly while it has a need (R140). -/
abbrev courseLaw (s : State) : Prop :=
  s.courses.order.Nodup ∧ (∀ c : CourseId, c ∈ s.courses.order ↔ (s.course? c).isSome) ∧
    ∀ c : CourseId, ∀ r ∈ s.course? c,
      r.plated + r.totalReserved ≤ r.covers ∧ r.entries.length ≤ 6 ∧ (r.entries.map (·.1)).Nodup ∧
        (∀ e ∈ r.entries, 1 ≤ e.2) ∧ (r.short = true ↔ 0 < r.need)

/-! ### Pages and staff (R151, R155, R162) -/

/-- R155: at most 32 live pages, no id twice; and at most 32 cancel requests (R167). -/
abbrev pageLaw (s : State) : Prop :=
  s.desk.pages.length ≤ 32 ∧ (s.desk.pages.map (·.id)).Nodup ∧ s.desk.cancels.length ≤ 32

/-- Whether an entry's page stands in a state with the entry as its target. -/
abbrev holdsPage (s : State) (e : EntryId) (page : Option PageId) (st : PageState) : Prop :=
  ∃ i ∈ page, ∃ p ∈ s.page? i, p.state = st ∧ p.target = some e

/-- R151: an entry's duty, current page and suspended page go together, and the pages they name are targeted at it in the states
that the manual gives. -/
abbrev dutyPagesLaw (s : State) : Prop :=
  ∀ e : EntryId,
    ((s.staff e).duty = .offDuty ∨ (s.staff e).duty = .free → (s.staff e).current = none ∧ (s.staff e).suspended = none) ∧
      ((s.staff e).duty ≠ .offDuty → (s.staff e).address ≠ 0) ∧
      ((s.staff e).duty = .paged → holdsPage s e (s.staff e).current .offered) ∧
      ((s.staff e).duty = .assigned → holdsPage s e (s.staff e).current .accepted) ∧
      ((s.staff e).suspended = none ∨ holdsPage s e (s.staff e).suspended .suspended)

/-- Whether a page and an entry name each other (R162). -/
abbrev targetAgrees (s : State) (p : Page) (e : EntryId) : Prop :=
  (p.state = .offered ∧ (s.staff e).current = some p.id ∧ (s.staff e).duty = .paged) ∨
    (p.state = .accepted ∧ (s.staff e).current = some p.id ∧ (s.staff e).duty = .assigned) ∨
    (p.state = .suspended ∧ (s.staff e).suspended = some p.id)

/-- R162: a QUEUED page has no target, and every OFFERED, ACCEPTED or SUSPENDED page is held by its one target. -/
abbrev targetLaw (s : State) : Prop :=
  ∀ p ∈ s.desk.pages, (p.state = .queued ∧ p.target = none) ∨ ∃ e ∈ p.target, targetAgrees s p e

/-- R151: the free lists hold the FREE entries of their roles, each once. -/
abbrev freeListLaw (s : State) : Prop :=
  (∀ i : Fin 5, (s.roster.free.get i).Nodup) ∧
    ∀ e : EntryId, ∀ i : Fin 5, e ∈ s.roster.free.get i ↔ (s.staff e).role.index = i ∧ (s.staff e).duty = .free

/-- R151 and R162 together. -/
abbrev staffLaw (s : State) : Prop := dutyPagesLaw s ∧ targetLaw s ∧ freeListLaw s

/-! ### The pager link and the ports (R173, R175, R184, R190) -/

/-- R173 and R175: what is outstanding is a PROBE or nothing while the link is DOWN, and no PROBE while it is UP; the response
timer runs only for an outstanding message whose last byte has left; the third timeout in a row has taken the link DOWN. -/
abbrev linkLaw (s : State) : Prop :=
  (s.link.up = true → s.link.outstanding ≠ .probe ∧ s.link.timeouts < 3) ∧
    (s.link.up = false → s.link.outstanding = .none ∨ s.link.outstanding = .probe) ∧
    (s.link.outstanding = .none → s.link.transmitting = [] ∧ s.link.responseTimer = none) ∧
    (s.link.transmitting ≠ [] → s.link.responseTimer = none) ∧
    s.link.timeouts ≤ 3

/-- R19, R20, R189: the counters and the slice lengths of the Time Base stay in their ranges. -/
abbrev timeLaw (s : State) : Prop :=
  s.time.slice < 100 ∧ s.time.frame < 65536 ∧ s.time.clock ≤ 86399 ∧ (1 ≤ s.time.sliceLength ∧ s.time.sliceLength ≤ 10) ∧
    1 ≤ s.time.slicePending ∧ s.time.slicePending ≤ 10

/-- R184: no notice queue is longer than 16. -/
abbrev noticeLaw (s : State) : Prop := ∀ p : PortId, (s.ports.get p).notices.length ≤ 16

/-- The sizes that bound a reply (R60, R80, R101, R138, R139), and R190: no reply's data is longer than 160 bytes. -/
abbrev replyLaw (s : State) : Prop :=
  (∀ z : ZoneId, ∀ r ∈ s.zones.get z, r.loads.length ≤ 4 ∧ ∀ g ∈ r.program, g.steps.length ≤ 8) ∧
    s.line.racks.length ≤ 12 ∧
    (∀ c : CourseId, ∀ r ∈ s.course? c, r.cabinets.length ≤ 6 ∧ r.entries.length ≤ 6) ∧
    ∀ p : PortId, ∀ r ∈ (s.ports.get p).slot, r.data.length ≤ 160

/-- Every law of the device at once. -/
abbrev lawful (s : State) : Prop :=
  (powerLaw s ∧ heatLaw s ∧ dutyLaw s ∧ lockoutLaw s) ∧ setpointLaw s ∧ (rackLaw s ∧ permitLaw s) ∧
    (plateLaw s ∧ cabinetLaw s ∧ taskLaw s ∧ courseLaw s) ∧ (pageLaw s ∧ staffLaw s) ∧ linkLaw s ∧
    noticeLaw s ∧ replyLaw s ∧ timeLaw s

/-! ### What an operation leaves alone

Five relations between a state and the state an operation leaves, the first four each wider than the one before. The
statements use them as frames. -/

/-- A port but for its notice queue and overflow mark. -/
def SamePort (a b : Port) : Prop := ∃ n o, b = { a with notices := n, overflow := o }

/-- Only the page queue, the roster and the ports' notices differ. -/
def PagingOnly (s t : State) : Prop :=
  (∃ d r p, t = { s with desk := d, roster := r, ports := p }) ∧ ∀ q, SamePort (s.ports.get q) (t.ports.get q)

/-- Beside these, only the zones, the permit and the restock list. -/
def StockOnly (s t : State) : Prop :=
  (∃ z b l d r p, t = { s with
    zones := z, line := { s.line with permit := b }, restock := l, desk := d, roster := r, ports := p }) ∧
    ∀ q, SamePort (s.ports.get q) (t.ports.get q)

/-- Beside these, only the wares and the courses. -/
def ServiceOnly (s t : State) : Prop :=
  (∃ z b w l c d r p, t = { s with
    zones := z, line := { s.line with permit := b }, wares := w, restock := l, courses := c, desk := d, roster := r,
    ports := p }) ∧
    ∀ q, SamePort (s.ports.get q) (t.ports.get q)

/-- Beside these, only the load points, the allocator and the racks. -/
def ZoneMoveOnly (s t : State) : Prop :=
  (∃ lo a z b k w l c d r p, t = { s with
    loads := lo, alloc := a, zones := z, line := { s.line with permit := b, racks := k }, wares := w, restock := l,
    courses := c, desk := d, roster := r, ports := p }) ∧
    ∀ q, SamePort (s.ports.get q) (t.ports.get q)

/-- Only the load points and the allocator differ. -/
def PlacementOnly (s t : State) : Prop := ∃ lo a, t = { s with loads := lo, alloc := a }

/-! ### The terms of the statements about commands -/

/-- R161: no grant is due, since the link is DOWN, or holds a message, or no request waits. The arbiter grants at once, so that no
command finds the part otherwise: where a grant is due, it comes before the command. -/
abbrev Settled (s : State) : Prop :=
  s.link.up = true → s.link.outstanding = .none → s.desk.cancels = [] ∧ s.desk.reoffers = [] ∧ nextOffer s = none

/-- The part runs and no grant is due. -/
abbrev Quiet (s : State) : Prop := s.running = true ∧ Settled s

/-- A request that its port takes and that is judged by the command's own checks: the part runs with no grant due, the port has
seen its chip select rise, its role may send the command, and the payload length is one the command carries (R181, R192). -/
abbrev Judged (t : Transfer) (roles : List Role) (s : State) : Prop :=
  Quiet s ∧ (s.ports.get t.port).csIgnored = false ∧ (s.ports.get t.port).role ∈ roles ∧ t.lengthOk = true

/-- A request that its port takes and whose payload length is one the command carries (R181, R192): only the sender's role and
the command's own checks are still to be judged. -/
abbrev Listening (t : Transfer) (s : State) : Prop :=
  Quiet s ∧ (s.ports.get t.port).csIgnored = false ∧ t.lengthOk = true

/-- The role of a transaction's port is among some roles. -/
abbrev Permitted (t : Transfer) (roles : List Role) (s : State) : Prop := (s.ports.get t.port).role ∈ roles

/-- As `Judged`, for a command of a defined zone from the role that has its kind rights (R59). -/
abbrev ZoneJudged (t : Transfer) (z : ZoneId) (r : Zone) (s : State) : Prop :=
  Judged t [r.kind.commandedBy] s ∧ s.zones.get z = some r

/-- The state in which a request is judged: its frame counted and its port's slot dealt with (R181, R182, R186, R187). -/
def heard (t : Transfer) (s : State) : State := openTransaction t.port t.clocked s

/-- The state after a request is answered: the reply is in its port's slot (R182). -/
def answered (t : Transfer) (status : Status) (data : List Byte) (w : State) : State :=
  placeAnswer t.port { status := status, noticeOverflow := false, data := data, state := w }

/-- The state after a request is refused: nothing but its port's slot has changed (R181). -/
def refusedWith (t : Transfer) (why : Status) (s : State) : State := answered t why [] (heard t s)

/-- OK, or CLAMPED where a value was brought into its range (00 section 4.4). -/
def okOr (moved : Bool) : Status := if moved then .clamped else .ok

/-- A notice stands in the queue of every port whose role subscribes to it, or was dropped there by a full queue (R184). -/
abbrev Noticed (k : NoticeKind) (object value : Nat) (s w : State) : Prop :=
  ∀ p : PortId, k.subscribed (s.ports.get p).role = true →
    ({ kind := k, object := object, value := value, time := s.time.clock } : Notice) ∈ (w.ports.get p).notices ∨
      (16 ≤ (w.ports.get p).notices.length ∧ (w.ports.get p).overflow = true)

/-- A member of staff released: the suspended page is taken up again, or else the entry is FREE at the tail of its role's list;
no other entry changes (R163). -/
def Released (e : EntryId) (s w : State) : Prop :=
  (∀ q, (s.staff e).suspended = some q →
    w.staff e = { s.staff e with
      duty := .assigned, current := some q, suspended := none, since := s.roster.nextStamp } ∧
    ∀ p ∈ w.desk.pages, p.id = q → p.state = .accepted) ∧
  ((s.staff e).suspended = none →
    w.staff e = { s.staff e with duty := .free, current := none, suspended := none } ∧
    w.freeList (s.staff e).role = s.freeList (s.staff e).role ++ [e]) ∧
  ∀ d, d ≠ e → w.staff d = s.staff d

/-- A page that has left the queue, no other page's record but those its target takes up having changed, with its notice
(R155, R168). -/
def Closed (p : Page) (outcome : Outcome) (s w : State) : Prop :=
  w.desk.pages.map (·.id) = (s.desk.pages.map (·.id)).filter (· ≠ p.id) ∧ p.id ∉ w.desk.reoffers ∧
    Noticed .pageClosed p.id.val (outcome.code * 256 + p.cause) s w

/-- A page back in QUEUED with no target, some of its record as `q` has it, off the re-offer list (R164, R165). -/
def Requeued (q : Page) (s w : State) : Prop :=
  q ∈ w.desk.pages ∧ q.state = .queued ∧ q.target = none ∧ q.ackTimer = none ∧
    w.desk.pages.map (·.id) = s.desk.pages.map (·.id) ∧ q.id ∉ w.desk.reoffers

/-- A live page of a cause and object stands in the queue, or the queue is full (R156, R157). -/
abbrev PagedOrFull (cause object : Nat) (w : State) : Prop :=
  (∃ p ∈ w.desk.pages, p.cause = cause ∧ p.object = object) ∨ 32 ≤ w.desk.pages.length

/-- A load point cut in a slice: what it still had to come is gone, and its flag is set (R37). -/
def LoadPoint.cutFrom (l : LoadPoint) (slice : Nat) : LoadPoint :=
  { l with onSlices := l.onSlices.filter (· < slice), cut := true }

/-- Some load points cut from the frame, each that holds remaining on-slices losing them, and every other one left: the
on-slices, the slice sums and the rest of the allocator (R37). -/
def FrameCut (which : LoadId → Prop) (s w : State) : Prop :=
  (∀ n : LoadId, (which n ∧ remaining s.time.slice (s.loads.get n) ≠ [] →
      w.loads.get n = (s.loads.get n).cutFrom s.time.slice) ∧
    (¬ (which n ∧ remaining s.time.slice (s.loads.get n) ≠ []) → w.loads.get n = s.loads.get n)) ∧
  ∀ i : Fin 100, ∃ out : List LoadId, out.Nodup ∧
    (∀ n, n ∈ out ↔ which n ∧ i.val ∈ remaining s.time.slice (s.loads.get n)) ∧
    w.alloc.sums.get i = s.alloc.sums.get i - (out.map fun n => (s.loads.get n).placed).sum

/-! ### The manual's walks

What the manual's walks do, said over the lists that they walk, for the statements about what makes one. -/

/-- R34: load points taken one after another. One that is on in a remaining slice whose sum, as the walk has left it so far,
exceeds the limit in force is cut; every other one, each one where no remaining slice exceeds it among them, is left. -/
def LimitWalk : List LoadId → State → State → Prop
  | [], s, w => w = s
  | n :: rest, s, w =>
    let above := ∃ i : Fin 100,
      s.time.slice ≤ i.val ∧ i.val ∈ (s.loads.get n).onSlices ∧ s.alloc.limit < s.alloc.sums.get i
    ∃ u, (¬ above → u = s) ∧
      (above → PlacementOnly s u ∧ u.alloc = { s.alloc with sums := u.alloc.sums } ∧ FrameCut (· = n) s u) ∧
      LimitWalk rest u w

/-- R27 and R28: load points placed one after another in the frame of `w`, over the slice sums so far and from a start pointer.
Each is granted the slices that have room, scanned upward from the pointer and past slice 99 from slice 0, as many as it
requests; the pointer moves behind the last one taken; and after the last load point the sums are those of the frame. -/
def PlacedInTurn (w : State) : List LoadId → (Fin 100 → Nat) → Fin 100 → Prop
  | [], sums, _ => ∀ i, w.alloc.sums.get i = sums i
  | n :: rest, sums, start =>
    let l := w.loads.get n
    let scan := allSlices.drop start.val ++ allSlices.take start.val
    let taken := (scan.filter fun i => sums i + l.placed ≤ w.alloc.limit).take l.requested
    l.granted = taken.length ∧ l.onSlices = (allSlices.filter fun i => i ∈ taken).map (·.val) ∧
      PlacedInTurn w rest (fun i => if i ∈ taken then sums i + l.placed else sums i)
        (match taken.getLast? with | some i => i + 1 | none => start)

/-- R129, R133 and R135: the restock test of a cabinet `c`, of a zone that is neither OFF nor FAULT, against the wares and the
restock list of `s`. A task is opened where available is below the low mark and none is open. -/
def TaskTest (z : ZoneId) (c : Cabinet) (s w : State) : Prop :=
  match c.kind with
  | none => w.restock = s.restock
  | some k =>
    let paged := decide (1 ≤ (s.wares.get k).clean)
    if c.stock - c.reserved < c.low ∧ s.task? z = none then
      w.restock = s.restock ++
        [{ cabinet := z, kind := k, wanted := max 1 (c.high - c.stock), paged := paged, opened := s.time.clock }] ∧
      (paged = true → PagedOrFull 48 z.val w) ∧ Noticed .restockTask z.val (if paged then 1 else 0) s w
    else w.restock = s.restock

/-- What the passes of the Course Table read and write: the live courses, and the plates that stand available in the cabinets
of READY zones. -/
structure Ledger where
  course : CourseId → Option Course
  plates : ZoneId → Nat

/-- The ledger of a state. -/
def State.ledger (s : State) : Ledger :=
  { course := s.course?
    plates := fun z => match s.cabinet? z with
      | some c => if s.zoneState z = .ready then c.stock - c.reserved else 0
      | none => 0 }

/-- The plates that reservation entries hold on a cabinet. -/
def heldIn (entries : List (ZoneId × Nat)) (z : ZoneId) : Nat := ((entries.filter fun e => e.1 = z).map (·.2)).sum

/-- R139: the entries that a walk of cabinets leaves, from the plates in them, the need and the entries before: at each one
min(available, need), to the entry for it or to a new one at the tail where there are fewer than 6. -/
def entriesAfter (plates : ZoneId → Nat) : List ZoneId → Nat → List (ZoneId × Nat) → List (ZoneId × Nat)
  | [], _, entries => entries
  | z :: rest, need, entries =>
    let n := min (plates z) need
    let present := entries.any fun e => e.1 = z
    if n = 0 ∨ (present = false ∧ 6 ≤ entries.length) then entriesAfter plates rest need entries
    else
      entriesAfter (fun y => if y = z then plates z - n else plates y) rest (need - n)
        (if present then entries.map fun e => if e.1 = z then (e.1, e.2 + n) else e else entries ++ [(z, n)])

/-- R139: the cabinets of its kind that a course's pass walks, in its list's order or, with an empty list, by number. -/
def walkedBy (s : State) (kind : WareId) (cabinets : List ZoneId) : List ZoneId :=
  (if cabinets = [] then allZones else cabinets).filter fun z => (s.cabinet? z).any fun c => c.kind = some kind

/-- R139 and R140: the pass of a live course, over the cabinets as they stand in `s`. It ends SHORT where there is a need. -/
def Ledger.pass (s : State) (l : Ledger) (c : CourseId) : Ledger :=
  match l.course c with
  | none => l
  | some r =>
    let entries := entriesAfter l.plates (walkedBy s r.kind r.cabinets) r.need r.entries
    let after := { r with entries := entries }
    { course := fun d => if d = c then some { after with short := decide (0 < after.need) } else l.course d
      plates := fun z => l.plates z - (heldIn entries z - heldIn r.entries z) }

/-- R141: a course at an event of a cabinet has its pass run again where it is SHORT and lists the cabinet, which with an empty
list is one of its kind (08 section 8.1). -/
def Ledger.rerun (s : State) (z : ZoneId) (l : Ledger) (c : CourseId) : Ledger :=
  match l.course c with
  | none => l
  | some r =>
    let lists := (r.cabinets = [] ∧ (s.cabinet? z).any fun b => b.kind = some r.kind) ∨ z ∈ r.cabinets
    if r.short = true ∧ lists then l.pass s c else l

/-- R141: the reruns of one event of a cabinet, some courses in their order. -/
def Ledger.reruns (s : State) (order : List CourseId) (l : Ledger) (z : ZoneId) : Ledger := order.foldl (Ledger.rerun s z) l

/-- R142: the entries after a number of plates is drawn from the first ones; one whose count reaches 0 is removed. -/
def entriesDrawn : Nat → List (ZoneId × Nat) → List (ZoneId × Nat)
  | _, [] => []
  | n, e :: rest => if e.2 ≤ n then entriesDrawn (n - e.2) rest else (e.1, e.2 - n) :: rest

/-! ### Ticks (R19, R47, R68, R69, R71, R85, R97, R98, R162, R172, R173, R176, R186, R189) -/

/-- R98: a transition to a level is an event of its line under this polarity. -/
abbrev admitted (p : Polarity) (level : Bool) : Prop :=
  p = .both ∨ (p = .rise ∧ level = true) ∨ (p = .fall ∧ level = false)

/-- Which commands fall due at a tick, in a state whose timers have counted it. -/
def fallsDue (s : State) : Instr → Prop
  | .feedConversion code => code = s.pins.feedSense
  | .sensorConversion code => code = s.pins.sensors.get s.scan.position
  | .rinseEnter => s.pins.enterLine ≠ s.line.enterLevel ∧ admitted s.line.enterPolarity s.pins.enterLine
  | .rinseExit => s.pins.exitLine ≠ s.line.exitLevel ∧ admitted s.line.exitPolarity s.pins.exitLine
  | .rackOut => s.pins.outLine ≠ s.line.outLevel ∧ admitted s.line.outPolarity s.pins.outLine
  | .lineLevelChange .rinseEnter => s.pins.enterLine ≠ s.line.enterLevel ∧ ¬ admitted s.line.enterPolarity s.pins.enterLine
  | .lineLevelChange .rinseExit => s.pins.exitLine ≠ s.line.exitLevel ∧ ¬ admitted s.line.exitPolarity s.pins.exitLine
  | .lineLevelChange .rackOut => s.pins.outLine ≠ s.line.outLevel ∧ ¬ admitted s.line.outPolarity s.pins.outLine
  | .waitTimerExpiry => s.feed.waitTimer = some 0
  | .soakTimerExpiry z => ∃ r ∈ s.zones.get z, r.soakTimer = some 0
  | .recoverTimerLimit z => ∃ r ∈ s.zones.get z, r.slowRaised = false ∧ ∃ n ∈ r.recoverTimer, 100 * r.recoverLimit ≤ n
  | .standbyTimerExpiry z => ∃ r ∈ s.zones.get z, r.standbyTimer = some 0
  | .stepTimerExpiry z => ∃ r ∈ s.zones.get z, ∃ g ∈ r.program,
      g.state = .running ∧ (r.state = .ready ∨ r.state = .recover) ∧ g.timer = 0
  | .receiveGap => s.link.received ≠ [] ∧ 2 ≤ s.link.rxGap
  | .ackTimerExpiry id => ∃ p ∈ s.page? id, p.ackTimer = some 0
  | .responseTimerExpiry => s.link.responseTimer = some 0
  | .probeTimerExpiry => s.link.probeTimer = some 0
  | .supervisionTimerExpiry p => (s.ports.get p).timer = some 0
  | .kitchenClockAdvance => 100 ≤ s.time.clockTicks
  | .sliceAdvance => s.time.slice ≠ 99 ∧ s.time.sliceLength ≤ s.time.sliceTicks
  | .frameBoundary => s.time.slice = 99 ∧ s.time.sliceLength ≤ s.time.sliceTicks
  | _ => False

/-- R161: what the arbiter does at once: the oldest cancel request, else the oldest re-offer, else a new offer is granted, where
the link is UP and holds no message. -/
def arbiterActs (s : State) : Result :=
  if s.link.up = false ∨ s.link.outstanding ≠ .none then .next s
  else if s.desk.cancels ≠ [] then exec .cancel s
  else if s.desk.reoffers ≠ [] then exec .reOffer s
  else if nextOffer s ≠ none then exec .offer s
  else .next s

/-- Commands that a tick takes in turn: each that is still due then, and behind it what the arbiter does at once. -/
def TakenInTurn : List Instr → State → State → Prop
  | [], s, w => w = s
  | i :: rest, s, w => ∃ u, (¬ fallsDue s i → u = s) ∧
      (fallsDue s i → ∃ v, exec i s = .next v ∧ arbiterActs v = .next u) ∧ TakenInTurn rest u w

/-- The codes of the command table (11 section 11.4). -/
def tableCodes : List Nat :=
  [0x00, 0x01, 0x02, 0x03, 0x04] ++ [0x10, 0x11, 0x12, 0x13, 0x14, 0x15, 0x16] ++ [0x20, 0x21, 0x22, 0x23, 0x24, 0x25] ++
    [0x30, 0x31, 0x32, 0x33, 0x34, 0x35, 0x36, 0x37, 0x38] ++ [0x40, 0x41, 0x42, 0x43, 0x44, 0x45] ++
    [0x50, 0x51, 0x52, 0x53, 0x54] ++ [0x60, 0x61, 0x62, 0x63, 0x64, 0x65, 0x66, 0x67] ++ [0x70, 0x71, 0x72, 0x73] ++
    [0x80, 0x81, 0x82, 0x83, 0x84, 0x85, 0x86, 0x87, 0x88]

/-- Every port command, with its transfer and the roles that the command table permits it to (11 section 11.4). -/
def portCommand : Instr → Option (Transfer × List Role)
  | .nop t | .status t | .readNotice t | .superviseSet t _ => some (t, allRoles)
  | .clockSet t _ => some (t, [.banquet, .energy])
  | .loadSet t _ _ => some (t, [.production, .energy])
  | .mapFixed t _ _ | .mapWindow t _ _ _ _ _ | .mapDefault t _ | .mapEnable t _ _ => some (t, [.energy])
  | .loadQuery t _ | .mapQuery t _ | .frameQuery t | .feedQuery t => some (t, allRoles)
  | .frameSet t _ | .feedLimit t _ | .shedLevel t _ | .feedConfig t _ _ _ _ => some (t, [.energy])
  | .sensorQuery t _ | .zoneQuery t _ => some (t, allRoles)
  | .zoneDefine t _ | .zoneSetpoint t _ _ _ _ | .zoneStart t _ | .zoneStop t _ | .zonePause t _ | .zoneResume t _
  | .zoneClear t _ => some (t, [.production, .warewash])
  | .programStep t _ _ _ _ _ _ | .programLoad t _ _ _ | .programRun t _ | .programAdvance t _ | .programAbort t _
  | .programQuery t _ => some (t, [.production, .warewash])
  | .lineConfig t _ | .rackLoad t _ _ _ | .linePurge t => some (t, [.warewash])
  | .lineQuery t | .rackQuery t _ => some (t, allRoles)
  | .wareDefine t _ _ | .wareAdjust t _ _ _ _ | .wareReturn t _ _ => some (t, [.warewash, .banquet])
  | .cabinetSet t _ _ _ _ _ => some (t, [.production, .warewash])
  | .restockConfirm t _ _ => some (t, [.warewash])
  | .wareQuery t _ | .cabinetQuery t _ | .restockQuery t => some (t, allRoles)
  | .courseFire t _ _ _ _ _ | .coursePlated t _ _ | .courseClose t _ => some (t, [.banquet])
  | .courseQuery t _ => some (t, allRoles)
  | .staffSet t _ _ _ _ | .staffDuty t _ _ => some (t, [.banquet, .warewash])
  | .staffQuery t _ | .pageSend t _ _ _ _ _ | .pageDone t _ | .pageQuery t _ | .linkQuery t => some (t, allRoles)
  | .pageLevels t _ _ _ _ _ _ | .pageTiming t _ => some (t, [.banquet])
  | .readTransaction .. | .frameError .. | .unknown .. | .supervisionTimerExpiry .. | .kitchenClockAdvance | .sliceAdvance
  | .frameBoundary | .feedConversion .. | .waitTimerExpiry | .sensorConversion .. | .soakTimerExpiry ..
  | .recoverTimerLimit .. | .standbyTimerExpiry .. | .stepTimerExpiry .. | .rinseEnter | .rinseExit | .rackOut | .offer
  | .reOffer | .cancel | .transmitComplete | .sent .. | .unreachable .. | .ack .. | .alive | .garbledMessage ..
  | .receiveGap | .ackTimerExpiry .. | .responseTimerExpiry | .probeTimerExpiry | .powerOnReset | .pinReset
  | .leaveReset .. | .lineLevelChange .. => none

/-- The port of a transaction: a request or one of the other three (R181). -/
def portOf (i : Instr) : Option PortId :=
  match i with
  | .readTransaction p _ | .frameError p _ | .unknown p _ => some p
  | _ => (portCommand i).map (·.1.port)

/-- Whether a command is one of the three reset events (R192). -/
def isReset : Instr → Bool
  | .powerOnReset | .pinReset | .leaveReset .. => true
  | _ => false

end Sys2Proof.Machine
end

