-- ==== Sys2Proof/WellFormed.lean ====
section
/-! DEFINITION. Which commands can come over the wires: operands that fit their bytes, and transactions long enough for them.

An operand may lie outside its range (the command then refuses it); here only its byte width is asked (R190). -/

namespace Sys2Proof

/-- Each of the numbers fits in one byte. -/
def bytesFit (vs : List Nat) : Bool := vs.all (· < 256)
/-- Each of the numbers fits in two bytes. -/
def wordsFit (vs : List Nat) : Bool := vs.all (· < 65536)

/-- Whether the operands of a command fit the bytes that R190 gives them. -/
def operandsFit : Instr → Bool
  | .nop _ | .status _ | .readNotice _ | .frameQuery _ | .feedQuery _ | .linePurge _ | .lineQuery _ | .restockQuery _
  | .linkQuery _ => true
  | .clockSet _ v => v < 16777216
  | .superviseSet _ v => bytesFit [v]
  | .loadSet _ n r => bytesFit [n] && wordsFit [r]
  | .loadQuery _ n => bytesFit [n]
  | .mapFixed _ e c => bytesFit [e, c]
  | .mapWindow _ w b m c v => bytesFit [w, b, m, c, v]
  | .mapDefault _ c => bytesFit [c]
  | .mapEnable _ m f => bytesFit [m, f]
  | .mapQuery _ n => bytesFit [n]
  | .frameSet _ l => bytesFit [l]
  | .feedLimit _ l => wordsFit [l]
  | .shedLevel _ l => bytesFit [l]
  | .feedConfig _ s r d w => bytesFit [s, r, d, w]
  | .sensorQuery _ c => bytesFit [c]
  | .zoneDefine _ z =>
    bytesFit [z.zone, z.kind, z.channel, z.level, z.group, z.band, z.tolerance] && bytesFit z.loads &&
      decide (z.loads.length ≤ 10) &&
      wordsFit [z.setpoint, z.fallback, z.standby, z.soakTime, z.margin, z.recoverLimit]
  | .zoneSetpoint _ z a b c => bytesFit [z] && wordsFit [a, b, c]
  | .zoneStart _ z | .zoneStop _ z | .zonePause _ z | .zoneResume _ z | .zoneClear _ z | .zoneQuery _ z => bytesFit [z]
  | .programStep _ z n sp so d a => bytesFit [z, n, a] && wordsFit [sp, so, d]
  | .programLoad _ z n h => bytesFit [z, n] && wordsFit [h]
  | .programRun _ z | .programAdvance _ z | .programAbort _ z | .programQuery _ z => bytesFit [z]
  | .lineConfig _ l =>
    bytesFit [l.wash, l.booster, l.enterPolarity, l.exitPolarity, l.outPolarity, l.group] &&
      wordsFit [l.washThreshold, l.rinseThreshold]
  | .rackLoad _ a k c => bytesFit [a, k, c]
  | .rackQuery _ q => bytesFit [q]
  | .wareDefine _ k n => bytesFit [k] && wordsFit [n]
  | .wareAdjust _ k l z a => bytesFit [k, l, z] && decide (-32768 ≤ a ∧ a < 32768)
  | .wareReturn _ k n => bytesFit [k] && wordsFit [n]
  | .wareQuery _ k => bytesFit [k]
  | .cabinetSet _ z k c l h => bytesFit [z, k] && wordsFit [c, l, h]
  | .cabinetQuery _ z => bytesFit [z]
  | .restockConfirm _ z n => bytesFit [z] && wordsFit [n]
  | .courseFire _ r k c g cs => bytesFit [r, k, g] && wordsFit [c] && bytesFit cs && decide (cs.length ≤ 24)
  | .coursePlated _ c n => bytesFit [c] && wordsFit [n]
  | .courseClose _ c | .courseQuery _ c => bytesFit [c]
  | .staffSet _ e a r g => bytesFit [e, r, g] && wordsFit [a]
  | .staffDuty _ e d => bytesFit [e, d]
  | .staffQuery _ e => bytesFit [e]
  | .pageSend _ r g c m o => bytesFit [r, g, c, m, o]
  | .pageDone _ i | .pageQuery _ i => bytesFit [i]
  | .pageLevels _ a b c d e f => bytesFit [a, b, c, d, e, f]
  | .pageTiming _ n => bytesFit [n]
  | .readTransaction .. | .frameError .. | .unknown .. => true
  | .ack _ a x => wordsFit [a] && bytesFit [x]
  | .supervisionTimerExpiry .. | .kitchenClockAdvance | .sliceAdvance | .frameBoundary | .feedConversion ..
  | .waitTimerExpiry | .sensorConversion .. | .soakTimerExpiry .. | .recoverTimerLimit .. | .standbyTimerExpiry ..
  | .stepTimerExpiry .. | .rinseEnter | .rinseExit | .rackOut | .offer | .reOffer | .cancel | .transmitComplete | .sent ..
  | .unreachable .. | .alive | .garbledMessage .. | .receiveGap | .ackTimerExpiry .. | .responseTimerExpiry
  | .probeTimerExpiry | .powerOnReset | .pinReset | .leaveReset .. | .lineLevelChange .. => true

/-- Whether a transaction is as long as what it carries (R181): a request holds its code, its length and its payload, an
UNKNOWN one at least its code and length, and a frame at least one byte. -/
def lengthFits (i : Instr) : Bool :=
  match encodeCommand i with
  | some (_, t, payload) => if t.lengthOk then decide (2 + payload.length ≤ t.clocked) else decide (2 ≤ t.clocked)
  | none =>
    match i with
    | .readTransaction _ n | .frameError _ n => decide (1 ≤ n)
    | .unknown _ n => decide (2 ≤ n)
    | _ => true

/-- A command that the wires can bring. -/
def wellFormed (i : Instr) : Bool := operandsFit i && lengthFits i

end Sys2Proof
end

