-- ==== Sys2Proof/Certificates/Slice0/Obligations.lean ====
section
/-! DEFINITION. The statements for the provers, chapter by chapter of the manual.

A statement about a command says what it answers, what it changes and what it leaves alone. `heard t s` is the state in which a
request is judged, `answered t … w` the state `w` with the reply placed, `refusedWith t why s` the state after a refusal; what
hearing and answering touch is stated by `HearingTouchesOnePort` and `EveryTransactionIsDealtWith`.

R161 makes a grant at once, so no command finds one due: `Quiet s` says that the part runs and none is, and `Judged` and
`Listening` say it too. That a grant which is due all the same comes before any other command is stated by
`ArbiterGrantsInOrder`. -/

open Sys2Proof Sys2Proof.Machine

/-! ### The queue, the resets and what is taken in reset -/

/-- The command at the front of the queue is taken, with the rest of the queue in its place. -/
def Obligations.StepTakesTheFrontCommand : Prop :=
  ∀ (c : Instr) (rest : List Instr) (s : State), step { s with pending := c :: rest } = exec c { s with pending := rest }

/-- Every command answers a next state from every state, and leaves the queue and the input pins alone; and so every step, idle
or not, answers a next state: the manual knows no event that stops the part (00 section 4.4, 95). Held in reset, the part takes
nothing but the reset events, as R192 (11 section 11.9) has it of a port's requests. That its other events leave it as it is
too, and that a reset leaves the queue and the pins alone, is the model's reading (notes/assumptions/8.md). -/
def Obligations.NothingStopsThePart : Prop :=
  ((∀ (i : Instr) (s : State), ∃ t, exec i s = .next t ∧ t.pending = s.pending ∧ t.pins = s.pins) ∧
     ∀ s : State, ∃ t, step s = .next t) ∧
  ∀ (i : Instr) (s : State), s.running = false → isReset i = false → exec i s = .next s

/-- With no command waiting the part acts by itself, in the order that R161 gives the grants: the model's choice of when, from
notes/assumptions/1.md; where there is none to give, it ends the transmission or ticks. Held in reset it waits. At a tick every
running timer counts once and the link's first PROBE is sent where it is still to come (R170); the first tick after reset takes
the levels of the event lines and makes no event of them (R97). What is due then is taken, each command once: two conversions,
the transitions of the event lines, events or not by their polarities (R98), and every timer that has run out; the order in
which they stand is the model's (notes/assumptions/2.md). Behind each the arbiter acts at once. -/
def Obligations.IdlePartGrantsThenTicks : Prop :=
  (∀ s : State, s.pending = [] →
    (s.running = false → step s = .next s) ∧
    (s.running = true →
      let free := s.link.up = true ∧ s.link.outstanding = .none
      (free → s.desk.cancels ≠ [] → step s = exec .cancel s) ∧
      (free → s.desk.cancels = [] → s.desk.reoffers ≠ [] → step s = exec .reOffer s) ∧
      (free → s.desk.cancels = [] → s.desk.reoffers = [] → nextOffer s ≠ none → step s = exec .offer s) ∧
      (¬ free ∨ (s.desk.cancels = [] ∧ s.desk.reoffers = [] ∧ nextOffer s = none) →
        step s = if s.link.transmitting = [] then tick s else exec .transmitComplete s))) ∧
  ∀ s : State, s.running = true → let u := countTick s
    let down (t : Option Nat) : Option Nat := t.map (· - 1)
    let l := s.link
    let counted := { l with
      responseTimer := down l.responseTimer, probeTimer := down l.probeTimer
      rxGap := if l.received = [] then l.rxGap else l.rxGap + 1, probeDue := false }
    u = { s with
      time := { s.time with clockTicks := s.time.clockTicks + 1, sliceTicks := s.time.sliceTicks + 1 }
      feed := { s.feed with waitTimer := down s.feed.waitTimer }
      zones := s.zones.map (Option.map fun r => { r with
        soakTimer := down r.soakTimer, standbyTimer := down r.standbyTimer
        recoverTimer := if r.slowRaised then r.recoverTimer else r.recoverTimer.map (· + 1)
        program := r.program.map fun g =>
          if g.state = .running ∧ (r.state = .ready ∨ r.state = .recover) then { g with timer := g.timer - 1 } else g })
      line := if s.line.sampled then s.line else { s.line with
        sampled := true, enterLevel := s.pins.enterLine, exitLevel := s.pins.exitLine, outLevel := s.pins.outLine }
      desk := { s.desk with pages := s.desk.pages.map fun p => { p with ackTimer := down p.ackTimer } }
      link := if l.probeDue = true ∧ l.up = false then
          { counted with outstanding := .probe, transmitting := probeFrame, responseTimer := none, probeTimer := some 1000 }
        else counted
      ports := s.ports.map fun p => { p with timer := down p.timer } } ∧
    ∃ due w, (∀ i, i ∈ due ↔ fallsDue u i) ∧ (pageLaw s → due.Nodup) ∧ tick s = .next w ∧ TakenInTurn due u w

/-- 11 section 11.9: a reset puts every block in its reset state and holds the part there; the release records which reset it
was and takes each port's role from its straps, every block still in its reset state: the link's first PROBE waits for the first
tick (R170). That a reset leaves the queue and the pins alone, and that out of reset a release does nothing, is the model's
reading (notes/assumptions/8.md). -/
def Obligations.ResetsAndTheRelease : Prop :=
  ∀ (s : State) (straps : Table 4 (Fin 4)) (selected : Table 4 Bool),
    exec .powerOnReset s = .next (s.resetBlocks { phase := .held true, cause := s.chip.cause }
        (Table.build 4 fun p => Port.reset (s.ports.get p).role false)) ∧
    exec .pinReset s = .next (s.resetBlocks
        { phase := .held (decide (s.chip.phase = .held true)), cause := s.chip.cause }
        (Table.build 4 fun p => Port.reset (s.ports.get p).role false)) ∧
    (∀ powerOn, s.chip.phase = .held powerOn → exec (.leaveReset straps selected) s = .next (
      s.resetBlocks { phase := .running, cause := if powerOn then .powerOn else .pin }
        (Table.build 4 fun p => Port.reset (Role.ofStraps (straps.get p)) (selected.get p)))) ∧
    (s.running = true → exec (.leaveReset straps selected) s = .next s)

/-- The values that the reset rules of the chapters give, held by every state that a reset leaves: R2, R8, R19, R42, R55, R59,
R97, R118, R137, R151, R155, R170 and R191 give them. -/
def Obligations.ResetStateHoldsTheManualsValues : Prop :=
  ∀ (s : State) (chip : Chip) (ports : Table 4 Port), let t := s.resetBlocks chip ports
    (t.time.clock = 0 ∧ t.time.slice = 0 ∧ t.time.frame = 0 ∧ t.time.sliceLength = 4 ∧ t.time.slicePending = 4) ∧
    (∀ n, t.loads.get n = {
        rating := 0, binding := none, effective := .lockout, resolved := .lockout, deciding := .mapOff, requested := 0,
        granted := 0, onSlices := [], deficit := 0, cut := false, placed := 0 } ∧ loadLine t n = false ∧
      resolveClass t.map n = (.lockout, .mapOff)) ∧
    (t.map.enabled = false ∧ t.map.fixedEnabled = false ∧ (∀ e, t.map.fixed.get e = .lockout) ∧
      (∀ v, t.map.windows.get v = { valid := false, base := 0, mask := 0, cls := .lockout }) ∧ t.map.default = .lockout) ∧
    ((∀ i, t.alloc.sums.get i = 0) ∧ t.alloc.order = [] ∧ t.alloc.limit = 0 ∧ t.alloc.limitSetting = 0 ∧ t.alloc.shed = 0 ∧
      t.alloc.shedSetting = 0 ∧ t.alloc.peak = 0) ∧
    (t.feed.state = .sag ∧ t.feed.code = 0 ∧ t.feed.reading = 0 ∧ t.feed.sagThreshold = 85 ∧ t.feed.restoreThreshold = 90 ∧
      t.feed.debounce = 3 ∧ t.feed.restoreWait = 10 ∧ t.feed.sagCount = 0 ∧ t.feed.restoreCount = 0 ∧
      t.feed.waitTimer = none ∧ t.feed.waitLength = 10 ∧ t.feed.restoreDue = false) ∧
    t.scan.position = 0 ∧ (∀ c, t.scan.channels.get c = { code := 0, reading := 0, rail := 0 }) ∧
    (∀ z, t.zones.get z = none) ∧
    (t.line.configured = false ∧ t.line.wash = none ∧ t.line.booster = none ∧ t.line.washThreshold = 600 ∧
      t.line.rinseThreshold = 820 ∧ t.line.enterPolarity = .none ∧ t.line.exitPolarity = .none ∧
      t.line.outPolarity = .none ∧ t.line.group = .any ∧ t.line.racks = [] ∧ t.line.faults = 0 ∧ t.line.permit = false) ∧
    (∀ k, t.wares.get k = { defined := false, total := 0, soiled := 0, clean := 0, out := 0 }) ∧ t.restock = [] ∧
    (∀ c, t.course? c = none) ∧ t.courses.order = [] ∧
    (∀ e, (t.staff e).address = 0 ∧ (t.staff e).role = .porter ∧ (t.staff e).group = 0 ∧ (t.staff e).duty = .offDuty ∧
      (t.staff e).current = none ∧ (t.staff e).suspended = none) ∧ (∀ r, t.freeList r = []) ∧
    (t.desk.pages = [] ∧ t.desk.nextId = 0 ∧ t.desk.levels.items = [3, 2, 2, 1, 1, 1] ∧ t.desk.ackSetting = 5 ∧
      t.desk.reoffers = [] ∧ t.desk.cancels = []) ∧
    (t.link.up = false ∧ t.link.outstanding = .none ∧ t.link.transmitting = [] ∧ t.link.responseTimer = none ∧
      t.link.probeTimer = none ∧ t.link.timeouts = 0 ∧ t.link.stale = 0 ∧ t.link.late = 0 ∧ t.link.garbled = 0 ∧
      t.link.received = []) ∧
    ∀ (role : Role) (b : Bool), let p := Port.reset role b
      p.slot = none ∧ p.notices = [] ∧ p.overflow = false ∧ p.interval = 0 ∧ p.timer = none ∧ p.silent = false

/-- The laws of the device hold right after reset, part by part. -/
def Obligations.ResetStateIsLawful : Prop := lawful State.reset

/-! ### Transactions of the ports (11) -/

/-- 11 sections 11.3 and 11.6: a transaction of an ACTIVE port changes nothing but that port's slot and timer; one of a SILENT
port brings it back to ACTIVE, with the clearing event of PORT_SILENT sent and PORT_STATE posted. In both the timer of a port
with an interval restarts, and a reply whose three header bytes were clocked out is gone from the slot. -/
def Obligations.HearingTouchesOnePort : Prop :=
  ∀ (p : PortId) (clocked : Nat) (s : State), let r := s.ports.get p
    let slot := if 3 ≤ clocked then none else r.slot
    (r.silent = false → openTransaction p clocked s =
      s.setPort p { r with
        slot := slot, timer := if r.interval = 0 then r.timer else some (100 * r.interval) }) ∧
    (r.silent = true → ∃ w, PagingOnly (s.setPort p { r with silent := false }) w ∧
      w = post .portState p.val 1 (clearEvent .portSilent p.val (s.setPort p { r with silent := false })) ∧
      openTransaction p clocked s = w.setPort p { w.ports.get p with
        slot := slot, timer := if r.interval = 0 then none else some (100 * r.interval) })

/-- 11 section 11.3: a transaction of fill bytes alone places no reply; a short or long frame is answered FRAME_ERROR and an
unknown code UNKNOWN, whatever the port's role; a chip select that was low when the part left reset is ignored until it has
risen (11 section 11.9). A request is judged by its sender's role first and its payload length second; every request is
answered, and a reply other than OK and CLAMPED leaves every block as it was, with no data. -/
def Obligations.EveryTransactionIsDealtWith : Prop :=
  (∀ (p : PortId) (clocked : Nat) (s : State), Quiet s →
     ((s.ports.get p).csIgnored = false → let h := openTransaction p clocked s
       let place (why : Status) : State := h.setPort p { h.ports.get p with
         slot := some { status := why, overrun := (h.ports.get p).slot.isSome, noticeOverflow := false, data := [] } }
       exec (.readTransaction p clocked) s = .next h ∧ exec (.frameError p clocked) s = .next (place .frameError) ∧
         exec (.unknown p clocked) s = .next (place .unknown)) ∧
     ∀ i : Instr, portOf i = some p → (s.ports.get p).csIgnored = true →
       exec i s = .next (s.setPort p { s.ports.get p with csIgnored := false })) ∧
  ∀ (i : Instr) (t : Transfer) (roles : List Role) (s : State), portCommand i = some (t, roles) → Quiet s →
    (s.ports.get t.port).csIgnored = false →
    (¬ Permitted t roles s → exec i s = .next (refusedWith t .denied s)) ∧
    (Permitted t roles s → t.lengthOk = false → exec i s = .next (refusedWith t .range s)) ∧
    ∃ a : Answer, exec i s = .next (placeAnswer t.port a) ∧
      (a.status ≠ .ok → a.status ≠ .clamped → a.state = heard t s ∧ a.data = [] ∧ a.noticeOverflow = false)

/-- R188: NOP is taken with reply OK and changes nothing, and STATUS the same with the port's data; both count as frames. The
code of a port state in those data is the model's choice, the one its notice carries (notes/assumptions/17.md). -/
def Obligations.NopAndStatusChangeNothing : Prop :=
  ∀ (t : Transfer) (s : State), Listening t s → let h := heard t s
    let p := h.ports.get t.port
    exec (.nop t) s = .next (answered t .ok [] h) ∧
    exec (.status t) s = .next (answered t .ok
      (bigEndian 1 t.port.val ++ bigEndian 1 p.role.code ++ bigEndian 1 (if p.silent then 0 else 1) ++
        bigEndian 1 p.interval ++ bigEndian 2 (p.timer.getD 0) ++ bigEndian 1 p.notices.length ++
        bigEndian 1 (if p.overflow then 1 else 0) ++ bigEndian 1 s.chip.cause.code ++ bigEndian 3 s.time.clock ++
        bigEndian 2 s.time.frame) h)

/-- 11 sections 11.5 and 11.6: READ_NOTICE takes the oldest notice of its port's queue out, with the number that remain, and
clears the overflow mark, which the reply reports; an empty queue refuses it with EMPTY. SUPERVISE_SET gives its own port an
interval and starts its timer at that many seconds of 100 ticks, or stops it with 0. -/
def Obligations.PortsReadNoticesAndSetTimers : Prop :=
  (∀ (t : Transfer) (s : State), Listening t s → let h := heard t s
     let p := h.ports.get t.port
     (p.notices = [] → exec (.readNotice t) s = .next (refusedWith t .empty s)) ∧
     ∀ n rest, p.notices = n :: rest →
       exec (.readNotice t) s = .next (h.setPort t.port { p with
         notices := rest
         overflow := false
         slot := some {
           status := .ok
           overrun := p.slot.isSome
           noticeOverflow := p.overflow
           data := bigEndian 1 n.kind.code ++ bigEndian 1 n.object ++ bigEndian 2 n.value ++ bigEndian 3 n.time ++
             bigEndian 1 rest.length } })) ∧
  ∀ (t : Transfer) (v : Nat) (s : State), Listening t s → v ≤ 255 → let h := heard t s
    exec (.superviseSet t v) s = .next (answered t .ok []
      (h.setPort t.port { h.ports.get t.port with
        interval := v, timer := if v = 0 then none else some (100 * v) }))

/-- R189: CLOCK_SET sets the kitchen clock and starts the count toward the next second again, and a second adds 1, from 86,399
to 0; neither touches anything else. That the command of a second advances the clock whatever the count of ticks toward it, and
starts that count again, is the model's choice (notes/assumptions/5.md). -/
def Obligations.KitchenClockIsSetAndAdvances : Prop :=
  (∀ (t : Transfer) (v : Nat) (s : State), Listening t s →
    exec (.clockSet t v) s = .next (
      if ¬ Permitted t [.banquet, .energy] s then refusedWith t .denied s
      else if 86399 < v then refusedWith t .range s
      else answered t .ok [] { heard t s with time := { s.time with clock := v, clockTicks := 0 } })) ∧
  ∀ s : State, Quiet s → s.time.clock ≤ 86399 →
    exec .kitchenClockAdvance s =
      .next { s with time := { s.time with clock := (s.time.clock + 1) % 86400, clockTicks := 0 } }

/-- 11 section 11.6 and 04 section 4.4: a port whose running supervision timer expires becomes SILENT, with its timer stopped;
each of its zones that heats enters PAUSED at its fallback setpoint and every other zone is left; no part of the frame, the
wares or the courses changes. A timer that does not run cannot expire (notes/assumptions/3.md). -/
def Obligations.SupervisionExpiryPausesOwnedZones : Prop :=
  ∀ (p : PortId) (s : State), Quiet s →
    ((s.ports.get p).timer = none → exec (.supervisionTimerExpiry p) s = .next s) ∧
    ((s.ports.get p).timer ≠ none → ∃ w, exec (.supervisionTimerExpiry p) s = .next w ∧
      StockOnly (s.setPort p { s.ports.get p with silent := true, timer := none }) w ∧
      PagedOrFull 4 p.val w ∧ Noticed .portState p.val 0 s w ∧
      ∀ z : ZoneId, w.zones.get z = (s.zones.get z).map fun r =>
        if r.owner = p ∧ r.state.heating = true then r.enter .paused else r)

/-! ### Load points and the class map (01) -/

/-- 01 section 1.2: LOAD_SET stores a rating and cuts the load point out of what remains of the frame, by the rating it was
placed with; a load point with nothing remaining is not cut; no other load point, grant or deficit changes. -/
def Obligations.LoadSetStoresAndCuts : Prop :=
  ∀ (t : Transfer) (load rating : Nat) (s : State), Listening t s →
    (¬ Permitted t [.production, .energy] s → exec (.loadSet t load rating) s = .next (refusedWith t .denied s)) ∧
    (Permitted t [.production, .energy] s → 47 < load ∨ 400 < rating →
      exec (.loadSet t load rating) s = .next (refusedWith t .range s)) ∧
    ∀ n : LoadId, Permitted t [.production, .energy] s → load = n.val → rating ≤ 400 →
      let l := s.loads.get n
      let rest := remaining s.time.slice l
      exec (.loadSet t load rating) s = .next (answered t .ok []
        (if rest = [] then { heard t s with loads := s.loads.set n { l with rating := rating } }
        else { heard t s with
          loads := s.loads.set n ({ l with rating := rating }.cutFrom s.time.slice)
          alloc := { s.alloc with sums := Table.build 100 fun i =>
            if i.val ∈ rest then s.alloc.sums.get i - l.placed else s.alloc.sums.get i } }))

/-- R9 and R11: what decides a load point's class. Map off gives LOCKOUT; then the fixed entry, where the fixed enable is on
and there is one; then the most restrictive of the valid windows that match, the lowest-numbered of those that carry it
deciding; and the default only where none matches. -/
def Obligations.ClassMapResolvesByItsOrder : Prop :=
  ∀ (m : ClassMap) (n : LoadId),
    let matching (w : Fin 6) : Prop := (m.windows.get w).valid = true ∧
      BitVec.ofNat 6 n.val &&& (m.windows.get w).mask = (m.windows.get w).base &&& (m.windows.get w).mask
    (m.enabled = false → resolveClass m n = (.lockout, .mapOff)) ∧
    (m.enabled = true → m.fixedEnabled = true → ∀ e : Fin 16, e.val = n.val → resolveClass m n = (m.fixed.get e, .fixed e)) ∧
    (m.enabled = true → m.fixedEnabled = false ∨ 15 < n.val →
      ((∀ w, ¬ matching w) → resolveClass m n = (m.default, .default)) ∧
      ∀ w, matching w → ∃ d, matching d ∧ resolveClass m n = ((m.windows.get d).cls, .window d) ∧
        (m.windows.get w).cls.code ≤ (m.windows.get d).cls.code ∧ ((m.windows.get w).cls = (m.windows.get d).cls → d ≤ w))

/-- 01 sections 1.5 and 1.6: each map command that is taken stores its items, and then every load point is resolved anew;
numbers and classes outside their ranges are refused with RANGE, and no setting byte refuses a command: 0 is clear or off, 1 set
or on, and which of the two another byte gives is free (notes/assumptions/14.md). Every load point then has the class and
deciding entry of the new map; a change to LOCKOUT is in force at once and cuts what remains of the frame; every other change
waits, the effective class being left. -/
def Obligations.MapCommandsResolveEveryLoadPoint : Prop :=
  (∀ (t : Transfer) (s : State), Judged t [.energy] s → let h := heard t s
     let gives (byte : Nat) (setting : Bool) : Prop := (byte = 0 → setting = false) ∧ (byte = 1 → setting = true)
     (∀ (e : Fin 16) (c : LoadClass), exec (.mapFixed t e.val c.code) s =
       .next (answered t .ok [] (changeMap { s.map with fixed := s.map.fixed.set e c } h))) ∧
     (∀ (w : Fin 6) (base mask : Nat) (c : LoadClass) (v : Nat), ∃ flag, gives v flag ∧
       exec (.mapWindow t w.val base mask c.code v) s =
         .next (answered t (okOr (decide (63 < base ∨ 63 < mask))) []
           (changeMap { s.map with windows := s.map.windows.set w {
               valid := flag, base := BitVec.ofNat 6 base, mask := BitVec.ofNat 6 mask, cls := c } } h))) ∧
     (∀ c : LoadClass, exec (.mapDefault t c.code) s = .next (answered t .ok [] (changeMap { s.map with default := c } h))) ∧
     (∀ a b : Nat, ∃ map fixed, gives a map ∧ gives b fixed ∧ exec (.mapEnable t a b) s =
       .next (answered t .ok [] (changeMap { s.map with enabled := map, fixedEnabled := fixed } h))) ∧
     ∀ n c v w x : Nat,
       (15 < n ∨ 3 < c → exec (.mapFixed t n c) s = .next (refusedWith t .range s)) ∧
       (5 < n ∨ 3 < c → exec (.mapWindow t n w x c v) s = .next (refusedWith t .range s)) ∧
       (3 < c → exec (.mapDefault t c) s = .next (refusedWith t .range s))) ∧
  ∀ (m : ClassMap) (s : State), let w := changeMap m s
    let locks (n : LoadId) : Prop := (resolveClass m n).1 = .lockout ∧ (s.loads.get n).effective ≠ .lockout
    ∃ u, FrameCut locks s u ∧
      w = { s with map := m, loads := w.loads, alloc := { s.alloc with sums := u.alloc.sums } } ∧
      ∀ n, w.loads.get n = { u.loads.get n with
        resolved := (resolveClass m n).1
        deciding := (resolveClass m n).2
        effective := if (resolveClass m n).1 = .lockout then .lockout else (s.loads.get n).effective }

/-! ### The allocation frame (02) -/

/-- R20 and R52: FRAME_SET stores the slice length for the next boundary; FEED_CONFIG stores its four settings together and
starts both counts again, in every feed state. Neither changes anything else. -/
def Obligations.FrameSetAndFeedConfigStore : Prop :=
  ∀ (t : Transfer) (s : State), Listening t s →
    (∀ len, exec (.frameSet t len) s = .next (
      if ¬ Permitted t [.energy] s then refusedWith t .denied s
      else if len = 0 ∨ 10 < len then refusedWith t .range s
      else answered t .ok [] { heard t s with time := { s.time with slicePending := len } })) ∧
    ∀ sag restore debounce wait, exec (.feedConfig t sag restore debounce wait) s = .next (
      if ¬ Permitted t [.energy] s then refusedWith t .denied s
      else if (60 ≤ sag ∧ sag ≤ 95) ∧ (sag + 2 < restore ∧ restore ≤ 98) ∧ (1 ≤ debounce ∧ debounce ≤ 20) ∧
          (1 ≤ wait ∧ wait ≤ 120) then
        answered t .ok [] { heard t s with feed := { s.feed with
          sagThreshold := sag, restoreThreshold := restore, debounce := debounce, restoreWait := wait, sagCount := 0,
          restoreCount := 0 } }
      else refusedWith t .range s)

/-- 02 sections 2.8 and 2.9: FEED_LIMIT stores its setting; a value at or above the limit in force does no more, and a lower
one is in force at once, with the cuts of R34's walk over the grant order from the last to the first: each load point on in a
remaining slice still above the limit when its turn comes is cut, and no other. No remaining slice is above it then (for a frame
whose sums are what its load points carry, `powerLaw`). SHED_LEVEL stores its setting; a level at or below the one in force does
no more, and a higher one is in force at once and cuts exactly the load points that it excludes and the old one did not:
DEFERRABLE from level 1 on, STAGED of zone level 0 or 1 from level 2 on, STAGED of the others at 3. Grants and deficits stay. -/
def Obligations.LimitAndShedLevelActAtOnce : Prop :=
  (∀ (t : Transfer) (v : Nat) (s : State), Judged t [.energy] s → let h := heard t s
     (9999 < v → exec (.feedLimit t v) s = .next (refusedWith t .range s)) ∧
     (v ≤ 9999 → s.alloc.limit ≤ v → exec (.feedLimit t v) s =
       .next (answered t .ok [] { h with alloc := { s.alloc with limitSetting := v } })) ∧
     (v ≤ 9999 → v < s.alloc.limit → ∃ w, exec (.feedLimit t v) s = .next (answered t .ok [] w) ∧ PlacementOnly h w ∧
       w.alloc = { s.alloc with limitSetting := v, limit := v, sums := w.alloc.sums } ∧
       LimitWalk s.alloc.order.reverse { h with alloc := { s.alloc with limitSetting := v, limit := v } } w ∧
       (powerLaw s → ∀ i : Fin 100, s.time.slice ≤ i.val → w.alloc.sums.get i ≤ v ∧ slicePower w i.val = w.alloc.sums.get i))) ∧
  ∀ (t : Transfer) (v : Nat) (s : State), Judged t [.energy] s → let h := heard t s
    let firstLevel (n : LoadId) : Nat := match (s.loads.get n).effective with
      | .deferrable => 1
      | .staged => if boundLevel s n ≤ 1 then 2 else 3
      | .essential | .lockout => 4
    (3 < v → exec (.shedLevel t v) s = .next (refusedWith t .range s)) ∧
    (v ≤ 3 → v ≤ s.alloc.shed → exec (.shedLevel t v) s =
      .next (answered t .ok [] { h with alloc := { s.alloc with shedSetting := v } })) ∧
    (v ≤ 3 → s.alloc.shed < v → ∃ w, exec (.shedLevel t v) s = .next (answered t .ok [] w) ∧ PlacementOnly h w ∧
      w.alloc = { s.alloc with shedSetting := v, shed := v, sums := w.alloc.sums } ∧
      FrameCut (fun n => s.alloc.shed < firstLevel n ∧ firstLevel n ≤ v) s w)

/-- 02 sections 2.1 to 2.6 and 03 section 3.4: a slice that is not the last gives way to the next, and the last one ends in
the boundary (at slice 99 the two commands are one: notes/assumptions/4.md). At the boundary the counters and the lengths move
on; the feed state makes its staged move, entry into NORMAL sending the clearing event of FEED_SAG; every zone computes its duty
request (R65) and every load point takes its inputs. The grant order holds the eligible load points (R23 to R25) by class, zone
level, deficit and number (R26); they are placed in it one after another (R27, R28), no slice above the limit; the rest get
nothing; the peak is the largest sum; deficits follow (R29); and each ESSENTIAL load point that is short posts CLIPPED, in
ascending number, behind what the move of the feed state posts (R30; that order is notes/assumptions/20.md). -/
def Obligations.SlicesEndInTheFrameBoundary : Prop :=
  (∀ s : State, Quiet s →
     (s.time.slice < 99 → exec .sliceAdvance s =
       .next { s with time := { s.time with slice := s.time.slice + 1, sliceTicks := 0 } }) ∧
     (99 ≤ s.time.slice → exec .sliceAdvance s = exec .frameBoundary s)) ∧
  ∀ s : State, Quiet s → ∃ w, exec .frameBoundary s = .next w ∧
    w.time = { s.time with
      slice := 0, frame := (s.time.frame + 1) % 65536, sliceTicks := 0, sliceLength := s.time.slicePending } ∧
    w.feed = { s.feed with
      state := match s.feed.state with
        | .restoreWait => if s.feed.restoreDue then .stage1 else .restoreWait
        | .stage1 => .stage2
        | .stage2 | .normal => .normal
        | .sag => .sag
      restoreDue := if s.feed.state = .restoreWait then false else s.feed.restoreDue } ∧
    (w.feed.state ≠ s.feed.state → Noticed .feedState w.feed.state.code s.feed.reading s w) ∧
    (let u := if s.feed.state = .stage2 then clearEvent .feedSag 0 s else s
     w.desk = u.desk ∧ w.roster = u.roster) ∧
    (w.alloc.limit = s.alloc.limitSetting ∧ w.alloc.limitSetting = s.alloc.limitSetting ∧
      w.alloc.shed = s.alloc.shedSetting ∧ w.alloc.shedSetting = s.alloc.shedSetting) ∧
    (w.zones = s.zones.map (Option.map fun r =>
      let x := (s.scan.channels.get r.channel).reading
      { r with duty :=
          if r.state = .off ∨ r.state = .fault ∨ r.active ≤ x then 0
          else if r.band ≤ r.active - x then 100
          else (100 * (r.active - x) + (r.band - 1)) / r.band })) ∧
    (let zone (n : LoadId) : Option Zone := (s.loads.get n).binding.bind w.zones.get
     let level (n : LoadId) : Nat := match zone n with | some r => r.level | none => 0
     let cls (n : LoadId) : LoadClass := (s.loads.get n).resolved
     let request (n : LoadId) : Nat := match zone n with | some r => r.duty | none => 0
     let wanting (n : LoadId) : Prop := 1 ≤ (s.loads.get n).rating ∧ (∃ r, zone n = some r ∧ r.state ≠ .off ∧ r.state ≠ .fault) ∧
       cls n ≠ .lockout ∧ 1 ≤ request n
     let shedOut (n : LoadId) : Prop := (cls n = .deferrable ∧ 1 ≤ w.alloc.shed) ∨
       (cls n = .staged ∧ (3 ≤ w.alloc.shed ∨ (w.alloc.shed = 2 ∧ level n ≤ 1)))
     let feedOut (n : LoadId) : Prop := match w.feed.state with
       | .sag | .restoreWait => True
       | .stage1 => cls n ≠ .essential
       | .stage2 => cls n = .deferrable
       | .normal => False
     let eligible (n : LoadId) : Prop := wanting n ∧ ¬ shedOut n ∧ ¬ feedOut n
     let before (a b : LoadId) : Prop := let d (n : LoadId) : Nat := (s.loads.get n).deficit
       (cls a).code < (cls b).code ∨ ((cls a).code = (cls b).code ∧ (level b < level a ∨ (level a = level b ∧
         (d b < d a ∨ (d a = d b ∧ a < b)))))
     (∀ n, n ∈ w.alloc.order ↔ eligible n) ∧ w.alloc.order.Pairwise before ∧
     (∀ n, let l := s.loads.get n
       let k := w.loads.get n
       k = { l with
         effective := l.resolved, placed := l.rating, cut := false, requested := request n
         granted := k.granted, onSlices := k.onSlices, deficit := k.deficit } ∧
       (eligible n → k.deficit = if k.granted < k.requested then min 15 (l.deficit + 1) else 0) ∧
       (wanting n → ¬ eligible n → k.deficit = l.deficit) ∧ (¬ wanting n → k.deficit = 0) ∧
       (¬ eligible n → k.granted = 0 ∧ k.onSlices = []) ∧
       (eligible n → k.granted < k.requested → ∀ i : Fin 100, i.val ∉ k.onSlices →
         w.alloc.limit < w.alloc.sums.get i + k.placed))) ∧
    PlacedInTurn w w.alloc.order (fun _ => 0) 0 ∧
    (∀ i : Fin 100, slicePower w i.val = w.alloc.sums.get i ∧ (w.alloc.sums.get i = 0 ∨ w.alloc.sums.get i ≤ w.alloc.limit)) ∧
    ((∀ i, w.alloc.sums.get i ≤ w.alloc.peak) ∧ ∃ i, w.alloc.sums.get i = w.alloc.peak) ∧
    (∀ n : LoadId, let k := w.loads.get n
      k.granted ≤ k.requested ∧ k.onSlices.length = k.granted ∧ k.onSlices.Nodup ∧ (∀ i ∈ k.onSlices, i < 100)) ∧
    (∃ ports, (w.feed.state = s.feed.state → ports = s.ports) ∧
      let short := allLoads.filter fun n => decide (n ∈ w.alloc.order) && (w.loads.get n).effective == .essential &&
        decide ((w.loads.get n).granted < (w.loads.get n).requested)
      w.ports = (short.foldl (fun u n => post .clipped n.val ((w.loads.get n).requested - (w.loads.get n).granted) u)
        { s with ports := ports }).ports) ∧
    w = { s with
      time := w.time, feed := w.feed, alloc := w.alloc, zones := w.zones, loads := w.loads
      line := { s.line with permit := w.line.permit }, desk := w.desk, roster := w.roster, ports := w.ports } ∧
    ∀ p, SamePort (s.ports.get p) (w.ports.get p)

/-! ### Feed supervision (03) -/

/-- 03 sections 3.2 to 3.4: one conversion of the feed channel. In SAG a reading at or above the restore threshold counts, and
the debounce count of them enters RESTORE_WAIT with its timer started; in the other states a reading below the sag threshold
counts, and the debounce count of them enters SAG, which discards the frame: no load point keeps an on-slice to come, every
sum to come is 0, and grants and deficits stay. The restore wait timer's expiry sets restore due and changes nothing else; a
timer that does not run cannot expire (notes/assumptions/3.md). -/
def Obligations.FeedConversionDebouncesAndWaits : Prop :=
  (∀ (code : BitVec 12) (s : State), Quiet s →
     let reading := code.toNat * 150 / 4095
     let f := { s.feed with code := code, reading := reading }
     let up := s.feed.state = .sag
     (up → reading < f.restoreThreshold → exec (.feedConversion code) s = .next { s with feed := { f with restoreCount := 0 } }) ∧
     (up → f.restoreThreshold ≤ reading → f.restoreCount + 1 < f.debounce →
       exec (.feedConversion code) s = .next { s with feed := { f with restoreCount := f.restoreCount + 1 } }) ∧
     (up → f.restoreThreshold ≤ reading → f.debounce ≤ f.restoreCount + 1 → ∃ w, exec (.feedConversion code) s = .next w ∧
       StockOnly { s with feed := { f with
         state := .restoreWait, restoreCount := 0, waitTimer := some (100 * f.restoreWait), waitLength := f.restoreWait } } w ∧
       w.zones = s.zones ∧ w.restock = s.restock ∧ w.desk = s.desk ∧ w.roster = s.roster ∧
       Noticed .feedState 1 reading s w) ∧
     (¬ up → f.sagThreshold ≤ reading → exec (.feedConversion code) s = .next { s with feed := { f with sagCount := 0 } }) ∧
     (¬ up → reading < f.sagThreshold → f.sagCount + 1 < f.debounce →
       exec (.feedConversion code) s = .next { s with feed := { f with sagCount := f.sagCount + 1 } }) ∧
     (¬ up → reading < f.sagThreshold → f.debounce ≤ f.sagCount + 1 → ∃ w, exec (.feedConversion code) s = .next w ∧
       (∃ u, FrameCut (fun _ => True) s u ∧ w.loads = u.loads) ∧
       (∀ i : Fin 100, w.alloc.sums.get i = if s.time.slice ≤ i.val then 0 else s.alloc.sums.get i) ∧
       w.alloc = { s.alloc with sums := w.alloc.sums } ∧
       StockOnly { s with
         loads := w.loads, alloc := w.alloc
         feed := { f with state := .sag, sagCount := 0, restoreCount := 0, waitTimer := none, restoreDue := false } } w ∧
       w.zones = s.zones ∧ w.restock = s.restock ∧ w.line.permit = false ∧
       PagedOrFull 1 0 w ∧ Noticed .feedState 0 reading s w)) ∧
  ∀ s : State, Quiet s → exec .waitTimerExpiry s = .next (
    if s.feed.waitTimer = none then s else { s with feed := { s.feed with waitTimer := none, restoreDue := true } })

/-! ### Zones (04) -/

/-- 04 sections 4.3 to 4.5: what an entry into each state does to a zone's record. Every timer of the state left stops; the
active setpoint is the state's, FAULT keeping it; a lowering disarms the over test and zeroes the over count; SOAK starts its
timer at 100 ticks a second and RECOVER at 0; OFF and FAULT clear the counts they clear. That FAULT leaves the over test armed
as it is, is the model's reading (notes/assumptions/28.md), and that every entry clears the mark of ZONE_SLOW its choice
(notes/assumptions/34.md). -/
def Obligations.EntrySetsTheZoneRecord : Prop :=
  ∀ (r : Zone) (st : ZoneState),
    let active := match st with
      | .standby => r.standby.getD r.setpoint
      | .paused => r.fallback
      | .fault => r.active
      | .off | .preheat | .soak | .ready | .recover => r.setpoint
    let lowered := decide (active < r.active)
    r.enter st = { r with
      state := st, active := active, slowRaised := false, standbyTimer := none
      soakTimer := if st = .soak then some (100 * r.soakTime) else none
      recoverTimer := if st = .recover then some 0 else none
      overArmed := if st = .off then false else if lowered then false else r.overArmed
      overCount := if st = .off ∨ st = .fault then 0 else if lowered then 0 else r.overCount
      faultCause := if st = .off then .none else r.faultCause
      cleanCount := if st = .off ∨ st = .fault then 0 else r.cleanCount }

/-- 04 section 4.2: the refusals that the commands of a zone share: RANGE for a number above 31, NOT_FOUND for an undefined
zone, DENIED for a role without the right to its kind; and then STATE, for the program commands, of a zone that is no OVEN. -/
def Obligations.ZoneCommandsShareTheirRefusals : Prop :=
  ∀ (t : Transfer) (n a b c d e : Nat) (s : State), Judged t [.production, .warewash] s →
    let program : List Instr := [.programStep t n a b c d e, .programLoad t n a b,
      .programRun t n, .programAdvance t n, .programAbort t n]
    let zone : List Instr := [.zoneSetpoint t n a b c, .zoneStart t n, .zoneStop t n, .zonePause t n, .zoneResume t n,
      .zoneClear t n, .programQuery t n]
    (∀ i ∈ zone ++ program,
      (31 < n → exec i s = .next (refusedWith t .range s)) ∧
      ∀ z : ZoneId, z.val = n →
        (s.zones.get z = none → exec i s = .next (refusedWith t .notFound s)) ∧
        ∀ r, s.zones.get z = some r → ¬ Permitted t [r.kind.commandedBy] s → exec i s = .next (refusedWith t .denied s)) ∧
    ∀ i ∈ program, ∀ (z : ZoneId) (r : Zone), z.val = n → s.zones.get z = some r → Permitted t [r.kind.commandedBy] s →
      r.kind ≠ .oven → exec i s = .next (refusedWith t .state s)

/-- R60 and R61: the refusals of ZONE_DEFINE come in the order of the table. One that passes its checks gives the zone the
values carried, each clamped into its range, in state OFF with no timer, no program run and, where it stays a WARMER, its
cabinet with nothing reserved; it binds the listed load points, unbinds those dropped, and says CLAMPED where a value moved. -/
def Obligations.ZoneDefineSetsRecordAndBindings : Prop :=
  (∀ (t : Transfer) (v : ZoneSettings) (s : State), Judged t [.production, .warewash] s →
    let refuses (why : Status) : Prop := exec (.zoneDefine t v) s = .next (refusedWith t why s)
    (31 < v.zone ∨ 3 < v.kind → refuses .range) ∧
    ∀ (z : ZoneId) (kind : ZoneKind), v.zone = z.val → v.kind = kind.code →
      (¬ Permitted t [kind.commandedBy] s ∨ (∃ r ∈ s.zones.get z, ¬ Permitted t [r.kind.commandedBy] s) → refuses .denied) ∧
      (Permitted t [kind.commandedBy] s → (∀ r ∈ s.zones.get z, Permitted t [r.kind.commandedBy] s) →
        31 < v.channel ∨ v.loads = [] ∨ 4 < v.loads.length ∨ ¬ v.loads.Nodup ∨ (∃ n ∈ v.loads, 47 < n) ∨ 3 < v.level ∨
          PageGroup.ofCode? v.group = none ∨ 600 < v.soakTime ∨ v.recoverLimit < 10 ∨ 900 < v.recoverLimit →
        refuses .range)) ∧
  ∀ (t : Transfer) (v : ZoneSettings) (z : ZoneId) (kind : ZoneKind) (channel : ChannelId) (loads : List LoadId)
    (group : PageGroup) (s : State), Judged t [kind.commandedBy] s →
    v.zone = z.val → v.kind = kind.code → v.channel = channel.val → v.loads = loads.map (·.val) → loads.Nodup →
    (1 ≤ loads.length ∧ loads.length ≤ 4) → PageGroup.ofCode? v.group = some group →
    (v.level ≤ 3 ∧ v.soakTime ≤ 600 ∧ 10 ≤ v.recoverLimit ∧ v.recoverLimit ≤ 900) →
    (∀ r ∈ s.zones.get z, r.kind.commandedBy = kind.commandedBy) →
    ((∃ r ∈ s.zones.get z, r.state ≠ .off) → exec (.zoneDefine t v) s = .next (refusedWith t .state s)) ∧
    ((∀ r ∈ s.zones.get z, r.state = .off) →
      ((∃ c ∈ s.cabinet? z, 0 < c.stock ∧ kind ≠ .warmer) → exec (.zoneDefine t v) s = .next (refusedWith t .state s)) ∧
      ((∀ c ∈ s.cabinet? z, 0 < c.stock → kind = .warmer) →
        ((∃ n ∈ loads, ∃ y ∈ (s.loads.get n).binding, y ≠ z) → exec (.zoneDefine t v) s = .next (refusedWith t .conflict s)) ∧
        ((∀ n ∈ loads, ∀ y ∈ (s.loads.get n).binding, y = z) →
          let within (low high x : Nat) : Nat := max low (min high x)
          let range := kind.setpointRange
          let sp := within range.1 range.2 v.setpoint
          let fb := within range.1 range.2 v.fallback
          let moved := decide (sp ≠ v.setpoint ∨ fb ≠ v.fallback ∨ (kind = .warmer ∧ within 300 900 v.standby ≠ v.standby) ∨
            within 5 200 v.band ≠ v.band ∨ within 5 100 v.tolerance ≠ v.tolerance ∨ within 50 500 v.margin ≠ v.margin)
          let kept : Option Cabinet := if ∃ r ∈ s.zones.get z, r.kind = .warmer then s.cabinet? z
            else some { kind := none, capacity := 0, low := 0, high := 0, stock := 0, reserved := 0 }
          ∃ w, exec (.zoneDefine t v) s = .next (answered t (okOr moved) [] w) ∧ ZoneMoveOnly (heard t s) w ∧
            w.zones.get z = some {
              kind := kind, owner := t.port, channel := channel, loads := loads, level := v.level, group := group
              setpoint := sp, fallback := fb, standby := if kind = .warmer then some (within 300 900 v.standby) else none
              band := within 5 200 v.band, tolerance := within 5 100 v.tolerance, soakTime := v.soakTime
              margin := within 50 500 v.margin, recoverLimit := v.recoverLimit, active := sp, state := .off
              soakTimer := none, recoverTimer := none, slowRaised := false, standbyTimer := none, overCount := 0
              overArmed := false, faultCause := .none, cleanCount := 0, duty := 0
              program := if kind = .oven then some {
                  draft := Table.fill 8 none, state := .none, steps := [], hold := 300, current := 0, timer := 0, lastRun := 0 }
                else none
              cabinet := if kind = .warmer then kept.map fun c => { c with reserved := 0 } else none } ∧
            (∀ n, (w.loads.get n).binding =
              if n ∈ loads then some z else if (s.loads.get n).binding = some z then none else (s.loads.get n).binding) ∧
            Noticed .zoneState z.val 0 s w)))

/-- R62, R64 and R70: ZONE_SETPOINT stores its three setpoints clamped into the kind's range; a changed setpoint takes a zone
in SOAK, READY or RECOVER to PREHEAT and leaves every other state; the active setpoint follows the state, FAULT keeping it. That
the entry into PREHEAT clears the mark of ZONE_SLOW is the model's choice (notes/assumptions/34.md). -/
def Obligations.ZoneSetpointActsOnTheState : Prop :=
  ∀ (t : Transfer) (z : ZoneId) (r : Zone) (a b c : Nat) (s : State), ZoneJudged t z r s →
    let low := r.kind.setpointRange.1
    let high := r.kind.setpointRange.2
    let sp := max low (min high a)
    let fb := max low (min high b)
    let sb := if r.kind = .warmer then some (max 300 (min 900 c)) else none
    let moved := decide (sp ≠ a ∨ fb ≠ b ∨ (r.kind = .warmer ∧ sb ≠ some c))
    let st := if sp ≠ r.setpoint ∧ (r.state = .soak ∨ r.state = .ready ∨ r.state = .recover) then .preheat else r.state
    ∃ w k, exec (.zoneSetpoint t z.val a b c) s = .next (answered t (okOr moved) [] w) ∧ StockOnly (heard t s) w ∧
      w.zones = s.zones.set z (some k) ∧
      k = { r with
        setpoint := sp, fallback := fb, standby := sb, state := st
        active := match st with
          | .standby => sb.getD sp
          | .paused => fb
          | .fault => r.active
          | .off | .preheat | .soak | .ready | .recover => sp
        soakTimer := if st = r.state then r.soakTimer else none
        recoverTimer := if st = r.state then r.recoverTimer else none
        slowRaised := if st = r.state then r.slowRaised else false
        standbyTimer := if st = r.state then r.standbyTimer else none
        overArmed := k.overArmed, overCount := k.overCount } ∧
      (k.active < r.active → k.overArmed = false ∧ k.overCount = 0)

/-- R66 and R73: ZONE_START takes a zone from OFF, and ZONE_RESUME one from PAUSED, into PREHEAT; in any other state each is
refused with STATE. ZONE_PAUSE takes a heating zone into PAUSED with the notice, leaves a PAUSED one as it is, and is refused
with STATE in OFF and FAULT. No other zone changes. Each entry makes the restock test of the zone's cabinet (R129): a task
opens, PAGED with RESTOCK raised where CLEAN has a plate and WAITING where it has none. -/
def Obligations.StartResumeAndPauseMoveTheZone : Prop :=
  ∀ (t : Transfer) (z : ZoneId) (r : Zone) (s : State), ZoneJudged t z r s →
    let tested (w : State) : Prop := (∀ c, s.cabinet? z = some c → TaskTest z c s w) ∧
      (s.cabinet? z = none → w.restock = s.restock ∧ w.desk = (heard t s).desk)
    (∀ i st, (i = .zoneStart t z.val ∧ st = .off) ∨ (i = .zoneResume t z.val ∧ st = .paused) →
       (r.state ≠ st → exec i s = .next (refusedWith t .state s)) ∧
       (r.state = st → ∃ w, exec i s = .next (answered t .ok [] w) ∧ StockOnly (heard t s) w ∧
         w.zones = s.zones.set z (some (r.enter .preheat)) ∧ tested w)) ∧
    (r.state = .off ∨ r.state = .fault → exec (.zonePause t z.val) s = .next (refusedWith t .state s)) ∧
    (r.state = .paused → exec (.zonePause t z.val) s = .next (answered t .ok [] (heard t s))) ∧
    (r.state.heating = true → ∃ w, exec (.zonePause t z.val) s = .next (answered t .ok [] w) ∧ StockOnly (heard t s) w ∧
      w.zones = s.zones.set z (some (r.enter .paused)) ∧ tested w ∧ Noticed .zoneState z.val 6 s w)

/-- R66 and R77: ZONE_STOP of a zone that is neither OFF nor FAULT, and ZONE_CLEAR of one in FAULT with clean count 3, take it
into OFF: its load points lose what remains of the frame, a RUNNING or HELD program is ABORTED, the minimums of the racks in its
stage become 0 (R104, R105), its cabinet's task is gone, and every entry on the cabinet is released, the courses that held one
having their passes run again in fire order (R145). ZONE_CLEAR then sends the clearing event of the fault's cause, and the
notice is posted. Otherwise ZONE_STOP leaves OFF as it is and each is refused with STATE. The order of these effects, and that
the aborted program's current step stays, are the model's choice (notes/assumptions/18.md, 19.md and 37.md). -/
def Obligations.StopAndClearEnterOff : Prop :=
  ∀ (t : Transfer) (z : ZoneId) (r : Zone) (s : State), ZoneJudged t z r s →
    (r.state = .fault → exec (.zoneStop t z.val) s = .next (refusedWith t .state s)) ∧
    (r.state = .off → exec (.zoneStop t z.val) s = .next (answered t .ok [] (heard t s))) ∧
    (r.state ≠ .fault ∨ r.cleanCount ≠ 3 → exec (.zoneClear t z.val) s = .next (refusedWith t .state s)) ∧
    ∀ i, (i = .zoneStop t z.val ∧ r.state ≠ .fault ∧ r.state ≠ .off) ∨
        (i = .zoneClear t z.val ∧ r.state = .fault ∧ r.cleanCount = 3) →
      ∃ w, exec i s = .next (answered t .ok [] w) ∧ ZoneMoveOnly (heard t s) w ∧
        w.zones.get z = some { r.enter .off with
          program := r.program.map fun g =>
            if g.state = .running ∨ g.state = .held then { g with state := .aborted, lastRun := g.current, timer := 0 } else g
          cabinet := if r.kind = .warmer then r.cabinet.map (fun c => { c with reserved := 0 }) else r.cabinet } ∧
        FrameCut (fun n => n ∈ r.loads) s w ∧ w.task? z = none ∧ Noticed .zoneState z.val 0 s w ∧
        w.line.racks = (s.line.racks.map fun k => { k with
          washMin := if s.line.wash = some z ∧ k.stage = .wash then 0 else k.washMin
          rinseMin := if s.line.booster = some z ∧ k.stage = .rinse then some 0 else k.rinseMin }) ∧
        w.courses.order = s.courses.order ∧
        (s.cabinet? z = none → w.courses = s.courses) ∧
        (s.cabinet? z ≠ none → courseLaw s →
          let holders := s.courses.order.filter fun d => (s.course? d).any fun q => q.entries.any fun e => e.1 = z
          let released : Ledger := {
            course := fun d => (s.course? d).map fun q => { q with entries := q.entries.filter fun e => e.1 ≠ z }
            plates := fun y => if y = z then 0 else s.ledger.plates y }
          ∀ d, w.course? d = (holders.foldl (Ledger.pass s) released).course d) ∧
        ∃ u, ZoneMoveOnly (heard t s) u ∧
          (s.cabinet? z = none → s.task? z = none → (∀ g ∈ r.program, g.state ≠ .held) → u.desk = (heard t s).desk) ∧
          (i = .zoneStop t z.val → w = post .zoneState z.val 0 u) ∧
          (i = .zoneClear t z.val → r.faultCause = .sensor →
            w = post .zoneState z.val 0 (clearEvent .sensorFault z.val u)) ∧
          (i = .zoneClear t z.val → r.faultCause = .overMargin ∨ r.faultCause = .absolute →
            w = post .zoneState z.val 0 (clearEvent .zoneOvertemp z.val u))

/-- 04 sections 4.1 and 4.4 to 4.6: one conversion of the scan. The channel takes its code, and its reading and rail count by
the kind of code; the scan moves to the next channel; nothing outside the zones' and the line's own affairs changes. A rack's
minimum falls to a lower reading of its stage's zone, and to 0 where that zone enters FAULT (R104, R105). A zone in FAULT that
names the channel counts a clean conversion, up to 3, or starts again at 0 (R76). What it does to each other zone that names the
channel: the third rail code in a row, or a reading above the kind's absolute limit, puts it in FAULT with its cause and its
load points cut; outside OFF, a reading within the over level arms the over test and zeroes the over count, and one above it
counts where the test is armed, the third putting the zone in FAULT (R74); otherwise a reading moves a zone in PREHEAT, SOAK,
READY or RECOVER by the window, and leaves OFF, STANDBY and PAUSED. Beyond what R75 settles, that the limit is tested before the
over level and that before the window, and that a reading that faults is put to no later test, is the model's choice
(notes/assumptions/35.md). An entry into FAULT also stops every timer, aborts the program (R91), releases the cabinet's plates
and closes its task (R126, R132), and raises SENSOR_FAULT or ZONE_OVERTEMP, which a later zone's raises may drop again (R157).
Of a zone that does not name the channel only what courses reserve on its cabinet, its standby timer and its waking from STANDBY
may change. A zone in STANDBY that shares its channel is left out where another's move may wake it first. -/
def Obligations.SensorConversionMovesItsZones : Prop :=
  ∀ (code : BitVec 12) (s : State), Quiet s → let c := s.scan.position
    let ch := s.scan.channels.get c
    let rails := code.toNat ≤ 8 ∨ 4087 ≤ code.toNat
    let reading := code.toNat * 25 / 32
    ∃ w, exec (.sensorConversion code) s = .next w ∧
      ZoneMoveOnly { s with scan := {
        channels := s.scan.channels.set c (
          if rails then { code := code, reading := ch.reading, rail := min 3 (ch.rail + 1) }
          else { code := code, reading := reading, rail := 0 })
        position := c + 1 } } w ∧
      (let faulted (zone : Option ZoneId) : Bool := zone.any fun z =>
         (s.zones.get z).any (fun r => r.state ≠ .fault) && (w.zones.get z).any fun r => r.state = .fault
       let measured (zone : Option ZoneId) : Bool :=
         !decide rails && zone.any fun z => (s.zones.get z).any fun r => r.channel = c
       w.line.racks = s.line.racks.map fun k => { k with
         washMin := if k.stage ≠ .wash then k.washMin
           else if faulted s.line.wash then 0 else if measured s.line.wash then min k.washMin reading else k.washMin
         rinseMin := if k.stage ≠ .rinse then k.rinseMin
           else if faulted s.line.booster then some 0
           else if measured s.line.booster then k.rinseMin.map (min reading) else k.rinseMin }) ∧
      w.wares = s.wares ∧ w.courses.order = s.courses.order ∧
      (∀ n, (∀ z r, s.zones.get z = some r → r.channel = c → n ∉ r.loads) → w.loads.get n = s.loads.get n) ∧
      (∀ z, s.zones.get z = none → w.zones.get z = none) ∧
      (∀ (z : ZoneId) (r : Zone), s.zones.get z = some r → r.channel ≠ c → ∃ k n, w.zones.get z = some k ∧
        k.cabinet = r.cabinet.map (fun b => { b with reserved := n }) ∧
        (k = { r with standbyTimer := k.standbyTimer, cabinet := k.cabinet } ∨
          (r.state = .standby ∧ k = { r.enter .preheat with cabinet := k.cabinet }))) ∧
      ∀ (z : ZoneId) (r : Zone), s.zones.get z = some r → r.channel = c → ∃ k, w.zones.get z = some k ∧
        let above := r.active + r.margin < reading
        let alone := r.state = .standby → ∀ y v, y ≠ z → s.zones.get y = some v → v.channel ≠ c
        let faults (cause : FaultCause) : Prop := k.state = .fault ∧ k.faultCause = cause ∧ (alone → k.active = r.active) ∧
          (∀ n ∈ r.loads, remaining s.time.slice (w.loads.get n) = []) ∧ Noticed .zoneState z.val 7 s w ∧
          k.soakTimer = none ∧ k.recoverTimer = none ∧ k.standbyTimer = none ∧ k.overCount = 0 ∧ k.cleanCount = 0 ∧
          k.program = r.program.map (fun g =>
            if g.state = .loaded ∨ g.state = .running ∨ g.state = .held then
              { g with state := .aborted, lastRun := g.current, timer := 0 }
            else g) ∧
          w.task? z = none ∧ w.cabinet? z = (s.cabinet? z).map (fun b => { b with reserved := 0 }) ∧
          (courseLaw s → s.cabinet? z ≠ none → ∀ d q, w.course? d = some q → ∀ e ∈ q.entries, e.1 ≠ z) ∧
          let raised : Cause := if cause = .sensor then .sensorFault else .zoneOvertemp
          ((∀ y v, z < y → s.zones.get y = some v → v.channel ≠ c) → PagedOrFull raised.code z.val w) ∧
          ((∀ y v, y ≠ z → s.zones.get y = some v → v.channel ≠ c) → s.cabinet? z = none → s.task? z = none →
            (∀ g ∈ r.program, g.state ≠ .held) →
              w.desk = (raise raised r.group z.val s).desk ∧ w.roster = (raise raised r.group z.val s).roster)
        let stays : Prop :=
          k.state = r.state ∧ k.active = r.active ∧ k.overCount = r.overCount ∧ k.overArmed = r.overArmed
        (r.state = .fault → k = { r with
          cleanCount := if rails ∨ above ∨ r.kind.absoluteLimit < reading then 0 else min 3 (r.cleanCount + 1) }) ∧
        (r.state ≠ .fault →
          (rails → 2 ≤ ch.rail → faults .sensor) ∧
          (rails → ch.rail < 2 → alone → stays) ∧
          (¬ rails → r.kind.absoluteLimit < reading → faults .absolute) ∧
          (¬ rails → reading ≤ r.kind.absoluteLimit → r.state = .off → stays) ∧
          (¬ rails → reading ≤ r.kind.absoluteLimit → r.state ≠ .off → alone → r.overCount < 3 →
            (above → r.overArmed = true → 2 ≤ r.overCount → faults .overMargin) ∧
            (¬ (above ∧ r.overArmed = true ∧ 2 ≤ r.overCount) →
              k.state = (match r.state with
                | .preheat => if r.active ≤ reading + r.tolerance then (if r.soakTime = 0 then .ready else .soak) else .preheat
                | .soak => if r.active ≤ reading + r.tolerance then .soak else .preheat
                | .ready => if r.active ≤ reading + r.tolerance then .ready else .recover
                | .recover => if r.active ≤ reading + r.tolerance then .ready else .recover
                | .off => .off
                | .standby => .standby
                | .paused => .paused
                | .fault => .fault) ∧
              (k.state = r.state ∨ r.active = r.setpoint →
                k.active = r.active ∧ (k.overArmed = true ↔ r.overArmed = true ∨ ¬ above) ∧
                k.overCount = if above then (if r.overArmed then r.overCount + 1 else r.overCount) else 0))))

/-- R68, R69 and R71: the expiries of a zone's timers. The soak timer's takes SOAK to READY, an entry at which the SHORT courses
that list a WARMER's cabinet have their passes run again in fire order (R141); the recover timer's limit raises ZONE_SLOW once
in a stay, stands at its limit (what ZONE_QUERY then reads of it: notes/assumptions/17.md) and leaves the zone in RECOVER; the
standby timer's takes READY to STANDBY. A timer that does not run cannot expire (notes/assumptions/3.md). -/
def Obligations.ZoneTimersExpire : Prop :=
  ∀ (z : ZoneId) (r : Zone) (s : State), Quiet s → s.zones.get z = some r →
    (¬ (r.state = .soak ∧ r.soakTimer ≠ none) → exec (.soakTimerExpiry z) s = .next s) ∧
    (r.state = .soak → r.soakTimer ≠ none → ∃ w k, exec (.soakTimerExpiry z) s = .next w ∧ ServiceOnly s w ∧
      w.zones.get z = some k ∧ k = { r.enter .ready with standbyTimer := k.standbyTimer, cabinet := k.cabinet } ∧
      Noticed .zoneState z.val 3 s w ∧ w.courses.order = s.courses.order ∧
      (s.cabinet? z = none → w.courses = s.courses) ∧
      ∀ c, s.cabinet? z = some c → courseLaw s → ∀ d, w.course? d = (Ledger.reruns s s.courses.order
        { s.ledger with plates := fun y => if y = z then c.stock - c.reserved else s.ledger.plates y } z).course d) ∧
    (¬ (r.state = .recover ∧ r.slowRaised = false) → exec (.recoverTimerLimit z) s = .next s) ∧
    (r.state = .recover → r.slowRaised = false → ∃ w, exec (.recoverTimerLimit z) s = .next w ∧
      PagingOnly (s.setZone z { r with recoverTimer := some (100 * r.recoverLimit), slowRaised := true }) w ∧
      PagedOrFull 67 z.val w) ∧
    (¬ (r.state = .ready ∧ r.standbyTimer ≠ none) → exec (.standbyTimerExpiry z) s = .next s) ∧
    (r.state = .ready → r.standbyTimer ≠ none → ∃ w k, exec (.standbyTimerExpiry z) s = .next w ∧ StockOnly s w ∧
      w.zones = s.zones.set z (some k) ∧ (k = r.enter .standby ∨ k = (r.enter .standby).enter .preheat) ∧
      (s.task? z ≠ none → k = r.enter .standby))

/-! ### Oven programs (05) -/

/-- R81, R82 and R90: PROGRAM_STEP writes one draft slot, and PROGRAM_LOAD copies draft slots 1 to its count into the program,
which becomes LOADED; each clamps its setpoint to 300 to 2,800, and neither touches the zone. PROGRAM_ABORT ends a LOADED,
RUNNING or HELD program as ABORTED at its current step and leaves the rest of the zone, sending the clearing event of STEP_HOLD
from HELD before its notice; an ABORTED one it leaves, and in NONE and DONE it is refused with STATE. That the current step
stays is the model's choice (notes/assumptions/37.md). -/
def Obligations.ProgramIsDraftedLoadedAndAborted : Prop :=
  (∀ (t : Transfer) (z : ZoneId) (r : Zone) (g : Program) (s : State), ZoneJudged t z r s → r.kind = .oven →
     r.program = some g → let h := heard t s
     (∀ slot sp soak dur act, exec (.programStep t z.val slot sp soak dur act) s = .next (
       match index? 8 (slot - 1), EndAction.ofCode? act with
       | some i, some a =>
         if slot = 0 ∨ 600 < soak ∨ dur < 1 ∨ 600 < dur then refusedWith t .range s
         else answered t (okOr (decide (sp < 300 ∨ 2800 < sp))) [] (h.setZone z { r with program := some { g with
           draft := g.draft.set i (some {
             setpoint := max 300 (min 2800 sp), soakTime := soak, duration := dur, action := a }) } })
       | _, _ => refusedWith t .range s)) ∧
     ∀ count hold, exec (.programLoad t z.val count hold) s = .next (
       if count < 1 ∨ 8 < count then refusedWith t .range s
       else if g.state = .running ∨ g.state = .held then refusedWith t .state s
       else if none ∈ g.draft.items.take count then refusedWith t .notFound s
       else answered t (okOr (decide (hold < 300 ∨ 2800 < hold))) [] (h.setZone z { r with program := some { g with
         state := .loaded, steps := (g.draft.items.take count).filterMap id, hold := max 300 (min 2800 hold), current := 0
         timer := 0, lastRun := 0 } }))) ∧
  ∀ (t : Transfer) (z : ZoneId) (r : Zone) (g : Program) (s : State), ZoneJudged t z r s → r.kind = .oven →
    r.program = some g →
    (g.state = .none ∨ g.state = .done → exec (.programAbort t z.val) s = .next (refusedWith t .state s)) ∧
    (g.state = .aborted → exec (.programAbort t z.val) s = .next (answered t .ok [] (heard t s))) ∧
    (g.state = .loaded ∨ g.state = .running ∨ g.state = .held →
      let u := (heard t s).setZone z { r with program := some { g with state := .aborted, lastRun := g.current, timer := 0 } }
      ∃ w, exec (.programAbort t z.val) s = .next (answered t .ok [] w) ∧ PagingOnly u w ∧
        w = post .programState z.val 5 (if g.state = .held then clearEvent .stepHold z.val u else u) ∧
        Noticed .programState z.val 5 s w)

/-- R83: PROGRAM_RUN of an OFF zone whose program is LOADED, DONE or ABORTED starts step 1: its setpoint and soak time stand in
the zone, which enters PREHEAT, and the step timer holds its duration at 6,000 ticks a minute; otherwise it is refused with
STATE. -/
def Obligations.ProgramRunStartsStepOne : Prop :=
  ∀ (t : Transfer) (z : ZoneId) (r : Zone) (g : Program) (s : State), ZoneJudged t z r s → r.kind = .oven →
    r.program = some g →
    (r.state ≠ .off ∨ g.state = .none ∨ g.state = .running ∨ g.state = .held →
      exec (.programRun t z.val) s = .next (refusedWith t .state s)) ∧
    (r.state = .off → g.state = .loaded ∨ g.state = .done ∨ g.state = .aborted → ∀ st rest, g.steps = st :: rest →
      ∃ w k, exec (.programRun t z.val) s = .next (answered t .ok [] w) ∧ StockOnly (heard t s) w ∧
        w.zones = s.zones.set z (some k) ∧
        k.state = .preheat ∧ k.setpoint = st.setpoint ∧ k.active = st.setpoint ∧ k.soakTime = st.soakTime ∧
        k.program = some { g with state := .running, current := 1, timer := 6000 * st.duration } ∧
        k.fallback = r.fallback ∧ k.loads = r.loads ∧ k.channel = r.channel ∧ k.soakTimer = none)

/-- R84, R86 and R89: what a step's end by NEXT or PAGE_NEXT before the last step, and PROGRAM_ADVANCE of a program HELD before
the last step, do: the next step runs, its setpoint and soak time standing in the zone, and a changed setpoint takes a zone in
SOAK, READY or RECOVER to PREHEAT. The zone's fallback and every other zone stay. PROGRAM_ADVANCE then sends the clearing event
of STEP_HOLD (its place behind the step: notes/assumptions/21.md). -/
def Obligations.NextStepIsApplied : Prop :=
  ∀ (z : ZoneId) (r : Zone) (g : Program) (st : ProgramStep) (s : State), Quiet s → s.zones.get z = some r →
    r.program = some g → g.current < g.steps.length → g.steps[g.current]? = some st →
    let next (w : State) : Prop := ∃ k, w.zones = s.zones.set z (some k) ∧
      k.setpoint = st.setpoint ∧ k.soakTime = st.soakTime ∧ k.fallback = r.fallback ∧
      k.program = some { g with state := .running, current := g.current + 1, timer := 6000 * st.duration } ∧
      k.state = if st.setpoint ≠ r.setpoint ∧ (r.state = .soak ∨ r.state = .ready ∨ r.state = .recover) then .preheat
        else r.state
    (∀ cur, g.state = .running → r.state = .ready ∨ r.state = .recover → 1 ≤ g.current →
      g.steps[g.current - 1]? = some cur → cur.action ≠ .pageHold →
      ∃ w, exec (.stepTimerExpiry z) s = .next w ∧ StockOnly s w ∧ next w ∧
        (cur.action = .pageNext → PagedOrFull 64 z.val w)) ∧
    ∀ t : Transfer, ZoneJudged t z r s → r.kind = .oven → g.state = .held →
      ∃ w u, exec (.programAdvance t z.val) s = .next (answered t .ok [] w) ∧ StockOnly (heard t s) w ∧ next w ∧
        w = clearEvent .stepHold z.val u ∧ u.desk = (heard t s).desk ∧ u.roster = (heard t s).roster

/-- R87, R88 and R89: the other ends of a step. PAGE_HOLD holds the program at its step, with STEP_HOLD raised and the notice;
the last step, ended otherwise or advanced from HELD, makes it DONE, with the hold setpoint in the zone, PROGRAM_DONE raised and
the notice posted. From HELD the clearing event of STEP_HOLD follows (its place: notes/assumptions/21.md), so that the page of
PROGRAM_DONE stands where the queue was not full before. A step timer that does not count cannot expire
(notes/assumptions/3.md), and PROGRAM_ADVANCE of a program not HELD is refused. -/
def Obligations.ProgramIsHeldOrDone : Prop :=
  ∀ (z : ZoneId) (r : Zone) (g : Program) (s : State), Quiet s → s.zones.get z = some r → r.program = some g →
    let counts := g.state = .running ∧ (r.state = .ready ∨ r.state = .recover)
    let paged (code : Nat) (w : State) : Prop := PagedOrFull code z.val w
    let done (w : State) : Prop := ∃ k, w.zones = s.zones.set z (some k) ∧ k.setpoint = g.hold ∧ k.soakTime = r.soakTime ∧
      k.program = some { g with state := .done, lastRun := g.current, timer := 0 } ∧
      k.state = if g.hold ≠ r.setpoint ∧ (r.state = .soak ∨ r.state = .ready ∨ r.state = .recover) then .preheat else r.state
    (¬ counts → exec (.stepTimerExpiry z) s = .next s) ∧
    (∀ cur, counts → 1 ≤ g.current → g.steps[g.current - 1]? = some cur →
      (cur.action = .pageHold → ∃ w, exec (.stepTimerExpiry z) s = .next w ∧ StockOnly s w ∧
        w.zones = s.zones.set z (some { r with program := some { g with state := .held, timer := 0 } }) ∧ paged 65 w ∧
        Noticed .programState z.val 3 s w) ∧
      (cur.action ≠ .pageHold → g.steps.length ≤ g.current → ∃ w, exec (.stepTimerExpiry z) s = .next w ∧ StockOnly s w ∧
        done w ∧ paged 66 w ∧ Noticed .programState z.val 4 s w)) ∧
    ∀ t : Transfer, ZoneJudged t z r s → r.kind = .oven →
      (g.state ≠ .held → exec (.programAdvance t z.val) s = .next (refusedWith t .state s)) ∧
      (g.state = .held → g.steps.length ≤ g.current → ∃ w u, exec (.programAdvance t z.val) s = .next (answered t .ok [] w) ∧
        StockOnly (heard t s) w ∧ done w ∧ Noticed .programState z.val 4 s w ∧
        w = clearEvent .stepHold z.val u ∧ StockOnly (heard t s) u ∧ done u ∧ paged 66 u ∧ Noticed .programState z.val 4 s u ∧
        (pageLaw s → s.desk.pages.length < 32 → ∃ p ∈ w.desk.pages, p.cause = 66 ∧ p.object = z.val))

/-! ### The dish line (06) -/

/-- R99: LINE_CONFIG gives the line its items and tests the permit at once; the fault counter and the line levels stay. It is
refused where a zone is undefined or of another kind, or a rack is in the queue. -/
def Obligations.LineConfigNamesItsZones : Prop :=
  ∀ (t : Transfer) (l : LineSettings) (wash booster : ZoneId) (pe px po : Polarity) (g : PageGroup) (s : State),
    Judged t [.warewash] s → l.wash = wash.val → l.booster = booster.val → l.enterPolarity = pe.code →
    l.exitPolarity = px.code → l.outPolarity = po.code → PageGroup.ofCode? l.group = some g →
    let ranges := (400 ≤ l.washThreshold ∧ l.washThreshold ≤ 800) ∧ (700 ≤ l.rinseThreshold ∧ l.rinseThreshold ≤ 900)
    let kinds := (∃ r ∈ s.zones.get wash, r.kind = .washTank) ∧ ∃ r ∈ s.zones.get booster, r.kind = .rinseBooster
    let undefined := s.zones.get wash = none ∨ s.zones.get booster = none
    (∀ m : LineSettings, 31 < m.wash ∨ 31 < m.booster ∨ 3 < m.enterPolarity ∨ 3 < m.exitPolarity ∨ 3 < m.outPolarity ∨
      PageGroup.ofCode? m.group = none → exec (.lineConfig t m) s = .next (refusedWith t .range s)) ∧
    (¬ ranges → exec (.lineConfig t l) s = .next (refusedWith t .range s)) ∧
    (ranges → undefined → exec (.lineConfig t l) s = .next (refusedWith t .notFound s)) ∧
    (ranges → ¬ undefined → ¬ kinds → exec (.lineConfig t l) s = .next (refusedWith t .range s)) ∧
    (ranges → kinds → s.line.racks ≠ [] → exec (.lineConfig t l) s = .next (refusedWith t .state s)) ∧
    (ranges → kinds → s.line.racks = [] → ∃ w, exec (.lineConfig t l) s = .next (answered t .ok [] w) ∧
      w = { heard t s with line := w.line, ports := w.ports } ∧
      (∀ p, SamePort ((heard t s).ports.get p) (w.ports.get p)) ∧
      w.line = { s.line with
        configured := true, wash := some wash, booster := some booster, washThreshold := l.washThreshold
        rinseThreshold := l.rinseThreshold, enterPolarity := pe, exitPolarity := px, outPolarity := po, group := g
        permit := permitCondition w } ∧
      (w.line.permit ≠ s.line.permit → Noticed .linePermit 0 (if w.line.permit then 1 else 0) s w))

/-- R102, R103 and R111: RACK_LOAD joins a rack to the tail of the queue with what SOILED can give, its wash minimum the wash
channel's reading, or 0 where the wash zone stands in OFF or FAULT; the plates leave SOILED and the total stays; the refusals
come in the order of the table, RANGE first, for a ware kind above 7 as for the other numbers. LINE_PURGE empties the queue, gives every rack's plates to SOILED of its kind, raises
RACK_REWASH for each tag, and answers with the number of racks; the counter, the configuration, the levels and the permit
stay. -/
def Obligations.RacksAreLoadedAndPurged : Prop :=
  (∀ (t : Transfer) (tag kind count : Nat) (s : State), Judged t [.warewash] s → 7 < kind →
     exec (.rackLoad t tag kind count) s = .next (refusedWith t .range s)) ∧
  (∀ (t : Transfer) (tag count : Nat) (k : WareId) (s : State), Judged t [.warewash] s → let w := s.wares.get k
     exec (.rackLoad t tag k.val count) s = .next (
       if 255 < tag ∨ count < 1 ∨ 40 < count then refusedWith t .range s
       else if s.line.configured = false then refusedWith t .state s
       else if w.defined = false then refusedWith t .notFound s
       else if 12 ≤ s.line.racks.length then refusedWith t .full s
       else if ∃ r ∈ s.line.racks, r.tag = tag then refusedWith t .duplicate s
       else if w.soiled = 0 then refusedWith t .empty s
       else answered t (okOr (decide (w.soiled < count))) [] { heard t s with
         wares := s.wares.set k { w with soiled := w.soiled - min count w.soiled }
         line := { s.line with racks := s.line.racks ++ [{
           tag := tag, kind := k, count := min count w.soiled, stage := .wash
           washMin := if washState s = .off ∨ washState s = .fault then 0
             else match s.line.wash.bind s.zones.get with | some r => zoneReading s r | none => 0
           rinseMin := none, verdict := .pending, entered := s.time.clock }] } })) ∧
  ∀ (t : Transfer) (s : State), Judged t [.warewash] s →
    ∃ w, exec (.linePurge t) s = .next (answered t .ok (bigEndian 1 s.line.racks.length) w) ∧
      ServiceOnly { heard t s with line := { s.line with racks := [] } } w ∧ w.line.permit = s.line.permit ∧
      w.zones = s.zones ∧ w.restock = s.restock ∧ w.courses = s.courses ∧
      (∀ k, w.wares.get k = { s.wares.get k with soiled := (s.wares.get k).soiled + inRacks s k }) ∧
      (s.line.racks.length + s.desk.pages.length ≤ 32 →
        ∀ r ∈ s.line.racks, ∃ p ∈ w.desk.pages, p.cause = 16 ∧ p.object = r.tag)

/-- R98, R106, R107 and R110: the events of the two inner lines. RINSE_ENTER moves the oldest rack in WASH to RINSE with the
booster channel's reading as its rinse minimum, or 0 where the booster stands in OFF or FAULT; RINSE_EXIT moves the oldest rack
in RINSE to DONE with its verdict; with no such rack each is a line fault, which the counter counts up to 65,535. A transition
that is no event changes the held level alone (which transitions are events, the pin's sample says: notes/assumptions/6.md). -/
def Obligations.RinseEventsMoveTheOldestRack : Prop :=
  ∀ (s : State) (front : List Rack) (r : Rack) (back : List Rack), Quiet s →
    let l := s.line
    let fault (l : DishLine) : DishLine := { l with faults := min 65535 (l.faults + 1) }
    let low := if boosterState s = .off ∨ boosterState s = .fault then 0
      else match l.booster.bind s.zones.get with | some b => zoneReading s b | none => 0
    let verdict : Verdict :=
      if l.washThreshold ≤ r.washMin ∧ l.rinseThreshold ≤ r.rinseMin.getD 0 then .clean else .rewash
    (l.racks = front ++ r :: back → r.stage = .wash → (∀ q ∈ front, q.stage ≠ .wash) →
      exec .rinseEnter s = .next { s with line := { l with
        enterLevel := !l.enterLevel, racks := front ++ { r with stage := .rinse, rinseMin := some low } :: back } }) ∧
    ((∀ q ∈ l.racks, q.stage ≠ .wash) → exec .rinseEnter s =
      .next (post .lineFault 0 256 { s with line := fault { l with enterLevel := !l.enterLevel } })) ∧
    (l.racks = front ++ r :: back → r.stage = .rinse → (∀ q ∈ front, q.stage ≠ .rinse) →
      exec .rinseExit s = .next (post .rackVerdict r.tag verdict.code { s with line := { l with
        exitLevel := !l.exitLevel, racks := front ++ { r with stage := .done, verdict := verdict } :: back } })) ∧
    ((∀ q ∈ l.racks, q.stage ≠ .rinse) → exec .rinseExit s =
      .next (post .lineFault 1 256 { s with line := fault { l with exitLevel := !l.exitLevel } })) ∧
    exec (.lineLevelChange .rinseEnter) s = .next { s with line := { l with enterLevel := !l.enterLevel } } ∧
    exec (.lineLevelChange .rinseExit) s = .next { s with line := { l with exitLevel := !l.exitLevel } } ∧
    exec (.lineLevelChange .rackOut) s = .next { s with line := { l with outLevel := !l.outLevel } }

/-- R108 and R109: RACK_OUT takes the head of the queue away. A DONE rack with verdict CLEAN gives its plates to CLEAN of its
kind, whose waiting tasks wake; any other rack gives them to SOILED with RACK_REWASH raised, and a rack not yet DONE is a line
fault besides; an empty queue is one too. The held level of the line flips at the event, whatever the polarity: the model's
choice (notes/assumptions/6.md). -/
def Obligations.RackOutUnloadsTheHead : Prop :=
  ∀ (s : State) (r : Rack) (rest : List Rack), Quiet s →
    let l := { s.line with outLevel := !s.line.outLevel }
    let k := s.wares.get r.kind
    let condemned (w : State) : Prop := w.wares = s.wares.set r.kind { k with soiled := k.soiled + r.count } ∧
      w.zones = s.zones ∧ w.restock = s.restock ∧
      PagedOrFull 16 r.tag w
    (s.line.racks = [] → exec .rackOut s =
      .next (post .lineFault 2 256 { s with line := { l with faults := min 65535 (l.faults + 1) } })) ∧
    (s.line.racks = r :: rest →
      (r.stage = .done → r.verdict = .clean → ∃ w, exec .rackOut s = .next w ∧
        StockOnly { s with
          line := { l with racks := rest }, wares := s.wares.set r.kind { k with clean := k.clean + r.count } } w ∧
        (taskLaw s → ∀ q ∈ w.restock, q.kind = r.kind → q.paged = true)) ∧
      (r.stage = .done → r.verdict ≠ .clean → ∃ w, exec .rackOut s = .next w ∧
        ServiceOnly { s with line := { l with racks := rest } } w ∧ w.courses = s.courses ∧ w.line.permit = s.line.permit ∧
        condemned w) ∧
      (r.stage ≠ .done → ∃ w, exec .rackOut s = .next w ∧
        ServiceOnly { s with line := { l with racks := rest, faults := min 65535 (l.faults + 1) } } w ∧
        w.courses = s.courses ∧ w.line.permit = s.line.permit ∧ condemned w ∧ Noticed .lineFault 3 r.tag s w))

/-! ### Ware stock and restocking (07) -/

/-- R120 and R122: WARE_DEFINE defines a kind with its whole stock in CLEAN; RETURN moves plates from OUT to SOILED, as many as
OUT can give, and answers with their number. Nothing else changes. -/
def Obligations.WareDefineAndReturn : Prop :=
  ∀ (t : Transfer) (kind n : Nat) (s : State), Listening t s →
    (¬ Permitted t [.warewash, .banquet] s → ∀ i ∈ ([.wareDefine t kind n, .wareReturn t kind n] : List Instr),
      exec i s = .next (refusedWith t .denied s)) ∧
    (Permitted t [.warewash, .banquet] s →
      (7 < kind → ∀ i ∈ ([.wareDefine t kind n, .wareReturn t kind n] : List Instr),
        exec i s = .next (refusedWith t .range s)) ∧
      ∀ k : WareId, k.val = kind → let w := s.wares.get k
        exec (.wareDefine t kind n) s = .next (
          if 9999 < n then refusedWith t .range s
          else if w.defined then refusedWith t .duplicate s
          else answered t .ok [] { heard t s with
            wares := s.wares.set k { defined := true, total := n, soiled := 0, clean := n, out := 0 } }) ∧
        exec (.wareReturn t kind n) s = .next (
          if n < 1 ∨ 9999 < n then refusedWith t .range s
          else if w.defined = false then refusedWith t .notFound s
          else if w.out = 0 then refusedWith t .empty s
          else answered t (okOr (decide (w.out < n))) (bigEndian 2 (min n w.out)) { heard t s with
            wares := s.wares.set k { w with out := w.out - min n w.out, soiled := w.soiled + min n w.out } }))

/-- R121: WARE_ADJUST. A purchase to SOILED or CLEAN raises it and the total; a removal lowers its location and the total by
what the location can give, a cabinet giving what it has not reserved, and says how many, as an unsigned number by the model's
choice (notes/assumptions/17.md); an amount of 0 changes nothing. A purchase to CLEAN makes every WAITING task of the kind PAGED,
with its cause and notice (R130), which ends the standby timer of a zone in READY and takes one in STANDBY to PREHEAT (R71, R72);
a removal from a cabinet is followed by its restock test (R129). The refusals come in the order of the table. -/
def Obligations.WareAdjustBuysAndRemoves : Prop :=
  (∀ (t : Transfer) (k code z : Nat) (a : Int) (s : State), Judged t [.warewash, .banquet] s →
    let ranges := k ≤ 7 ∧ code ≤ 3 ∧ a.natAbs ≤ 9999 ∧ (code = 3 → z ≤ 31)
    (¬ ranges → exec (.wareAdjust t k code z a) s = .next (refusedWith t .range s)) ∧
    (ranges → (∀ i : WareId, i.val = k → (s.wares.get i).defined = false) →
      exec (.wareAdjust t k code z a) s = .next (refusedWith t .notFound s)) ∧
    ∀ (i : WareId) (y : ZoneId), ranges → i.val = k → (s.wares.get i).defined = true → code = 3 → y.val = z →
      (∀ c, s.cabinet? y = some c → c.kind ≠ some i) → exec (.wareAdjust t k code z a) s = .next (refusedWith t .state s)) ∧
  ∀ (t : Transfer) (k : WareId) (z n : Nat) (s : State), Judged t [.warewash, .banquet] s → (s.wares.get k).defined = true →
    1 ≤ n → n ≤ 9999 → let w := s.wares.get k
    let h := heard t s
    let set (v : Ware) : State := { h with wares := s.wares.set k v }
    let took (n m : Nat) (v : Ware) : State :=
      if m = 0 then refusedWith t .empty s else answered t (okOr (decide (m < n))) (bigEndian 2 (min n m)) (set v)
    (∀ code, code ≤ 2 → exec (.wareAdjust t k.val code z 0) s = .next (answered t .ok (bigEndian 2 0) h)) ∧
    exec (.wareAdjust t k.val 0 z n) s = .next (
      if 9999 < w.total + n then refusedWith t .range s
      else answered t .ok (bigEndian 2 n) (set { w with total := w.total + n, soiled := w.soiled + n })) ∧
    (w.total + n ≤ 9999 → ∃ u, exec (.wareAdjust t k.val 1 z n) s = .next (answered t .ok (bigEndian 2 n) u) ∧
      StockOnly (set { w with total := w.total + n, clean := w.clean + n }) u ∧
      (taskLaw s → let waits (q : RestockTask) : Prop := q.kind = k ∧ q.paged = false
        u.restock = s.restock.map (fun q => if waits q then { q with paged := true } else q) ∧
        (∀ q ∈ s.restock, waits q → (pageLaw s → PagedOrFull 48 q.cabinet.val u) ∧ Noticed .restockTask q.cabinet.val 1 s u) ∧
        ∀ y : ZoneId, u.zones.get y = (s.zones.get y).map fun r =>
          if ∃ q ∈ s.restock, q.cabinet = y ∧ waits q then
            if r.state = .standby then r.enter .preheat
            else if r.kind = .warmer ∧ r.state = .ready then { r with standbyTimer := none } else r
          else r)) ∧
    (9999 < w.total + n → exec (.wareAdjust t k.val 1 z n) s = .next (refusedWith t .range s)) ∧
    exec (.wareAdjust t k.val 2 z n) s = .next (refusedWith t .range s) ∧
    exec (.wareAdjust t k.val 0 z (-n)) s = .next (took n w.soiled
      { w with total := w.total - min n w.soiled, soiled := w.soiled - min n w.soiled }) ∧
    exec (.wareAdjust t k.val 1 z (-n)) s = .next (took n w.clean
      { w with total := w.total - min n w.clean, clean := w.clean - min n w.clean }) ∧
    exec (.wareAdjust t k.val 2 z (-n)) s = .next (took n w.out
      { w with total := w.total - min n w.out, out := w.out - min n w.out }) ∧
    ∀ (y : ZoneId) (c : Cabinet), y.val = z → s.cabinet? y = some c → c.kind = some k →
      exec (.wareAdjust t k.val 3 z 0) s = .next (answered t .ok (bigEndian 2 0) h) ∧
      exec (.wareAdjust t k.val 3 z n) s = .next (refusedWith t .range s) ∧
      (c.stock - c.reserved = 0 → exec (.wareAdjust t k.val 3 z (-n)) s = .next (refusedWith t .empty s)) ∧
      (c.stock - c.reserved ≠ 0 → let m := min n (c.stock - c.reserved)
        ∃ u, exec (.wareAdjust t k.val 3 z (-n)) s =
            .next (answered t (okOr (decide (c.stock - c.reserved < n))) (bigEndian 2 m) u) ∧
          StockOnly (set { w with total := w.total - m }) u ∧ u.cabinet? y = some { c with stock := c.stock - m } ∧
          (∀ x, x ≠ y → u.zones.get x = s.zones.get x) ∧
          (s.zoneState y = .off ∨ s.zoneState y = .fault → u.restock = s.restock) ∧
          (s.zoneState y ≠ .off → s.zoneState y ≠ .fault → TaskTest y { c with stock := c.stock - m } s u))

/-- R125 and R131: CABINET_SET that changes a cabinet gives it its kind, capacity and marks, keeps its stock and reserved count,
ends its open task and makes the restock test (R129); it is refused to a role without the right to the zone's kind (R59), for a
kind that is not defined, marks out of order, a kind other than that of the plates in it, or a capacity below its stock; with
every value as held it changes nothing. RESTOCK_CONFIRM
moves plates of the cabinet's kind from CLEAN into its stock, as many as the number, CLEAN and the room in the cabinet allow,
and answers with their number; the open task closes as confirmed; no other ware, no total and no other cabinet's stock changes.
The SHORT courses that list the cabinet then have their passes run again in fire order (R141), and the restock test follows. -/
def Obligations.CabinetsAreSetAndRestocked : Prop :=
  (∀ (t : Transfer) (z : ZoneId) (r : Zone) (c : Cabinet) (k : WareId) (capacity low high : Nat) (s : State),
     ZoneJudged t z r s → s.cabinet? z = some c → (1 ≤ capacity ∧ capacity ≤ 400 ∧ low ≤ 399 ∧ 1 ≤ high ∧ high ≤ 400) →
     let cmd := Instr.cabinetSet t z.val k.val capacity low high
     (∀ y i a b d : Nat, 31 < y ∨ 7 < i ∨ a < 1 ∨ 400 < a ∨ 399 < b ∨ d < 1 ∨ 400 < d →
       exec (.cabinetSet t y i a b d) s = .next (refusedWith t .range s)) ∧
     (∀ y, s.zones.get y = none → exec (.cabinetSet t y.val k.val capacity low high) s = .next (refusedWith t .notFound s)) ∧
     (∀ y v, s.zones.get y = some v → ¬ Permitted t [v.kind.commandedBy] s →
       exec (.cabinetSet t y.val k.val capacity low high) s = .next (refusedWith t .denied s)) ∧
     (∀ y v, s.zones.get y = some v → v.kind.commandedBy = r.kind.commandedBy → s.cabinet? y = none →
       exec (.cabinetSet t y.val k.val capacity low high) s = .next (refusedWith t .state s)) ∧
     let ordered := low < high ∧ high ≤ capacity
     let holds := (c.stock = 0 ∨ c.kind = some k) ∧ c.stock ≤ capacity
     let same := c.kind = some k ∧ c.capacity = capacity ∧ c.low = low ∧ c.high = high
     ((s.wares.get k).defined = false → exec cmd s = .next (refusedWith t .notFound s)) ∧
     ((s.wares.get k).defined = true →
       (¬ ordered → exec cmd s = .next (refusedWith t .range s)) ∧
       (ordered → ¬ holds → exec cmd s = .next (refusedWith t .state s)) ∧
       (ordered → holds → same → exec cmd s = .next (answered t .ok [] (heard t s))) ∧
       (ordered → holds → ¬ same → ∃ w, exec cmd s = .next (answered t .ok [] w) ∧ StockOnly (heard t s) w ∧
         w.cabinet? z = some { c with kind := some k, capacity := capacity, low := low, high := high } ∧
         (∀ y, y ≠ z → w.zones.get y = s.zones.get y) ∧
         (s.task? z ≠ none → Noticed .restockTask z.val 3 s w) ∧
         let rest := s.restock.filter fun q => q.cabinet ≠ z
         (r.state = .off ∨ r.state = .fault → w.restock = rest) ∧
         (r.state ≠ .off → r.state ≠ .fault →
           TaskTest z { c with kind := some k, capacity := capacity, low := low, high := high } { s with restock := rest } w)))) ∧
  ∀ (t : Transfer) (z : ZoneId) (n : Nat) (s : State), Judged t [.warewash] s → 1 ≤ n → n ≤ 400 →
    (∀ y m, 31 < y ∨ m < 1 ∨ 400 < m → exec (.restockConfirm t y m) s = .next (refusedWith t .range s)) ∧
    (s.zones.get z = none → exec (.restockConfirm t z.val n) s = .next (refusedWith t .notFound s)) ∧
    (s.zones.get z ≠ none → (∀ c ∈ s.cabinet? z, c.kind = none) →
      exec (.restockConfirm t z.val n) s = .next (refusedWith t .state s)) ∧
    ∀ (c : Cabinet) (k : WareId), s.cabinet? z = some c → c.kind = some k → let w := s.wares.get k
    let m := min n (min w.clean (c.capacity - c.stock))
    (m = 0 → exec (.restockConfirm t z.val n) s = .next (refusedWith t .empty s)) ∧
    (m ≠ 0 → ∃ u, exec (.restockConfirm t z.val n) s = .next (answered t (okOr (decide (m < n))) (bigEndian 2 m) u) ∧
      ServiceOnly (heard t s) u ∧ u.wares = s.wares.set k { w with clean := w.clean - m } ∧
      (∃ c', u.cabinet? z = some c' ∧ c' = { c with stock := c.stock + m, reserved := c'.reserved } ∧
        (cabinetLaw s → courseLaw s → c'.reserved = heldOn u z) ∧
        (let due := s.zoneState z ≠ .off ∧ s.zoneState z ≠ .fault ∧ c'.stock - c'.reserved < c'.low
         (¬ due → u.task? z = none) ∧
         (due → u.task? z = some {
             cabinet := z, kind := k, wanted := max 1 (c'.high - c'.stock), paged := decide (m < w.clean)
             opened := s.time.clock } ∧
           (m < w.clean → PagedOrFull 48 z.val u) ∧ Noticed .restockTask z.val (if m < w.clean then 1 else 0) s u))) ∧
      u.courses.order = s.courses.order ∧
      (courseLaw s → ∀ d, u.course? d = (Ledger.reruns s s.courses.order { s.ledger with
        plates := fun y => if y = z ∧ s.zoneState z = .ready then c.stock + m - c.reserved else s.ledger.plates y } z).course d) ∧
      (∀ y c', y ≠ z → u.cabinet? y = some c' → ∃ b, s.cabinet? y = some b ∧ c'.stock = b.stock ∧ c'.kind = b.kind) ∧
      (s.task? z ≠ none → Noticed .restockTask z.val 2 s u))

/-! ### Banquet courses (08) -/

/-- R138 to R140: COURSE_FIRE takes the lowest FREE slot, joins the fire order's tail and reserves: walking the cabinets of its
kind that it lists, in the list's order or with an empty list by number, it takes at each READY one min(available, need), to 6
entries. It is SHORT exactly when plates are still needed, and its reply tells how it stands. No plate moves. Operands out of
range, an undefined kind and a full table refuse it. -/
def Obligations.CourseFireReserves : Prop :=
  ∀ (t : Transfer) (room covers group : Nat) (k : WareId) (g : PageGroup) (cs : List ZoneId) (s : State),
    Judged t [.banquet] s → room ≤ 63 → 1 ≤ covers → covers ≤ 2000 → PageGroup.ofCode? group = some g → cs.Nodup →
    cs.length ≤ 6 → let cmd := Instr.courseFire t room k.val covers group (cs.map (·.val))
    (∀ (a b d f : Nat) (l : List Nat), 63 < a ∨ 7 < b ∨ d < 1 ∨ 2000 < d ∨ PageGroup.ofCode? f = none ∨ 6 < l.length ∨
      ¬ l.Nodup ∨ (∃ x ∈ l, 31 < x) → exec (.courseFire t a b d f l) s = .next (refusedWith t .range s)) ∧
    ((s.wares.get k).defined = false → exec cmd s = .next (refusedWith t .notFound s)) ∧
    ((s.wares.get k).defined = true → (∀ c, s.course? c ≠ none) → exec cmd s = .next (refusedWith t .full s)) ∧
    ((s.wares.get k).defined = true → ∀ c : CourseId, s.course? c = none → (∀ b, b < c → s.course? b ≠ none) →
      let entries := entriesAfter s.ledger.plates (walkedBy s k cs) covers []
      let total := (entries.map (·.2)).sum
      let short := decide (total < covers)
      ∃ w, exec cmd s = .next (answered t .ok
          (bigEndian 1 c.val ++ bigEndian 1 (if short then 2 else 1) ++ bigEndian 2 total ++ bigEndian 2 (covers - total)) w) ∧
        ServiceOnly (heard t s) w ∧ w.wares = s.wares ∧ w.courses.order = s.courses.order ++ [c] ∧
        w.course? c = some { short := short, room := room, kind := k, covers := covers, plated := 0, group := g, cabinets := cs,
                             entries := entries, fired := s.time.clock } ∧
        total ≤ covers ∧ entries.length ≤ 6 ∧ (entries.map (·.1)).Nodup ∧
        (∀ e ∈ entries, ∃ z ∈ s.zones.get e.1, ∃ b ∈ z.cabinet, z.kind = .warmer ∧ z.state = .ready ∧ b.kind = some k ∧
          1 ≤ e.2 ∧ e.2 ≤ b.stock - b.reserved ∧ (cs = [] ∨ e.1 ∈ cs)) ∧
        (short = true → entries.length < 6 → ∀ z ∈ walkedBy s k cs, s.zoneState z = .ready →
          ∀ b, w.cabinet? z = some b → b.stock ≤ b.reserved) ∧
        (∀ z, w.cabinet? z = (s.cabinet? z).map fun a => { a with reserved := a.reserved + heldIn entries z }) ∧
        (∀ d, d ≠ c → w.course? d = s.course? d) ∧ (short = true → pageLaw s → PagedOrFull 32 c.val w) ∧
        Noticed .courseState c.val (if short then 2 else 1) s w)

/-- R142 to R144: COURSE_PLATED draws plates from the course's entries in their order, as many as are reserved, answers with
their number and the plated count, and completes the course at its covers; each plate leaves the stock and the reserved count of
its entry's cabinet for OUT of the cabinet's kind. COURSE_CLOSE gives up every plate that a course has reserved, frees its slot,
sends the clearing event of COURSE_SHORT where it was SHORT, closing its page, and answers with the number released and the
plated count; the plates stay in their cabinets, and for each cabinet released, in entry order, the SHORT courses that list it
have their passes run again (R141), then its restock test is made; where neither finds anything to do, the clearing event is all
that becomes of the pages and the staff. A FREE slot is refused with NOT_FOUND. -/
def Obligations.CoursesArePlatedAndClosed : Prop :=
  (∀ (t : Transfer) (c : CourseId) (n : Nat) (s : State), Judged t [.banquet] s → 1 ≤ n → n ≤ 2000 →
     (∀ d m, 15 < d ∨ m < 1 ∨ 2000 < m → exec (.coursePlated t d m) s = .next (refusedWith t .range s)) ∧
     (∀ d, 15 < d → exec (.courseClose t d) s = .next (refusedWith t .range s)) ∧
     (s.course? c = none → exec (.coursePlated t c.val n) s = .next (refusedWith t .notFound s)) ∧
     ∀ r, s.course? c = some r → let reserved := (r.entries.map (·.2)).sum
     let m := min n reserved
     let left := entriesDrawn m r.entries
     (reserved = 0 → exec (.coursePlated t c.val n) s = .next (refusedWith t .empty s)) ∧
     (reserved ≠ 0 → cabinetLaw s → courseLaw s → ∃ w, exec (.coursePlated t c.val n) s =
         .next (answered t (okOr (decide (reserved < n))) (bigEndian 2 m ++ bigEndian 2 (r.plated + m)) w) ∧
       ServiceOnly (heard t s) w ∧
       w.wares = s.wares.set r.kind { s.wares.get r.kind with out := (s.wares.get r.kind).out + m } ∧
       (∀ d, d ≠ c → w.course? d = s.course? d) ∧
       (r.plated + m = r.covers → w.course? c = none ∧ w.courses.order = s.courses.order.filter (· ≠ c) ∧
         Noticed .courseState c.val 3 s w) ∧
       (r.plated + m ≠ r.covers → w.courses.order = s.courses.order ∧
         w.course? c = some { r with plated := r.plated + m, entries := left }) ∧
       (left.map (·.2)).sum + m = reserved ∧
       ∀ z, w.cabinet? z = (s.cabinet? z).map fun a =>
         let drawn := heldIn r.entries z - heldIn left z
         { a with stock := a.stock - drawn, reserved := a.reserved - drawn })) ∧
  ∀ (t : Transfer) (c : CourseId) (s : State), Judged t [.banquet] s →
    (s.course? c = none → exec (.courseClose t c.val) s = .next (refusedWith t .notFound s)) ∧
    ∀ r, s.course? c = some r → ∃ w, exec (.courseClose t c.val) s =
        .next (answered t .ok (bigEndian 2 (r.entries.map (·.2)).sum ++ bigEndian 2 r.plated) w) ∧
      ServiceOnly (heard t s) w ∧ w.wares = s.wares ∧ w.course? c = none ∧
      w.courses.order = s.courses.order.filter (· ≠ c) ∧
      (∀ d, w.course? d ≠ none ↔ d ≠ c ∧ s.course? d ≠ none) ∧
      (∀ z, ∃ reserved, w.cabinet? z = (s.cabinet? z).map (fun a => { a with reserved := reserved }) ∧
        (cabinetLaw s → courseLaw s → s.cabinet? z ≠ none → reserved = heldOn w z)) ∧
      (courseLaw s →
        let released : Ledger := {
          course := fun d => if d = c then none else s.course? d
          plates := fun z => match s.cabinet? z with
            | some a => if s.zoneState z = .ready then a.stock - (a.reserved - heldIn r.entries z) else 0
            | none => 0 }
        ∀ d, w.course? d = ((r.entries.map (·.1)).foldl (Ledger.reruns s w.courses.order) released).course d) ∧
      (r.short = true → ∀ p,
        ((heard t s).desk.pages.find? fun p => p.closure = .event ∧ p.cause = 32 ∧ p.object = c.val) = some p →
          (∀ q ∈ w.desk.pages, q.cause = 32 → q.object = c.val → q.id ≠ p.id) ∧
          Noticed .pageClosed p.id.val (2 * 256 + 32) s w) ∧
      ((∀ d q, d ≠ c → s.course? d = some q → q.short = false) →
        (∀ e ∈ r.entries, ∀ a ∈ s.cabinet? e.1,
          s.task? e.1 ≠ none ∨ a.low ≤ a.stock - (a.reserved - heldIn r.entries e.1)) →
        let u := if r.short then clearEvent .courseShort c.val (heard t s) else heard t s
        w.desk = u.desk ∧ w.roster = u.roster) ∧
      Noticed .courseState c.val 4 s w

/-! ### Staff and paging (09) -/

/-- R152: STAFF_SET gives an OFF_DUTY entry its address, role and group; it is refused with RANGE for an entry, role or group
out of range and with STATE on duty. No page changes. -/
def Obligations.StaffSetNeedsOffDuty : Prop :=
  ∀ (t : Transfer) (entry address role group : Nat) (s : State), Listening t s → address ≤ 65535 → let h := heard t s
    exec (.staffSet t entry address role group) s = .next (
      if ¬ Permitted t [.banquet, .warewash] s then refusedWith t .denied s
      else
        match index? 64 entry, StaffRole.ofCode? role, index? 8 group with
        | some e, some r, some g =>
          if (h.staff e).duty = .offDuty then
            answered t .ok [] (h.setStaff e { h.staff e with address := address, role := r, group := g })
          else refusedWith t .state s
        | _, _, _ => refusedWith t .range s)

/-- R153 and R154: STAFF_DUTY ON frees an OFF_DUTY entry at the tail of its role's list; OFF takes any other entry off duty, its
pages going back to QUEUED without a target, a cancel request standing for an OFFERED one; and each leaves an entry that is so
already. An entry above 63 is refused with RANGE and an unused one with NOT_FOUND, whatever the setting byte. Which of ON and
OFF a byte other than 1 and 0 gives is free (notes/assumptions/14.md). -/
def Obligations.StaffDutyOnAndOff : Prop :=
  ∀ (t : Transfer) (e : EntryId) (s : State), Judged t [.banquet, .warewash] s → let h := heard t s
    let m := h.staff e
    (∀ n d, 63 < n → exec (.staffDuty t n d) s = .next (refusedWith t .range s)) ∧
    (m.address = 0 → ∀ d, exec (.staffDuty t e.val d) s = .next (refusedWith t .notFound s)) ∧
    (∀ d, exec (.staffDuty t e.val d) s = exec (.staffDuty t e.val 0) s ∨
      exec (.staffDuty t e.val d) s = exec (.staffDuty t e.val 1) s) ∧
    (m.address ≠ 0 →
      (m.duty ≠ .offDuty → exec (.staffDuty t e.val 1) s = .next (answered t .ok [] h)) ∧
      (m.duty = .offDuty → exec (.staffDuty t e.val 0) s = .next (answered t .ok [] h)) ∧
      (m.duty = .offDuty → exec (.staffDuty t e.val 1) s = .next (answered t .ok []
        ((h.setStaff e { m with duty := .free, current := none, suspended := none }).setFree m.role
          (h.freeList m.role ++ [e])))) ∧
      (m.duty ≠ .offDuty → ∃ w, exec (.staffDuty t e.val 0) s = .next (answered t .ok [] w) ∧ PagingOnly h w ∧
        w.staff e = { m with duty := .offDuty, current := none, suspended := none } ∧ (∀ d, d ≠ e → w.staff d = h.staff d) ∧
        w.freeList m.role = (h.freeList m.role).filter (· ≠ e) ∧
        w.desk.pages = (h.desk.pages.map fun p =>
          if some p.id = m.current ∨ some p.id = m.suspended then
            { p with state := .queued, target := none, ackTimer := none }
          else p) ∧
        ∀ id p, m.current = some id → h.page? id = some p → id ∉ w.desk.reoffers ∧
          (p.state = .offered → ({ page := id, address := m.address } : CancelRequest) ∈ w.desk.cancels)))

/-- R158 and R159: PAGE_SEND makes a page at the tail of the queue with the first free id, its fields those given, of source G5;
a full queue refuses it. PAGE_LEVELS and PAGE_TIMING store their settings and change no live page and no running timer. -/
def Obligations.PageSendAndSettings : Prop :=
  ∀ (t : Transfer) (s : State), Listening t s → let h := heard t s
    let id := freePageId h.desk
    (∀ role group closure code object, exec (.pageSend t role group closure code object) s = .next (
      match StaffRole.ofCode? role, PageGroup.ofCode? group, Closure.ofCode? closure with
      | some r, some g, some c =>
        if code < 128 ∨ 255 < code ∨ 255 < object then refusedWith t .range s
        else if 32 ≤ h.desk.pages.length then refusedWith t .full s
        else answered t .ok (bigEndian 1 id.val) { h with desk := { h.desk with
          nextId := id + 1
          pages := h.desk.pages ++ [{
            id := id, source := 5, cause := code, object := object, role := r, group := g, level := h.desk.levels.get 5
            closure := c, state := .queued, target := none, step := 0, excluded := none, ackTimer := none
            created := s.time.clock }] } }
      | _, _, _ => refusedWith t .range s)) ∧
    (∀ a b c d e f, exec (.pageLevels t a b c d e f) s = .next (
      if ¬ Permitted t [.banquet] s then refusedWith t .denied s
      else if a ≤ 3 ∧ b ≤ 3 ∧ c ≤ 3 ∧ d ≤ 3 ∧ e ≤ 3 ∧ f ≤ 3 then
        answered t .ok [] { h with desk := { h.desk with levels := ⟨[a, b, c, d, e, f], rfl⟩ } }
      else refusedWith t .range s)) ∧
    ∀ n, exec (.pageTiming t n) s = .next (
      if ¬ Permitted t [.banquet] s then refusedWith t .denied s
      else if n ≤ 23 then answered t .ok [] { h with desk := { h.desk with ackSetting := n } }
      else refusedWith t .range s)

/-- R155 to R157: a new page takes the first id from the counter on that no live page holds. A cause raised makes one page of
its fields at the tail, none where a live page has its code and object, and in a full queue drops the youngest QUEUED page of
the lowest QUEUED level where that is below its own, or else is dropped itself with its notice. -/
def Obligations.RaisedCauseMakesOnePage : Prop :=
  ∀ (c : Cause) (g : PageGroup) (o : Nat) (s : State), s.desk.pages.length ≤ 32 → let w := raise c g o s
    let d := s.desk
    let fresh (id : PageId) : Page :=
      { id := id, source := c.source, cause := c.code, object := o, role := c.role, group := g, level := d.levels.get c.source,
        closure := c.closure, state := .queued, target := none, step := 0, excluded := none, ackTimer := none,
        created := s.time.clock }
    ((∀ p ∈ d.pages, p.id ≠ freePageId d) ∧ ∃ i < 256, freePageId d = d.nextId + Fin.ofNat 256 i ∧
      ∀ j < i, ∃ p ∈ d.pages, p.id = d.nextId + Fin.ofNat 256 j) ∧
    ((∃ p ∈ d.pages, p.cause = c.code ∧ p.object = o) → w = s) ∧
    ((∀ p ∈ d.pages, p.cause = c.code → p.object ≠ o) →
      (d.pages.length < 32 →
        w = { s with desk := { d with pages := d.pages ++ [fresh (freePageId d)], nextId := freePageId d + 1 } }) ∧
      (d.pages.length = 32 → (d.pages.map (·.id)).Nodup →
        ((∀ p ∈ d.pages, p.state = .queued → d.levels.get c.source ≤ p.level) → w = post .pageDropped c.code o s) ∧
        ∀ a b out, d.pages = a ++ out :: b → out.state = .queued → out.level < d.levels.get c.source →
          (∀ p ∈ d.pages, p.state = .queued → out.level ≤ p.level) → (∀ p ∈ b, p.state = .queued → p.level ≠ out.level) →
          ∃ id, w.desk.pages = a ++ b ++ [fresh id] ∧ Noticed .pageClosed out.id.val (4 * 256 + out.cause) s w))

/-- R166 and R167: PAGE_DONE closes a live TASK or EVENT page from every state, and a clearing event closes the live EVENT page
of its cause and object: a cancel request stands for an OFFERED page, and the target of an OFFERED or ACCEPTED one is released.
PAGE_DONE is refused with NOT_FOUND without a live page and with STATE for an INFO page. -/
def Obligations.PageDoneAndClearingEventsClose : Prop :=
  (∀ (t : Transfer) (n : Nat) (s : State), Judged t allRoles s → let h := heard t s
    ((∀ p ∈ h.desk.pages, p.id.val ≠ n) → exec (.pageDone t n) s = .next (refusedWith t .notFound s)) ∧
    ∀ (id : PageId) (p : Page), id.val = n → h.page? id = some p →
      (p.closure = .info → exec (.pageDone t n) s = .next (refusedWith t .state s)) ∧
      (p.closure ≠ .info → exec (.pageDone t n) s = .next (answered t .ok [] (retirePage p .done h)))) ∧
  (∀ (c : Cause) (o : Nat) (p : Page) (s : State),
    (s.desk.pages.find? fun p => p.closure == .event && p.cause == c.code && p.object == o) = some p →
      clearEvent c o s = retirePage p .event s) ∧
  ∀ (p : Page) (x : Outcome) (s : State), let w := retirePage p x s
    PagingOnly s w ∧ Closed p x s w ∧
    (p.state = .queued → w.roster = s.roster) ∧
    ∀ e, p.target = some e →
      (p.state = .offered → Released e s w ∧
        ({ page := p.id, address := (s.staff e).address } : CancelRequest) ∈ w.desk.cancels) ∧
      (p.state = .accepted → Released e s w ∧ w.desk.cancels = s.desk.cancels) ∧
      (p.state = .suspended → w.staff e = { s.staff e with suspended := none })

/-- R165: an OFFERED page whose ack timer expires, or whose PAGE is UNREACHABLE, acts by its step: it is offered again to the
same entry; it goes back to QUEUED excluding that entry; it does so for any CAPTAIN; it closes UNANSWERED. Its target is
released but in the first. A timer that does not run cannot expire (notes/assumptions/3.md). -/
def Obligations.AckExpiryEscalates : Prop :=
  ∀ (p : Page) (e : EntryId) (s : State), Quiet s → pageLaw s → s.page? p.id = some p → p.state = .offered →
    p.target = some e → (s.staff e).suspended ≠ some p.id → let w := ackExpiry p s
    (exec (.ackTimerExpiry p.id) s = .next (if p.ackTimer = none then s else w)) ∧
    (p.step = 0 → w = { s with desk := { s.desk with
      pages := s.desk.pages.map fun q => if q.id = p.id then { q with step := 1, ackTimer := none } else q
      reoffers := s.desk.reoffers ++ [p.id] } }) ∧
    (p.step = 1 → PagingOnly s w ∧ Released e s w ∧
      Requeued { p with state := .queued, target := none, ackTimer := none, step := 2, excluded := some e } s w) ∧
    (p.step = 2 → PagingOnly s w ∧ Released e s w ∧
      Requeued { p with
        state := .queued, target := none, ackTimer := none, step := 3, role := .captain, group := .any
        excluded := some e } s w) ∧
    (3 ≤ p.step → PagingOnly s w ∧ Released e s w ∧ Closed p .unanswered s w)

/-! ### The pager link (09 section 9.6, 10) -/

/-- R160 to R162: a page's candidate is the matching entry that has been FREE the longest; with none, a page of level 3 preempts
among the matching ASSIGNED entries with nothing suspended and a page of level 2 or less the one whose page has the lowest
level, the longest assigned among equals. A free link is granted to the oldest cancel request, else the oldest re-offer, else
the QUEUED page of the highest level, lowest source group and greatest age (R155 keeps the queue in order of age) that has a
candidate, which goes on offer to it, a preempted page being SUSPENDED; each grant makes its message the outstanding one. A link
that is DOWN or busy is granted to none, as is a grant out of its turn (notes/assumptions/7.md). The arbiter grants at once:
every command but the resets and the grants themselves is taken behind the grant that is due, and finds none due
(notes/assumptions/1.md). -/
def Obligations.ArbiterGrantsInOrder : Prop :=
  ∀ s : State, s.running = true →
    let free := s.link.up = true ∧ s.link.outstanding = .none
    let sent (o : Outstanding) (frame : List Byte) : Link :=
      { s.link with outstanding := o, transmitting := frame, responseTimer := none }
    (∀ p : Page,
      let fits (e : EntryId) : Prop :=
        (s.staff e).role = p.role ∧ (∀ g, p.group = .group g → (s.staff e).group = g) ∧ p.excluded ≠ some e
      let holds (e : EntryId) (level : Nat) : Prop :=
        ∃ i q, (s.staff e).current = some i ∧ s.page? i = some q ∧ q.level = level
      let yields (e : EntryId) : Prop :=
        fits e ∧ (s.staff e).duty = .assigned ∧ (s.staff e).suspended = none ∧ ∃ level, holds e level ∧ level ≤ 2
      (∀ front e back, s.freeList p.role = front ++ e :: back → fits e → (∀ d ∈ front, ¬ fits d) → candidate s p = some e) ∧
      ((∀ e ∈ s.freeList p.role, ¬ fits e) →
        (p.level ≠ 3 ∨ (∀ e, ¬ yields e) → candidate s p = none) ∧
        (p.level = 3 → (∃ e, yields e) → ∃ e, candidate s p = some e ∧ yields e ∧
          ∀ d a b, yields d → holds e a → holds d b → a < b ∨ (a = b ∧ (s.staff e).since ≤ (s.staff d).since)))) ∧
    (nextOffer s = none ↔ ∀ p ∈ s.desk.pages, p.state = .queued → candidate s p = none) ∧
    (∀ (i : Instr) (u : State), isReset i = false → i ≠ .cancel → i ≠ .reOffer → i ≠ .offer →
      (∀ id ∈ s.desk.reoffers, ∃ p e, s.page? id = some p ∧ p.target = some e) → arbiterActs s = .next u →
        Quiet u ∧ exec i s = exec i u) ∧
    (¬ free → exec .cancel s = .next s ∧ exec .reOffer s = .next s ∧ exec .offer s = .next s) ∧
    (s.desk.cancels = [] → exec .cancel s = .next s) ∧
    (s.desk.cancels ≠ [] ∨ s.desk.reoffers = [] → exec .reOffer s = .next s) ∧
    (s.desk.cancels ≠ [] ∨ s.desk.reoffers ≠ [] ∨ nextOffer s = none → exec .offer s = .next s) ∧
    (∀ r rest, free → s.desk.cancels = r :: rest → exec .cancel s = .next { s with
      desk := { s.desk with cancels := rest }, link := sent (.cancel r.page r.address) (cancelFrame r.page.val r.address) }) ∧
    (∀ id rest p e, free → s.desk.cancels = [] → s.desk.reoffers = id :: rest → s.page? id = some p → p.target = some e →
      exec .reOffer s = .next { s with
        desk := { s.desk with reoffers := rest }
        link := sent (.page p.id (s.staff e).address)
          (pageFrame p.id.val (s.staff e).address p.cause p.object p.level) }) ∧
    ∀ p e, free → s.desk.cancels = [] → s.desk.reoffers = [] → nextOffer s = some (p, e) → pageLaw s → staffLaw s →
      let m := s.staff e
      (∃ older younger, s.desk.pages = older ++ p :: younger ∧ ∀ q ∈ older, q.state = .queued → candidate s q ≠ none →
        q.level ≠ p.level ∨ q.source ≠ p.source) ∧
      p.state = .queued ∧ candidate s p = some e ∧
      (∀ q ∈ s.desk.pages, q.state = .queued → candidate s q ≠ none →
        q.level < p.level ∨ (q.level = p.level ∧ p.source ≤ q.source)) ∧
      ∃ w, exec .offer s = .next w ∧
        w = { s with desk := { s.desk with pages := w.desk.pages }, roster := w.roster
                     link := sent (.page p.id m.address) (pageFrame p.id.val m.address p.cause p.object p.level) } ∧
        w.page? p.id = some { p with state := .offered, target := some e, ackTimer := none } ∧
        (∀ d, d ≠ e → w.staff d = s.staff d) ∧
        (m.duty = .free → w.staff e = { m with duty := .paged, current := some p.id } ∧
          w.freeList m.role = (s.freeList m.role).filter (· ≠ e)) ∧
        ∀ q, m.duty = .assigned → m.current = some q →
          w.staff e = { m with duty := .paged, current := some p.id, suspended := some q } ∧
          ∀ r ∈ w.desk.pages, r.id = q → r.state = .suspended

/-- R162, R173, R174 and R175: the last byte's leaving starts the response timer with 200 ticks; SENT ends a PAGE or CANCEL of
its id, starting the ack timer of a page still on offer to the address; UNREACHABLE ends a PAGE and is an expiry of its ack
timer; any other is stale and changes nothing else. A transmission that is not under way cannot end (notes/assumptions/3.md).
That what is left of a frame is dropped when the station ends its message is the model's choice (notes/assumptions/23.md). -/
def Obligations.StationEndsTheMessage : Prop :=
  ∀ (id : PageId) (s : State), Quiet s →
    let ended := { s with link := { s.link with
      outstanding := .none, transmitting := [], responseTimer := none, timeouts := 0 } }
    let stale := { s with link := { s.link with stale := min 65535 (s.link.stale + 1) } }
    let onOffer (a : Nat) (p : Page) : Prop := s.page? id = some p ∧ p.state = .offered ∧
      ∃ e, p.target = some e ∧ (s.staff e).address = a
    exec .transmitComplete s = .next (
      if s.link.outstanding ≠ .none ∧ s.link.transmitting ≠ [] then
        { s with link := { s.link with transmitting := [], responseTimer := some 200 } }
      else s) ∧
    (∀ a, s.link.outstanding = .page id a →
      ((∀ p, ¬ onOffer a p) → exec (.sent id) s = .next ended ∧ exec (.unreachable id) s = .next ended) ∧
      ∀ p, onOffer a p → exec (.unreachable id) s = .next (ackExpiry p ended) ∧
        exec (.sent id) s = .next { ended with desk := { s.desk with pages := s.desk.pages.map fun q =>
          if q.id = id then { q with ackTimer := some (1000 * (s.desk.ackSetting + 1)) } else q } }) ∧
    (∀ a, s.link.outstanding = .cancel id a →
      exec (.sent id) s = .next ended ∧ exec (.unreachable id) s = .next stale) ∧
    ((∀ a, s.link.outstanding ≠ .page id a) → (∀ a, s.link.outstanding ≠ .cancel id a) →
      exec (.sent id) s = .next stale ∧ exec (.unreachable id) s = .next stale)

/-- R164, R177 and R178: an ACK from the address of the page's target is taken for it: ACCEPT closes an INFO page and makes any
other ACCEPTED, its target ASSIGNED to it; DECLINE puts it back excluding its target and DONE closes it; in all but that second
case the target is released. Otherwise the answer is late, with its notice, where the page lives, and stale where it does not or
the answer is none of the three. -/
def Obligations.AcknowledgementsAreSorted : Prop :=
  ∀ (id : PageId) (a x : Nat) (s : State), Quiet s →
    let stale := { s with link := { s.link with stale := min 65535 (s.link.stale + 1) } }
    let late := post .lateAck id.val a { s with link := { s.link with late := min 65535 (s.link.late + 1) } }
    ((s.page? id = none ∨ x = 0 ∨ 3 < x) → exec (.ack id a x) s = .next stale) ∧
    ∀ p, s.page? id = some p → 1 ≤ x → x ≤ 3 →
      let fits := ∃ e, p.target = some e ∧ (s.staff e).address = a ∧ (p.state = .offered ∨ (x = 3 ∧ p.state = .accepted))
      (¬ fits → exec (.ack id a x) s = .next late) ∧
      (fits → pageLaw s → ∀ e, p.target = some e → (s.staff e).suspended ≠ some id →
        ∃ w, exec (.ack id a x) s = .next w ∧ PagingOnly s w ∧ w.desk.cancels = s.desk.cancels ∧
          (x = 1 → p.closure = .info → Closed p .acceptedInfo s w ∧ Released e s w) ∧
          (x = 1 → p.closure ≠ .info → id ∉ w.desk.reoffers ∧
            w.page? id = some { p with state := .accepted, ackTimer := none } ∧
            w.staff e = { s.staff e with duty := .assigned, current := some id, since := s.roster.nextStamp } ∧
            ∀ d, d ≠ e → w.staff d = s.staff d) ∧
          (x = 2 → Released e s w ∧ Requeued { p with
            state := .queued, target := none, ackTimer := none, step := max 2 p.step, excluded := some e } s w) ∧
          (x = 3 → Closed p .done s w ∧ Released e s w))

/-- R172, R175 and R176: ALIVE brings a DOWN link UP and is stale on an UP one; garbled messages and gaps are counted, and a gap
outside a message is none; the response timer's expiry ends the message, withdraws its page or returns its cancel request, and
at the third in a row takes the link DOWN with a PROBE; the probe timer's expiry sends a PROBE. A timer that does not run cannot
expire (notes/assumptions/3.md). That ALIVE and the timeout drop what is left of the frame being sent is the model's choice
(notes/assumptions/23.md). -/
def Obligations.LinkGoesDownAndComesUp : Prop :=
  ∀ s : State, Quiet s → let l := s.link
    let probing (l : Link) : Link :=
      { l with outstanding := .probe, transmitting := probeFrame, responseTimer := none, probeTimer := some 1000 }
    let garbled := { s with link := { l with garbled := min 65535 (l.garbled + 1), received := [], rxGap := 0 } }
    (l.up = true → exec .alive s = .next { s with link := { l with stale := min 65535 (l.stale + 1) } }) ∧
    (l.up = false → exec .alive s = .next (post .linkState 0 1 { s with link := { l with
      up := true, timeouts := 0, probeTimer := none, responseTimer := none, outstanding := .none, transmitting := [] } })) ∧
    (∀ cause, exec (.garbledMessage cause) s = .next garbled) ∧
    exec .receiveGap s = .next (if l.received = [] then s else garbled) ∧
    exec .probeTimerExpiry s = .next (
      if l.probeTimer ≠ none ∧ l.up = false then { s with link := probing l } else s) ∧
    (l.responseTimer = none → exec .responseTimerExpiry s = .next s) ∧
    (l.responseTimer ≠ none → let ended := { l with outstanding := .none, transmitting := [], responseTimer := none }
      let counted := { s with link := { ended with timeouts := l.timeouts + 1 } }
      let goesOn (w : State) : State := if l.timeouts + 1 < 3 then w
        else let d := post .linkState 0 0 { w with link := { w.link with up := false } }
          { d with link := probing d.link }
      (l.up = false → exec .responseTimerExpiry s = .next { s with link := ended }) ∧
      (l.up = true →
        (∀ i a, l.outstanding = .cancel i a → exec .responseTimerExpiry s = .next (goesOn (
          if s.desk.cancels.length < 32 then
            { counted with desk := { s.desk with cancels := { page := i, address := a } :: s.desk.cancels } }
          else counted))) ∧
        ∀ i a, l.outstanding = .page i a →
          ((∀ p, s.page? i = some p → p.state = .offered → ∀ e, p.target = some e → (s.staff e).address ≠ a) →
            exec .responseTimerExpiry s = .next (goesOn counted)) ∧
          ∀ p e, s.page? i = some p → p.state = .offered → p.target = some e → (s.staff e).address = a → pageLaw s →
            (s.staff e).suspended ≠ some i → ∃ w, exec .responseTimerExpiry s = .next (goesOn w) ∧ PagingOnly counted w ∧
              Released e s w ∧ Requeued { p with state := .queued, target := none, ackTimer := none } s w ∧
              w.desk.cancels = s.desk.cancels))

/-! ### Reading (all chapters) -/

/-- Each chapter's queries: taken with OK from every role (PROGRAM_QUERY from the zone's), each answers with its data as they
stand, written out here byte by byte from its rule and R190, and changes nothing; a number out of range is refused with RANGE, and a position, entry or page that is not there with
NOT_FOUND. Where the manual gives no data to show it (an undefined zone, kind or cabinet, a FREE slot, a zone without a
program), the data are free (notes/assumptions/15.md); absent items and what R190 leaves open of the layouts are as
notes/assumptions/16.md and 17.md choose. -/
def Obligations.QueriesChangeNothing : Prop :=
  ∀ (t : Transfer) (s : State), Judged t allRoles s → let h := heard t s
    let tells (i : Instr) (data : List Byte) : Prop := exec i s = .next (answered t .ok data h)
    let refuses (i : Instr) (why : Status) : Prop := exec i s = .next (refusedWith t why s)
    let yes (b : Prop) [Decidable b] : List Byte := bigEndian 1 (if b then 1 else 0)
    let opt (k : Nat) : Option Nat → List Byte
      | some v => bigEndian k v
      | none => List.replicate k 0xFF
    let members (l : List Nat) : List Byte := bigEndian 1 l.length ++ (l.map (bigEndian 1)).flatten
    let group : PageGroup → List Byte
      | .group g => bigEndian 1 g.val
      | .any => [0xFF]
    let ticks : Option Nat → Nat
      | some n => n
      | none => 0
    (∀ n : LoadId, let l := s.loads.get n
      tells (.loadQuery t n.val) (
        bigEndian 1 n.val ++ bigEndian 2 l.rating ++ opt 1 (l.binding.map (·.val)) ++ bigEndian 1 l.effective.code ++
          bigEndian 1 l.resolved.code ++ bigEndian 1 l.requested ++ bigEndian 1 l.granted ++
          bigEndian 1 (l.onSlices.filter fun i => i < s.time.slice).length ++
          bigEndian 1 (l.onSlices.filter fun i => s.time.slice ≤ i).length ++ yes (s.time.slice ∈ l.onSlices) ++
          bigEndian 1 l.deficit ++ yes (l.cut = true)) ∧
      tells (.mapQuery t n.val) (
        bigEndian 1 n.val ++ bigEndian 1 l.resolved.code ++
          (match l.deciding with
            | .mapOff => [0, 0]
            | .fixed e => [1] ++ bigEndian 1 e.val
            | .window w => [2] ++ bigEndian 1 w.val
            | .default => [3, 0]) ++
          members (((List.finRange 6).filter fun w => (s.map.windows.get w).valid = true ∧
            BitVec.ofNat 6 n.val &&& (s.map.windows.get w).mask =
              (s.map.windows.get w).base &&& (s.map.windows.get w).mask).map (·.val)) ++
          bigEndian 1 l.effective.code ++ yes (l.resolved ≠ l.effective) ++ yes (s.map.enabled = true) ++
          yes (s.map.fixedEnabled = true) ++ bigEndian 1 s.map.default.code)) ∧
    tells (.frameQuery t) (
      bigEndian 2 s.time.frame ++ bigEndian 1 s.time.slice ++ bigEndian 1 s.time.sliceLength ++
        bigEndian 1 s.time.slicePending ++ bigEndian 2 s.alloc.limit ++ bigEndian 2 s.alloc.limitSetting ++
        bigEndian 1 s.alloc.shed ++ bigEndian 1 s.alloc.shedSetting ++ bigEndian 1 s.feed.state.code ++
        bigEndian 2 s.alloc.peak ++
        (allLoads.map fun n => bigEndian 1 (s.loads.get n).granted ++ yes ((s.loads.get n).cut = true)).flatten) ∧
    (let f := s.feed
     tells (.feedQuery t) (
       bigEndian 2 f.code.toNat ++ bigEndian 1 f.reading ++ bigEndian 1 f.state.code ++ bigEndian 1 f.sagThreshold ++
         bigEndian 1 f.restoreThreshold ++ bigEndian 1 f.debounce ++ bigEndian 1 f.restoreWait ++ bigEndian 1 f.sagCount ++
         bigEndian 1 f.restoreCount ++ yes (f.waitTimer ≠ none) ++ bigEndian 2 (ticks f.waitTimer) ++
         bigEndian 1 f.waitLength ++ yes (f.restoreDue = true) ++ bigEndian 2 s.time.frame ++ bigEndian 1 s.time.slice)) ∧
    (let l := s.line
     let stands (zone : Option ZoneId) (kind : ZoneKind) : Option Nat := zone.map fun z =>
       match s.zones.get z with
       | some r => if r.kind = kind then r.state.code else 0
       | none => 0
     tells (.lineQuery t) (
       yes (l.configured = true) ++ opt 1 (l.wash.map (·.val)) ++ opt 1 (l.booster.map (·.val)) ++
         opt 1 (stands l.wash .washTank) ++ opt 1 (stands l.booster .rinseBooster) ++ bigEndian 2 l.washThreshold ++
         bigEndian 2 l.rinseThreshold ++ bigEndian 1 l.enterPolarity.code ++ bigEndian 1 l.exitPolarity.code ++
         bigEndian 1 l.outPolarity.code ++ yes (l.enterLevel = true) ++ yes (l.exitLevel = true) ++ yes (l.outLevel = true) ++
         group l.group ++ yes (l.permit = true) ++ bigEndian 2 l.faults ++ members (l.racks.map (·.tag)))) ∧
    tells (.restockQuery t) (
      bigEndian 1 s.restock.length ++ ((s.restock.take 19).map fun q =>
        bigEndian 1 q.cabinet.val ++ bigEndian 1 q.kind.val ++ bigEndian 2 q.wanted ++ yes (q.paged = true) ++
          bigEndian 3 q.opened).flatten) ∧
    (let l := s.link
     tells (.linkQuery t) (
       yes (l.up = true) ++
         (match l.outstanding with
           | .none => [0] ++ opt 2 none ++ opt 3 none
           | .page i a => [1] ++ bigEndian 2 i.val ++ bigEndian 3 a
           | .cancel i a => [2] ++ bigEndian 2 i.val ++ bigEndian 3 a
           | .probe => [3] ++ opt 2 none ++ opt 3 none) ++
         bigEndian 1 (ticks l.responseTimer) ++ bigEndian 2 (ticks l.probeTimer) ++ bigEndian 1 l.timeouts ++
         bigEndian 2 l.stale ++ bigEndian 2 l.late ++ bigEndian 2 l.garbled)) ∧
    (∀ c : ChannelId, tells (.sensorQuery t c.val) (
      bigEndian 2 (s.scan.channels.get c).code.toNat ++ bigEndian 2 (s.scan.channels.get c).reading ++
        bigEndian 1 (s.scan.channels.get c).rail ++
        bigEndian 1 (if 3 ≤ (s.scan.channels.get c).rail then 1 else 0) ++
        listBytes ((allZones.filter fun z => (s.zones.get z).any fun r => r.channel = c).map (·.val)))) ∧
    (∀ z : ZoneId,
      (∀ r, s.zones.get z = some r → tells (.zoneQuery t z.val) (
        [1] ++ bigEndian 1 r.kind.code ++ bigEndian 1 r.owner.val ++ bigEndian 1 r.channel.val ++
          members (r.loads.map (·.val)) ++ bigEndian 1 r.level ++ group r.group ++ bigEndian 2 r.setpoint ++
          bigEndian 2 r.fallback ++ opt 2 r.standby ++ bigEndian 1 r.band ++ bigEndian 1 r.tolerance ++
          bigEndian 2 r.soakTime ++ bigEndian 2 r.margin ++ bigEndian 2 r.recoverLimit ++ bigEndian 2 r.active ++
          bigEndian 1 r.state.code ++ bigEndian 2 (ticks r.soakTimer) ++ bigEndian 3 (ticks r.recoverTimer) ++
          yes (r.slowRaised = true) ++ bigEndian 2 (ticks r.standbyTimer) ++ bigEndian 1 r.overCount ++
          yes (r.overArmed = true) ++ bigEndian 1 r.faultCause.code ++ bigEndian 1 r.cleanCount ++ bigEndian 1 r.duty ++
          bigEndian 2 (s.scan.channels.get r.channel).reading ++ bigEndian 1 (s.scan.channels.get r.channel).rail)) ∧
      (s.zones.get z = none → ∃ data, tells (.zoneQuery t z.val) (bigEndian 1 0 ++ data)) ∧
      (s.zones.get z = none → refuses (.cabinetQuery t z.val) .notFound) ∧
      (∀ c, s.cabinet? z = some c → let task := s.task? z
        tells (.cabinetQuery t z.val) (
          opt 1 (c.kind.map (·.val)) ++ bigEndian 2 c.capacity ++ bigEndian 2 c.low ++ bigEndian 2 c.high ++
            bigEndian 2 c.stock ++ bigEndian 2 c.reserved ++ bigEndian 2 (c.stock - c.reserved) ++
            bigEndian 1 (s.zoneState z).code ++ yes (task ≠ none) ++
            opt 1 (task.map fun q => if q.paged = true then 1 else 0) ++ opt 2 (task.map (·.wanted)))) ∧
      (s.zones.get z ≠ none → s.cabinet? z = none → ∃ data, tells (.cabinetQuery t z.val) data) ∧
      ∀ r, ZoneJudged t z r s →
        (∀ g, r.kind = .oven → r.program = some g →
          let fields (d : ProgramStep) : List Byte :=
            bigEndian 2 d.setpoint ++ bigEndian 2 d.soakTime ++ bigEndian 2 d.duration ++ bigEndian 1 d.action.code
          tells (.programQuery t z.val) (
            bigEndian 1 g.state.code ++ bigEndian 1 g.current ++ bigEndian 3 g.timer ++
              yes (g.state = .running ∧ (r.state = .ready ∨ r.state = .recover)) ++ bigEndian 1 g.lastRun ++
              bigEndian 1 g.steps.length ++ bigEndian 2 g.hold ++ (g.steps.map fields).flatten ++
              ((List.finRange 8).map fun i =>
                match g.draft.get i with
                | some d => [1] ++ fields d
                | none => [0] ++ List.replicate 7 0xFF).flatten)) ∧
        (r.kind ≠ .oven → ∃ data, tells (.programQuery t z.val) data)) ∧
    (∀ q r, s.line.racks[q]? = some r → q ≤ 11 → tells (.rackQuery t q) (
      bigEndian 1 r.tag ++ bigEndian 1 r.kind.val ++ bigEndian 1 r.count ++ bigEndian 1 r.stage.code ++
        bigEndian 2 r.washMin ++ optionalBytes 2 r.rinseMin ++ bigEndian 1 r.verdict.code ++ bigEndian 3 r.entered)) ∧
    (∀ q, q ≤ 11 → s.line.racks.length ≤ q → refuses (.rackQuery t q) .notFound) ∧
    (∀ k : WareId, let w := s.wares.get k
      let stocks := allZones.filterMap fun z => (s.cabinet? z).bind fun c => if c.kind = some k then some c.stock else none
      (w.defined = true → tells (.wareQuery t k.val) (
        bigEndian 2 w.total ++ bigEndian 2 w.soiled ++
          bigEndian 2 ((s.line.racks.filter fun r => r.kind = k).map (·.count)).sum ++ bigEndian 2 w.clean ++
          bigEndian 2 stocks.sum ++ bigEndian 2 w.out ++ bigEndian 1 stocks.length ++
          bigEndian 1 (s.restock.filter fun q => q.kind = k ∧ q.paged = false).length ++
          bigEndian 1 (s.restock.filter fun q => q.kind = k ∧ q.paged = true).length)) ∧
      (w.defined = false → ∃ data, tells (.wareQuery t k.val) data)) ∧
    (∀ c : CourseId,
      (∀ r, s.course? c = some r → let reserved := (r.entries.map (·.2)).sum
        tells (.courseQuery t c.val) (
          bigEndian 1 (if r.short = true then 2 else 1) ++ bigEndian 1 r.room ++ bigEndian 1 r.kind.val ++
            bigEndian 2 r.covers ++ bigEndian 2 r.plated ++ bigEndian 2 reserved ++
            bigEndian 2 (r.covers - r.plated - reserved) ++ group r.group ++ bigEndian 3 r.fired ++
            bigEndian 1 (s.courses.order.idxOf c) ++ members (r.cabinets.map (·.val)) ++ bigEndian 1 r.entries.length ++
            (r.entries.map fun e => bigEndian 1 e.1.val ++ bigEndian 2 e.2).flatten)) ∧
      (s.course? c = none → ∃ data, tells (.courseQuery t c.val) (bigEndian 1 0 ++ data))) ∧
    (∀ e : EntryId, let m := h.staff e
      let free := h.freeList m.role
      tells (.staffQuery t e.val) (
        bigEndian 2 m.address ++ bigEndian 1 m.role.index.val ++ bigEndian 1 m.group.val ++ bigEndian 1 m.duty.code ++
          opt 2 (m.current.map (·.val)) ++ opt 2 (m.suspended.map (·.val)) ++
          opt 1 (if e ∈ free then some (free.idxOf e) else none))) ∧
    (∀ i : PageId,
      (∀ p, h.page? i = some p → tells (.pageQuery t i.val) (
        bigEndian 1 p.id.val ++ bigEndian 1 p.source.val ++ bigEndian 1 p.cause ++ bigEndian 1 p.object ++
          bigEndian 1 p.role.index.val ++ group p.group ++ bigEndian 1 p.level ++ bigEndian 1 p.closure.code ++
          bigEndian 1 p.state.code ++ opt 1 (p.target.map (·.val)) ++ bigEndian 1 p.step ++
          opt 1 (p.excluded.map (·.val)) ++ bigEndian 2 (ticks p.ackTimer) ++ bigEndian 3 p.created ++
          yes (p.id ∈ h.desk.reoffers) ++ bigEndian 1 h.desk.pages.length ++
          bigEndian 1 (h.desk.pages.filter fun q => q.state = .queued).length ++ bigEndian 1 h.desk.cancels.length)) ∧
      (h.page? i = none → refuses (.pageQuery t i.val) .notFound)) ∧
    ∀ n, (47 < n → refuses (.loadQuery t n) .range ∧ refuses (.mapQuery t n) .range) ∧
      (31 < n → refuses (.sensorQuery t n) .range ∧ refuses (.zoneQuery t n) .range ∧ refuses (.cabinetQuery t n) .range) ∧
      (11 < n → refuses (.rackQuery t n) .range) ∧ (7 < n → refuses (.wareQuery t n) .range) ∧
      (15 < n → refuses (.courseQuery t n) .range) ∧ (63 < n → refuses (.staffQuery t n) .range) ∧
      (255 < n → refuses (.pageQuery t n) .range)

/-! ### Bytes on the wires (10 section 10.2, 11 sections 11.3 and 11.9) -/

/-- Decode and encode agree: every port command that the wires can bring, with every operand at every value its bytes admit, is
read back whole from the bytes that carry it. -/
def Obligations.PortCommandsRoundTrip : Prop :=
  ∀ (i : Instr) (t : Transfer) (roles : List Role), portCommand i = some (t, roles) → wellFormed i = true →
    t.lengthOk = true → ∃ bytes, encodeTransaction i = some (t.port, bytes) ∧ bytes.length = t.clocked ∧
      decodeTransaction t.port bytes = some i

/-- R181: nothing is taken where no byte was clocked; fill alone is a read; a length above 30, a payload cut short, a byte that
is not fill behind it, or a lone byte is a frame error; a well-formed request of a code in the table of 11 section 11.4 is a
command of the table, and one of any other code, 0xFF among them, is UNKNOWN; and a few requests written out from R190's layouts
read as they should. R171 and R172: a station message sent byte by byte to an idle receiver is taken at its last byte as the
event it is, and the receiver is idle again; with any other check byte it is garbled, as is one with any other type, at its type
byte; a byte with a framing error within a message garbles it; and in idle a byte other than the header is passed over. -/
def Obligations.BytesOnTheWiresAreJudged : Prop :=
  ((∀ p : PortId, decodeTransaction p [] = none) ∧
   (∀ (p : PortId) (n : Nat), 1 ≤ n →
     decodeTransaction p (List.replicate n 0xFF) = some (.readTransaction p n)) ∧
   (∀ (p : PortId) (b : Byte), b ≠ 0xFF → decodeTransaction p [b] = some (.frameError p 1)) ∧
   (∀ (p : PortId) (code len : Byte) (rest : List Byte), (∃ b ∈ code :: len :: rest, b ≠ 0xFF) →
     (30 < len.toNat ∨ rest.length < len.toNat ∨ ∃ b ∈ rest.drop len.toNat, b ≠ 0xFF) →
       decodeTransaction p (code :: len :: rest) = some (.frameError p (rest.length + 2))) ∧
   (∀ (p : PortId) (code : Byte) (payload : List Byte) (fill : Nat), payload.length ≤ 30 →
     let bytes := code :: byteOf payload.length :: payload ++ List.replicate fill 0xFF
     (code.toNat ∉ tableCodes → decodeTransaction p bytes = some (.unknown p (payload.length + 2 + fill))) ∧
     (code.toNat ∈ tableCodes → ∃ i t roles, decodeTransaction p bytes = some i ∧ portCommand i = some (t, roles) ∧
       t.port = p ∧ t.clocked = payload.length + 2 + fill)) ∧
   decodeTransaction 3 [0x10, 0x03, 0x2F, 0x01, 0x90, 0xFF] =
     some (.loadSet { port := 3, clocked := 6, lengthOk := true } 47 400) ∧
   decodeTransaction 1 [0x61, 0x05, 0x02, 0x03, 0x1F, 0xFF, 0xFE] =
     some (.wareAdjust { port := 1, clocked := 7, lengthOk := true } 2 3 31 (-2)) ∧
   decodeTransaction 2 [0x03, 0x03, 0x01, 0x51, 0x7F] =
     some (.clockSet { port := 2, clocked := 5, lengthOk := true } 86399)) ∧
  let run (bs : List Byte) : List Byte × List Instr :=
    bs.foldl (fun acc b => let r := receive acc.1 b false; (r.1, acc.2 ++ r.2.toList)) ([], [])
  let spoilt (frame : List Byte) (wrong : Byte) : List Byte := frame.dropLast ++ frame.getLast?.toList.map (· + wrong)
  (∀ (id : PageId) (a : Fin 65536) (x : Byte),
    let messages : List (List Byte × Instr) := [
      (linkFrame 0x81 (bigEndian 1 id.val), .sent id),
      (linkFrame 0x82 (bigEndian 1 id.val), .unreachable id),
      (linkFrame 0x83 (bigEndian 1 id.val ++ bigEndian 2 a.val ++ [x]), .ack id a.val x.toNat),
      (linkFrame 0x84 [], .alive)]
    ∀ m ∈ messages, run m.1 = ([], [m.2]) ∧
      ∀ wrong : Byte, wrong ≠ 0 → run (spoilt m.1 wrong) = ([], [.garbledMessage .badCheck])) ∧
  (∀ type : Byte, type ∉ ([0x81, 0x82, 0x83, 0x84] : List Byte) → run [0xA5, type] = ([], [.garbledMessage .badType])) ∧
  (∀ b : Byte, b ≠ 0xA5 → run [b] = ([], [])) ∧
  ∀ (soFar : List Byte) (b : Byte), soFar ≠ [] → receive soFar b true = ([], some (.garbledMessage .framingError))

/-! ### Rules of the whole part -/

/-- 11 section 11.4 (R183), 06 (R108), 04 (R76, R77), 03 (R48), 10 (R176): while the part runs and no reset is taken, a port's
role and the reset cause stay; CLEAN rises only by WARE_DEFINE, WARE_ADJUST and RACK_OUT of a DONE rack with verdict CLEAN at
the head of the queue; a zone leaves FAULT only by ZONE_CLEAR; the feed reaches NORMAL only from STAGE2 and leaves SAG only to
RESTORE_WAIT; and the pager link comes UP only by ALIVE. -/
def Obligations.WhatOnlyOneEventCanDo : Prop :=
  ∀ (i : Instr) (s w : State), exec i s = .next w → s.running = true → isReset i = false →
    (w.chip = s.chip ∧ ∀ p, (w.ports.get p).role = (s.ports.get p).role) ∧
    (∀ k, (s.wares.get k).clean < (w.wares.get k).clean →
      (∃ t n, i = .wareDefine t k.val n) ∨ (∃ t z n, i = .wareAdjust t k.val 1 z n ∧ 0 < n) ∨
      (i = .rackOut ∧ ∃ r rest, s.line.racks = r :: rest ∧ r.kind = k ∧ r.stage = .done ∧ r.verdict = .clean)) ∧
    (∀ z r, s.zones.get z = some r → r.state = .fault → (∀ v, w.zones.get z = some v → v.state ≠ .fault) →
      (∃ t, i = .zoneClear t z.val) ∧ r.cleanCount = 3) ∧
    (w.feed.state = .normal → s.feed.state = .normal ∨ s.feed.state = .stage2) ∧
    (s.feed.state = .sag → w.feed.state = .sag ∨ w.feed.state = .restoreWait) ∧
    (s.link.up = false → w.link.up = true → i = .alive)

/-- R32, from the laws of the frame: the load lines that are on in a slice draw at most the feed limit in force, none is on in
SAG or RESTORE_WAIT or in reset, and none for a LOCKOUT load point or for one whose zone is OFF, FAULT or not defined. -/
def Obligations.LoadLinesStayWithinTheLimit : Prop :=
  ∀ s : State, powerLaw s → heatLaw s → s.time.slice < 100 →
    (allLoads.map fun n => if loadLine s n then (s.loads.get n).placed else 0).sum ≤ s.alloc.limit ∧
    ∀ n, loadLine s n = true → s.running = true ∧ s.feed.state.dark = false ∧ (s.loads.get n).effective ≠ .lockout ∧
      ∃ z r, (s.loads.get n).binding = some z ∧ s.zones.get z = some r ∧ r.state ≠ .off ∧ r.state ≠ .fault

/-! ### Invariants of every step -/

/-- R32, first law, with what it rests on: every step keeps the remaining slices within the limit in force and dark in SAG and
RESTORE_WAIT. -/
def Obligations.EveryStepKeepsThePowerLaw : Prop := ∀ s w : State, powerLaw s → step s = .next w → powerLaw w

/-- R32, second law, with R6: every step keeps heat from LOCKOUT load points and from zones that are OFF, in FAULT or not
defined. -/
def Obligations.EveryStepKeepsTheHeatLaw : Prop := ∀ s w : State, heatLaw s → step s = .next w → heatLaw w

/-- R119, R124, R137 to R140: every step keeps each kind's plates adding up over its five places, what cabinets have reserved
equal to what courses hold, and no course over its covers. -/
def Obligations.EveryStepKeepsThePlates : Prop :=
  ∀ s w : State, plateLaw s ∧ cabinetLaw s ∧ courseLaw s → step s = .next w → plateLaw w ∧ cabinetLaw w ∧ courseLaw w

/-- R151, R155 and R162: every step keeps page ids apart, the queue within 32, every page on offer or accepted with its one
target, and the free lists as the duty states say. -/
def Obligations.EveryStepKeepsStaffAndPages : Prop :=
  ∀ s w : State, pageLaw s ∧ staffLaw s → step s = .next w → pageLaw w ∧ staffLaw w

/-- R13, R19, R32 (third law), R64, R101, R108, R112, R128, R173, R175, R184 and R190: every step keeps on-slices within the
granted duty and that within the requested duty; LOCKOUT in force wherever it is resolved; the conveyor permit standing exactly
while its conditions hold; setpoints in their kinds' ranges; racks in order with CLEAN only where both minimums reached; one
task a cabinet; one message at most on the link, and a PROBE only while it is DOWN; 16 notices a port; replies within 160 bytes;
and the counters of the Time Base in their ranges. -/
def Obligations.EveryStepKeepsTheSmallerLaws : Prop :=
  ∀ s w : State, step s = .next w →
    (dutyLaw s → dutyLaw w) ∧ (lockoutLaw s → lockoutLaw w) ∧ (permitLaw s → permitLaw w) ∧
      (setpointLaw s → setpointLaw w) ∧ (rackLaw s → rackLaw w) ∧ (taskLaw s → taskLaw w) ∧ (linkLaw s → linkLaw w) ∧
      (noticeLaw s → noticeLaw w) ∧ (replyLaw s → replyLaw w) ∧ (timeLaw s → timeLaw w)
end

