-- ==== Sys2Proof/Laws/State.lean ====
section
/-! SUPPORT. One lemma for each field of the state under each setter, and the tables read after they are written. -/

namespace Sys2Proof

/-! ### Tables -/

@[ext] theorem Table.ext {n : Nat} {α : Type} {a b : Table n α} (h : ∀ i, a.get i = b.get i) : a = b := by
  obtain ⟨xs, hx⟩ := a
  obtain ⟨ys, hy⟩ := b
  have e : xs = ys := by
    apply List.ext_getElem (by omega)
    intro i h1 _
    exact h ⟨i, by omega⟩
  subst e
  rfl

@[simp] theorem Table.get_set_same {n : Nat} {α : Type} (t : Table n α) (i : Fin n) (a : α) : (t.set i a).get i = a := by
  simp [Table.get, Table.set]

theorem Table.get_set_ne {n : Nat} {α : Type} (t : Table n α) {i j : Fin n} (a : α) (h : j ≠ i) :
    (t.set i a).get j = t.get j := by
  have hv : i.val ≠ j.val := fun e => h (Fin.ext e.symm)
  simp [Table.get, Table.set, List.getElem_set_ne hv]

theorem Table.get_set {n : Nat} {α : Type} (t : Table n α) (i j : Fin n) (a : α) :
    (t.set i a).get j = if j = i then a else t.get j := by
  by_cases h : j = i
  · subst h; simp
  · simp [h, Table.get_set_ne]

@[simp] theorem Table.get_build {n : Nat} {α : Type} (f : Fin n → α) (i : Fin n) : (Table.build n f).get i = f i := by
  simp [Table.get, Table.build]

@[simp] theorem Table.get_fill {n : Nat} {α : Type} (a : α) (i : Fin n) : (Table.fill n a).get i = a := by
  simp [Table.get, Table.fill]

@[simp] theorem Table.get_map {n : Nat} {α β : Type} (t : Table n α) (f : α → β) (i : Fin n) :
    (t.map f).get i = f (t.get i) := by
  simp [Table.get, Table.map]

@[simp] theorem Table.set_get {n : Nat} {α : Type} (t : Table n α) (i : Fin n) : t.set i (t.get i) = t := by
  ext j
  rw [Table.get_set]
  split
  · next h => rw [h]
  · rfl

@[simp] theorem Table.set_set {n : Nat} {α : Type} (t : Table n α) (i : Fin n) (a b : α) :
    (t.set i a).set i b = t.set i b := by
  ext j
  simp only [Table.get_set]
  split <;> rfl

/-- An entry of a table is among its items. -/
theorem Table.get_mem {n : Nat} {α : Type} (t : Table n α) (i : Fin n) : t.get i ∈ t.items := List.getElem_mem _

/-! ### Bytes -/

@[simp] theorem length_bigEndian (k n : Nat) : (bigEndian k n).length = k := by
  induction k with
  | zero => rfl
  | succ k ih => simp [bigEndian, ih]

theorem fromBytes_append (as bs : List Byte) : fromBytes (as ++ bs) = fromBytes as * 256 ^ bs.length + fromBytes bs := by
  have shift : ∀ (bs : List Byte) (m : Nat), bs.foldl (fun acc b => acc * 256 + b.toNat) m = m * 256 ^ bs.length +
      bs.foldl (fun acc b => acc * 256 + b.toNat) 0 := by
    intro bs
    induction bs with
    | nil => simp
    | cons b bs ih =>
      intro m
      rw [List.foldl_cons, List.foldl_cons, ih, ih (0 * 256 + b.toNat), List.length_cons, pow_succ]
      ring
  simp only [fromBytes, List.foldl_append]
  exact shift bs _

/-- What is laid out in enough bytes is read back. -/
theorem fromBytes_bigEndian (k n : Nat) (h : n < 256 ^ k) : fromBytes (bigEndian k n) = n := by
  have general : ∀ k n, fromBytes (bigEndian k n) = n % 256 ^ k := by
    intro k
    induction k with
    | zero => intro n; simp [bigEndian, fromBytes, Nat.mod_one]
    | succ k ih =>
      intro n
      have hb : (byteOf (n / 256 ^ k)).toNat = n / 256 ^ k % 256 := by simp [byteOf]
      rw [bigEndian, ← List.singleton_append, fromBytes_append, ih, length_bigEndian]
      simp only [fromBytes, List.foldl_cons, List.foldl_nil, hb]
      rw [pow_succ, Nat.mod_mul]
      ring
  rw [general, Nat.mod_eq_of_lt h]

end Sys2Proof

namespace Sys2Proof.Machine

/-! ### Setters, field by field -/

@[simp] theorem State.setLoad_pending (s : State) (n : LoadId) (v : LoadPoint) : (s.setLoad n v).pending = s.pending := rfl
@[simp] theorem State.setLoad_chip (s : State) (n : LoadId) (v : LoadPoint) : (s.setLoad n v).chip = s.chip := rfl
@[simp] theorem State.setLoad_pins (s : State) (n : LoadId) (v : LoadPoint) : (s.setLoad n v).pins = s.pins := rfl
@[simp] theorem State.setLoad_time (s : State) (n : LoadId) (v : LoadPoint) : (s.setLoad n v).time = s.time := rfl
@[simp] theorem State.setLoad_loads (s : State) (n : LoadId) (v : LoadPoint) : (s.setLoad n v).loads = s.loads.set n v := rfl
@[simp] theorem State.setLoad_map (s : State) (n : LoadId) (v : LoadPoint) : (s.setLoad n v).map = s.map := rfl
@[simp] theorem State.setLoad_alloc (s : State) (n : LoadId) (v : LoadPoint) : (s.setLoad n v).alloc = s.alloc := rfl
@[simp] theorem State.setLoad_feed (s : State) (n : LoadId) (v : LoadPoint) : (s.setLoad n v).feed = s.feed := rfl
@[simp] theorem State.setLoad_scan (s : State) (n : LoadId) (v : LoadPoint) : (s.setLoad n v).scan = s.scan := rfl
@[simp] theorem State.setLoad_zones (s : State) (n : LoadId) (v : LoadPoint) : (s.setLoad n v).zones = s.zones := rfl
@[simp] theorem State.setLoad_line (s : State) (n : LoadId) (v : LoadPoint) : (s.setLoad n v).line = s.line := rfl
@[simp] theorem State.setLoad_wares (s : State) (n : LoadId) (v : LoadPoint) : (s.setLoad n v).wares = s.wares := rfl
@[simp] theorem State.setLoad_restock (s : State) (n : LoadId) (v : LoadPoint) : (s.setLoad n v).restock = s.restock := rfl
@[simp] theorem State.setLoad_courses (s : State) (n : LoadId) (v : LoadPoint) : (s.setLoad n v).courses = s.courses := rfl
@[simp] theorem State.setLoad_roster (s : State) (n : LoadId) (v : LoadPoint) : (s.setLoad n v).roster = s.roster := rfl
@[simp] theorem State.setLoad_desk (s : State) (n : LoadId) (v : LoadPoint) : (s.setLoad n v).desk = s.desk := rfl
@[simp] theorem State.setLoad_link (s : State) (n : LoadId) (v : LoadPoint) : (s.setLoad n v).link = s.link := rfl
@[simp] theorem State.setLoad_ports (s : State) (n : LoadId) (v : LoadPoint) : (s.setLoad n v).ports = s.ports := rfl

@[simp] theorem State.setZone_pending (s : State) (z : ZoneId) (v : Zone) : (s.setZone z v).pending = s.pending := rfl
@[simp] theorem State.setZone_chip (s : State) (z : ZoneId) (v : Zone) : (s.setZone z v).chip = s.chip := rfl
@[simp] theorem State.setZone_pins (s : State) (z : ZoneId) (v : Zone) : (s.setZone z v).pins = s.pins := rfl
@[simp] theorem State.setZone_time (s : State) (z : ZoneId) (v : Zone) : (s.setZone z v).time = s.time := rfl
@[simp] theorem State.setZone_loads (s : State) (z : ZoneId) (v : Zone) : (s.setZone z v).loads = s.loads := rfl
@[simp] theorem State.setZone_map (s : State) (z : ZoneId) (v : Zone) : (s.setZone z v).map = s.map := rfl
@[simp] theorem State.setZone_alloc (s : State) (z : ZoneId) (v : Zone) : (s.setZone z v).alloc = s.alloc := rfl
@[simp] theorem State.setZone_feed (s : State) (z : ZoneId) (v : Zone) : (s.setZone z v).feed = s.feed := rfl
@[simp] theorem State.setZone_scan (s : State) (z : ZoneId) (v : Zone) : (s.setZone z v).scan = s.scan := rfl
@[simp] theorem State.setZone_zones (s : State) (z : ZoneId) (v : Zone) : (s.setZone z v).zones = s.zones.set z (some v) := rfl
@[simp] theorem State.setZone_line (s : State) (z : ZoneId) (v : Zone) : (s.setZone z v).line = s.line := rfl
@[simp] theorem State.setZone_wares (s : State) (z : ZoneId) (v : Zone) : (s.setZone z v).wares = s.wares := rfl
@[simp] theorem State.setZone_restock (s : State) (z : ZoneId) (v : Zone) : (s.setZone z v).restock = s.restock := rfl
@[simp] theorem State.setZone_courses (s : State) (z : ZoneId) (v : Zone) : (s.setZone z v).courses = s.courses := rfl
@[simp] theorem State.setZone_roster (s : State) (z : ZoneId) (v : Zone) : (s.setZone z v).roster = s.roster := rfl
@[simp] theorem State.setZone_desk (s : State) (z : ZoneId) (v : Zone) : (s.setZone z v).desk = s.desk := rfl
@[simp] theorem State.setZone_link (s : State) (z : ZoneId) (v : Zone) : (s.setZone z v).link = s.link := rfl
@[simp] theorem State.setZone_ports (s : State) (z : ZoneId) (v : Zone) : (s.setZone z v).ports = s.ports := rfl

@[simp] theorem State.setWare_pending (s : State) (k : WareId) (v : Ware) : (s.setWare k v).pending = s.pending := rfl
@[simp] theorem State.setWare_chip (s : State) (k : WareId) (v : Ware) : (s.setWare k v).chip = s.chip := rfl
@[simp] theorem State.setWare_pins (s : State) (k : WareId) (v : Ware) : (s.setWare k v).pins = s.pins := rfl
@[simp] theorem State.setWare_time (s : State) (k : WareId) (v : Ware) : (s.setWare k v).time = s.time := rfl
@[simp] theorem State.setWare_loads (s : State) (k : WareId) (v : Ware) : (s.setWare k v).loads = s.loads := rfl
@[simp] theorem State.setWare_map (s : State) (k : WareId) (v : Ware) : (s.setWare k v).map = s.map := rfl
@[simp] theorem State.setWare_alloc (s : State) (k : WareId) (v : Ware) : (s.setWare k v).alloc = s.alloc := rfl
@[simp] theorem State.setWare_feed (s : State) (k : WareId) (v : Ware) : (s.setWare k v).feed = s.feed := rfl
@[simp] theorem State.setWare_scan (s : State) (k : WareId) (v : Ware) : (s.setWare k v).scan = s.scan := rfl
@[simp] theorem State.setWare_zones (s : State) (k : WareId) (v : Ware) : (s.setWare k v).zones = s.zones := rfl
@[simp] theorem State.setWare_line (s : State) (k : WareId) (v : Ware) : (s.setWare k v).line = s.line := rfl
@[simp] theorem State.setWare_wares (s : State) (k : WareId) (v : Ware) : (s.setWare k v).wares = s.wares.set k v := rfl
@[simp] theorem State.setWare_restock (s : State) (k : WareId) (v : Ware) : (s.setWare k v).restock = s.restock := rfl
@[simp] theorem State.setWare_courses (s : State) (k : WareId) (v : Ware) : (s.setWare k v).courses = s.courses := rfl
@[simp] theorem State.setWare_roster (s : State) (k : WareId) (v : Ware) : (s.setWare k v).roster = s.roster := rfl
@[simp] theorem State.setWare_desk (s : State) (k : WareId) (v : Ware) : (s.setWare k v).desk = s.desk := rfl
@[simp] theorem State.setWare_link (s : State) (k : WareId) (v : Ware) : (s.setWare k v).link = s.link := rfl
@[simp] theorem State.setWare_ports (s : State) (k : WareId) (v : Ware) : (s.setWare k v).ports = s.ports := rfl

@[simp] theorem State.setCourse_pending (s : State) (c : CourseId) (v : Option Course) : (s.setCourse c v).pending = s.pending := rfl
@[simp] theorem State.setCourse_chip (s : State) (c : CourseId) (v : Option Course) : (s.setCourse c v).chip = s.chip := rfl
@[simp] theorem State.setCourse_pins (s : State) (c : CourseId) (v : Option Course) : (s.setCourse c v).pins = s.pins := rfl
@[simp] theorem State.setCourse_time (s : State) (c : CourseId) (v : Option Course) : (s.setCourse c v).time = s.time := rfl
@[simp] theorem State.setCourse_loads (s : State) (c : CourseId) (v : Option Course) : (s.setCourse c v).loads = s.loads := rfl
@[simp] theorem State.setCourse_map (s : State) (c : CourseId) (v : Option Course) : (s.setCourse c v).map = s.map := rfl
@[simp] theorem State.setCourse_alloc (s : State) (c : CourseId) (v : Option Course) : (s.setCourse c v).alloc = s.alloc := rfl
@[simp] theorem State.setCourse_feed (s : State) (c : CourseId) (v : Option Course) : (s.setCourse c v).feed = s.feed := rfl
@[simp] theorem State.setCourse_scan (s : State) (c : CourseId) (v : Option Course) : (s.setCourse c v).scan = s.scan := rfl
@[simp] theorem State.setCourse_zones (s : State) (c : CourseId) (v : Option Course) : (s.setCourse c v).zones = s.zones := rfl
@[simp] theorem State.setCourse_line (s : State) (c : CourseId) (v : Option Course) : (s.setCourse c v).line = s.line := rfl
@[simp] theorem State.setCourse_wares (s : State) (c : CourseId) (v : Option Course) : (s.setCourse c v).wares = s.wares := rfl
@[simp] theorem State.setCourse_restock (s : State) (c : CourseId) (v : Option Course) : (s.setCourse c v).restock = s.restock := rfl
@[simp] theorem State.setCourse_roster (s : State) (c : CourseId) (v : Option Course) : (s.setCourse c v).roster = s.roster := rfl
@[simp] theorem State.setCourse_desk (s : State) (c : CourseId) (v : Option Course) : (s.setCourse c v).desk = s.desk := rfl
@[simp] theorem State.setCourse_link (s : State) (c : CourseId) (v : Option Course) : (s.setCourse c v).link = s.link := rfl
@[simp] theorem State.setCourse_ports (s : State) (c : CourseId) (v : Option Course) : (s.setCourse c v).ports = s.ports := rfl
@[simp] theorem State.setCourse_order (s : State) (c : CourseId) (v : Option Course) :
    (s.setCourse c v).courses.order = s.courses.order := rfl
@[simp] theorem State.setCourse_slots (s : State) (c : CourseId) (v : Option Course) :
    (s.setCourse c v).courses.slots = s.courses.slots.set c v := rfl

@[simp] theorem State.setStaff_pending (s : State) (e : EntryId) (v : Staff) : (s.setStaff e v).pending = s.pending := rfl
@[simp] theorem State.setStaff_chip (s : State) (e : EntryId) (v : Staff) : (s.setStaff e v).chip = s.chip := rfl
@[simp] theorem State.setStaff_pins (s : State) (e : EntryId) (v : Staff) : (s.setStaff e v).pins = s.pins := rfl
@[simp] theorem State.setStaff_time (s : State) (e : EntryId) (v : Staff) : (s.setStaff e v).time = s.time := rfl
@[simp] theorem State.setStaff_loads (s : State) (e : EntryId) (v : Staff) : (s.setStaff e v).loads = s.loads := rfl
@[simp] theorem State.setStaff_map (s : State) (e : EntryId) (v : Staff) : (s.setStaff e v).map = s.map := rfl
@[simp] theorem State.setStaff_alloc (s : State) (e : EntryId) (v : Staff) : (s.setStaff e v).alloc = s.alloc := rfl
@[simp] theorem State.setStaff_feed (s : State) (e : EntryId) (v : Staff) : (s.setStaff e v).feed = s.feed := rfl
@[simp] theorem State.setStaff_scan (s : State) (e : EntryId) (v : Staff) : (s.setStaff e v).scan = s.scan := rfl
@[simp] theorem State.setStaff_zones (s : State) (e : EntryId) (v : Staff) : (s.setStaff e v).zones = s.zones := rfl
@[simp] theorem State.setStaff_line (s : State) (e : EntryId) (v : Staff) : (s.setStaff e v).line = s.line := rfl
@[simp] theorem State.setStaff_wares (s : State) (e : EntryId) (v : Staff) : (s.setStaff e v).wares = s.wares := rfl
@[simp] theorem State.setStaff_restock (s : State) (e : EntryId) (v : Staff) : (s.setStaff e v).restock = s.restock := rfl
@[simp] theorem State.setStaff_courses (s : State) (e : EntryId) (v : Staff) : (s.setStaff e v).courses = s.courses := rfl
@[simp] theorem State.setStaff_desk (s : State) (e : EntryId) (v : Staff) : (s.setStaff e v).desk = s.desk := rfl
@[simp] theorem State.setStaff_link (s : State) (e : EntryId) (v : Staff) : (s.setStaff e v).link = s.link := rfl
@[simp] theorem State.setStaff_ports (s : State) (e : EntryId) (v : Staff) : (s.setStaff e v).ports = s.ports := rfl
@[simp] theorem State.setStaff_entries (s : State) (e : EntryId) (v : Staff) :
    (s.setStaff e v).roster.entries = s.roster.entries.set e v := rfl
@[simp] theorem State.setStaff_free (s : State) (e : EntryId) (v : Staff) : (s.setStaff e v).roster.free = s.roster.free := rfl
@[simp] theorem State.setStaff_nextStamp (s : State) (e : EntryId) (v : Staff) :
    (s.setStaff e v).roster.nextStamp = s.roster.nextStamp := rfl

@[simp] theorem State.setFree_pending (s : State) (r : StaffRole) (l : List EntryId) : (s.setFree r l).pending = s.pending := rfl
@[simp] theorem State.setFree_chip (s : State) (r : StaffRole) (l : List EntryId) : (s.setFree r l).chip = s.chip := rfl
@[simp] theorem State.setFree_pins (s : State) (r : StaffRole) (l : List EntryId) : (s.setFree r l).pins = s.pins := rfl
@[simp] theorem State.setFree_time (s : State) (r : StaffRole) (l : List EntryId) : (s.setFree r l).time = s.time := rfl
@[simp] theorem State.setFree_loads (s : State) (r : StaffRole) (l : List EntryId) : (s.setFree r l).loads = s.loads := rfl
@[simp] theorem State.setFree_map (s : State) (r : StaffRole) (l : List EntryId) : (s.setFree r l).map = s.map := rfl
@[simp] theorem State.setFree_alloc (s : State) (r : StaffRole) (l : List EntryId) : (s.setFree r l).alloc = s.alloc := rfl
@[simp] theorem State.setFree_feed (s : State) (r : StaffRole) (l : List EntryId) : (s.setFree r l).feed = s.feed := rfl
@[simp] theorem State.setFree_scan (s : State) (r : StaffRole) (l : List EntryId) : (s.setFree r l).scan = s.scan := rfl
@[simp] theorem State.setFree_zones (s : State) (r : StaffRole) (l : List EntryId) : (s.setFree r l).zones = s.zones := rfl
@[simp] theorem State.setFree_line (s : State) (r : StaffRole) (l : List EntryId) : (s.setFree r l).line = s.line := rfl
@[simp] theorem State.setFree_wares (s : State) (r : StaffRole) (l : List EntryId) : (s.setFree r l).wares = s.wares := rfl
@[simp] theorem State.setFree_restock (s : State) (r : StaffRole) (l : List EntryId) : (s.setFree r l).restock = s.restock := rfl
@[simp] theorem State.setFree_courses (s : State) (r : StaffRole) (l : List EntryId) : (s.setFree r l).courses = s.courses := rfl
@[simp] theorem State.setFree_desk (s : State) (r : StaffRole) (l : List EntryId) : (s.setFree r l).desk = s.desk := rfl
@[simp] theorem State.setFree_link (s : State) (r : StaffRole) (l : List EntryId) : (s.setFree r l).link = s.link := rfl
@[simp] theorem State.setFree_ports (s : State) (r : StaffRole) (l : List EntryId) : (s.setFree r l).ports = s.ports := rfl
@[simp] theorem State.setFree_entries (s : State) (r : StaffRole) (l : List EntryId) :
    (s.setFree r l).roster.entries = s.roster.entries := rfl
@[simp] theorem State.setFree_free (s : State) (r : StaffRole) (l : List EntryId) :
    (s.setFree r l).roster.free = s.roster.free.set r.index l := rfl
@[simp] theorem State.setFree_nextStamp (s : State) (r : StaffRole) (l : List EntryId) :
    (s.setFree r l).roster.nextStamp = s.roster.nextStamp := rfl

@[simp] theorem State.setPort_pending (s : State) (p : PortId) (v : Port) : (s.setPort p v).pending = s.pending := rfl
@[simp] theorem State.setPort_chip (s : State) (p : PortId) (v : Port) : (s.setPort p v).chip = s.chip := rfl
@[simp] theorem State.setPort_pins (s : State) (p : PortId) (v : Port) : (s.setPort p v).pins = s.pins := rfl
@[simp] theorem State.setPort_time (s : State) (p : PortId) (v : Port) : (s.setPort p v).time = s.time := rfl
@[simp] theorem State.setPort_loads (s : State) (p : PortId) (v : Port) : (s.setPort p v).loads = s.loads := rfl
@[simp] theorem State.setPort_map (s : State) (p : PortId) (v : Port) : (s.setPort p v).map = s.map := rfl
@[simp] theorem State.setPort_alloc (s : State) (p : PortId) (v : Port) : (s.setPort p v).alloc = s.alloc := rfl
@[simp] theorem State.setPort_feed (s : State) (p : PortId) (v : Port) : (s.setPort p v).feed = s.feed := rfl
@[simp] theorem State.setPort_scan (s : State) (p : PortId) (v : Port) : (s.setPort p v).scan = s.scan := rfl
@[simp] theorem State.setPort_zones (s : State) (p : PortId) (v : Port) : (s.setPort p v).zones = s.zones := rfl
@[simp] theorem State.setPort_line (s : State) (p : PortId) (v : Port) : (s.setPort p v).line = s.line := rfl
@[simp] theorem State.setPort_wares (s : State) (p : PortId) (v : Port) : (s.setPort p v).wares = s.wares := rfl
@[simp] theorem State.setPort_restock (s : State) (p : PortId) (v : Port) : (s.setPort p v).restock = s.restock := rfl
@[simp] theorem State.setPort_courses (s : State) (p : PortId) (v : Port) : (s.setPort p v).courses = s.courses := rfl
@[simp] theorem State.setPort_roster (s : State) (p : PortId) (v : Port) : (s.setPort p v).roster = s.roster := rfl
@[simp] theorem State.setPort_desk (s : State) (p : PortId) (v : Port) : (s.setPort p v).desk = s.desk := rfl
@[simp] theorem State.setPort_link (s : State) (p : PortId) (v : Port) : (s.setPort p v).link = s.link := rfl
@[simp] theorem State.setPort_ports (s : State) (p : PortId) (v : Port) : (s.setPort p v).ports = s.ports.set p v := rfl

/-! ### A zone changed in place -/

@[simp] theorem State.changeZone_pending (s : State) (z : ZoneId) (f : Zone → Zone) : (s.changeZone z f).pending = s.pending := by
  unfold State.changeZone; split <;> rfl
@[simp] theorem State.changeZone_chip (s : State) (z : ZoneId) (f : Zone → Zone) : (s.changeZone z f).chip = s.chip := by
  unfold State.changeZone; split <;> rfl
@[simp] theorem State.changeZone_pins (s : State) (z : ZoneId) (f : Zone → Zone) : (s.changeZone z f).pins = s.pins := by
  unfold State.changeZone; split <;> rfl
@[simp] theorem State.changeZone_time (s : State) (z : ZoneId) (f : Zone → Zone) : (s.changeZone z f).time = s.time := by
  unfold State.changeZone; split <;> rfl
@[simp] theorem State.changeZone_loads (s : State) (z : ZoneId) (f : Zone → Zone) : (s.changeZone z f).loads = s.loads := by
  unfold State.changeZone; split <;> rfl
@[simp] theorem State.changeZone_map (s : State) (z : ZoneId) (f : Zone → Zone) : (s.changeZone z f).map = s.map := by
  unfold State.changeZone; split <;> rfl
@[simp] theorem State.changeZone_alloc (s : State) (z : ZoneId) (f : Zone → Zone) : (s.changeZone z f).alloc = s.alloc := by
  unfold State.changeZone; split <;> rfl
@[simp] theorem State.changeZone_feed (s : State) (z : ZoneId) (f : Zone → Zone) : (s.changeZone z f).feed = s.feed := by
  unfold State.changeZone; split <;> rfl
@[simp] theorem State.changeZone_scan (s : State) (z : ZoneId) (f : Zone → Zone) : (s.changeZone z f).scan = s.scan := by
  unfold State.changeZone; split <;> rfl
@[simp] theorem State.changeZone_line (s : State) (z : ZoneId) (f : Zone → Zone) : (s.changeZone z f).line = s.line := by
  unfold State.changeZone; split <;> rfl
@[simp] theorem State.changeZone_wares (s : State) (z : ZoneId) (f : Zone → Zone) : (s.changeZone z f).wares = s.wares := by
  unfold State.changeZone; split <;> rfl
@[simp] theorem State.changeZone_restock (s : State) (z : ZoneId) (f : Zone → Zone) : (s.changeZone z f).restock = s.restock := by
  unfold State.changeZone; split <;> rfl
@[simp] theorem State.changeZone_courses (s : State) (z : ZoneId) (f : Zone → Zone) : (s.changeZone z f).courses = s.courses := by
  unfold State.changeZone; split <;> rfl
@[simp] theorem State.changeZone_roster (s : State) (z : ZoneId) (f : Zone → Zone) : (s.changeZone z f).roster = s.roster := by
  unfold State.changeZone; split <;> rfl
@[simp] theorem State.changeZone_desk (s : State) (z : ZoneId) (f : Zone → Zone) : (s.changeZone z f).desk = s.desk := by
  unfold State.changeZone; split <;> rfl
@[simp] theorem State.changeZone_link (s : State) (z : ZoneId) (f : Zone → Zone) : (s.changeZone z f).link = s.link := by
  unfold State.changeZone; split <;> rfl
@[simp] theorem State.changeZone_ports (s : State) (z : ZoneId) (f : Zone → Zone) : (s.changeZone z f).ports = s.ports := by
  unfold State.changeZone; split <;> rfl

/-- The zones after one is changed in place. -/
theorem State.changeZone_get (s : State) (z y : ZoneId) (f : Zone → Zone) :
    (s.changeZone z f).zones.get y = if y = z then (s.zones.get z).map f else s.zones.get y := by
  unfold State.changeZone
  split
  · next r h => rw [State.setZone_zones, Table.get_set]; split <;> simp [h]
  · next h => split <;> simp_all

/-! ### A notice posted -/

@[simp] theorem post_pending (k : NoticeKind) (o v : Nat) (s : State) : (post k o v s).pending = s.pending := rfl
@[simp] theorem post_chip (k : NoticeKind) (o v : Nat) (s : State) : (post k o v s).chip = s.chip := rfl
@[simp] theorem post_pins (k : NoticeKind) (o v : Nat) (s : State) : (post k o v s).pins = s.pins := rfl
@[simp] theorem post_time (k : NoticeKind) (o v : Nat) (s : State) : (post k o v s).time = s.time := rfl
@[simp] theorem post_loads (k : NoticeKind) (o v : Nat) (s : State) : (post k o v s).loads = s.loads := rfl
@[simp] theorem post_map (k : NoticeKind) (o v : Nat) (s : State) : (post k o v s).map = s.map := rfl
@[simp] theorem post_alloc (k : NoticeKind) (o v : Nat) (s : State) : (post k o v s).alloc = s.alloc := rfl
@[simp] theorem post_feed (k : NoticeKind) (o v : Nat) (s : State) : (post k o v s).feed = s.feed := rfl
@[simp] theorem post_scan (k : NoticeKind) (o v : Nat) (s : State) : (post k o v s).scan = s.scan := rfl
@[simp] theorem post_zones (k : NoticeKind) (o v : Nat) (s : State) : (post k o v s).zones = s.zones := rfl
@[simp] theorem post_line (k : NoticeKind) (o v : Nat) (s : State) : (post k o v s).line = s.line := rfl
@[simp] theorem post_wares (k : NoticeKind) (o v : Nat) (s : State) : (post k o v s).wares = s.wares := rfl
@[simp] theorem post_restock (k : NoticeKind) (o v : Nat) (s : State) : (post k o v s).restock = s.restock := rfl
@[simp] theorem post_courses (k : NoticeKind) (o v : Nat) (s : State) : (post k o v s).courses = s.courses := rfl
@[simp] theorem post_roster (k : NoticeKind) (o v : Nat) (s : State) : (post k o v s).roster = s.roster := rfl
@[simp] theorem post_desk (k : NoticeKind) (o v : Nat) (s : State) : (post k o v s).desk = s.desk := rfl
@[simp] theorem post_link (k : NoticeKind) (o v : Nat) (s : State) : (post k o v s).link = s.link := rfl

/-- A port after a notice is posted (R184). -/
@[simp] theorem post_port (k : NoticeKind) (o v : Nat) (s : State) (p : PortId) :
    (post k o v s).ports.get p =
      if k.subscribed (s.ports.get p).role then
        (s.ports.get p).offer { kind := k, object := o, value := v, time := s.time.clock }
      else s.ports.get p := by
  simp [post]

end Sys2Proof.Machine
end

