-- ==== Sys2Proof/Laws/Frames.lean ====
section
/-! SUPPORT. What each shared operation can touch, said once: the frame relations of Safety.lean are closed under composition,
and one lemma for each operation places it in the narrowest. -/

namespace Sys2Proof.Machine

/-! ### The relations -/

theorem SamePort.refl (a : Port) : SamePort a a := ⟨a.notices, a.overflow, rfl⟩

theorem SamePort.trans {a b c : Port} (h : SamePort a b) (k : SamePort b c) : SamePort a c := by
  obtain ⟨_, _, rfl⟩ := h
  obtain ⟨n, o, rfl⟩ := k
  exact ⟨n, o, rfl⟩

theorem SamePort.offer (a : Port) (n : Notice) : SamePort a (a.offer n) := by
  unfold Port.offer
  split
  · exact ⟨_, a.overflow, rfl⟩
  · exact ⟨a.notices, true, rfl⟩

theorem PagingOnly.refl (s : State) : PagingOnly s s := ⟨⟨_, _, _, rfl⟩, fun _ => SamePort.refl _⟩

theorem PagingOnly.trans {s t u : State} (h : PagingOnly s t) (k : PagingOnly t u) : PagingOnly s u := by
  obtain ⟨⟨d, r, p, rfl⟩, hp⟩ := h
  obtain ⟨⟨d', r', p', rfl⟩, kp⟩ := k
  exact ⟨⟨d', r', p', rfl⟩, fun q => (hp q).trans (kp q)⟩

theorem StockOnly.trans {s t u : State} (h : StockOnly s t) (k : StockOnly t u) : StockOnly s u := by
  obtain ⟨⟨z, b, l, d, r, p, rfl⟩, hp⟩ := h
  obtain ⟨⟨z', b', l', d', r', p', rfl⟩, kp⟩ := k
  exact ⟨⟨z', b', l', d', r', p', rfl⟩, fun q => (hp q).trans (kp q)⟩

theorem ServiceOnly.trans {s t u : State} (h : ServiceOnly s t) (k : ServiceOnly t u) : ServiceOnly s u := by
  obtain ⟨⟨z, b, w, l, c, d, r, p, rfl⟩, hp⟩ := h
  obtain ⟨⟨z', b', w', l', c', d', r', p', rfl⟩, kp⟩ := k
  exact ⟨⟨z', b', w', l', c', d', r', p', rfl⟩, fun q => (hp q).trans (kp q)⟩

theorem ZoneMoveOnly.trans {s t u : State} (h : ZoneMoveOnly s t) (k : ZoneMoveOnly t u) : ZoneMoveOnly s u := by
  obtain ⟨⟨lo, a, z, b, g, w, l, c, d, r, p, rfl⟩, hp⟩ := h
  obtain ⟨⟨lo', a', z', b', g', w', l', c', d', r', p', rfl⟩, kp⟩ := k
  exact ⟨⟨lo', a', z', b', g', w', l', c', d', r', p', rfl⟩, fun q => (hp q).trans (kp q)⟩

theorem PagingOnly.stock {s t : State} (h : PagingOnly s t) : StockOnly s t := by
  obtain ⟨⟨d, r, p, rfl⟩, hp⟩ := h
  exact ⟨⟨s.zones, s.line.permit, s.restock, d, r, p, rfl⟩, hp⟩

theorem StockOnly.service {s t : State} (h : StockOnly s t) : ServiceOnly s t := by
  obtain ⟨⟨z, b, l, d, r, p, rfl⟩, hp⟩ := h
  exact ⟨⟨z, b, s.wares, l, s.courses, d, r, p, rfl⟩, hp⟩

theorem ServiceOnly.zoneMove {s t : State} (h : ServiceOnly s t) : ZoneMoveOnly s t := by
  obtain ⟨⟨z, b, w, l, c, d, r, p, rfl⟩, hp⟩ := h
  exact ⟨⟨s.loads, s.alloc, z, b, s.line.racks, w, l, c, d, r, p, rfl⟩, hp⟩

theorem StockOnly.refl (s : State) : StockOnly s s := (PagingOnly.refl s).stock
theorem ServiceOnly.refl (s : State) : ServiceOnly s s := (StockOnly.refl s).service
theorem ZoneMoveOnly.refl (s : State) : ZoneMoveOnly s s := (ServiceOnly.refl s).zoneMove

/-- A relation that holds of each step of a fold holds of the fold. -/
theorem foldl_related {α : Type} {R : State → State → Prop} (refl : ∀ s, R s s) (trans : ∀ {s t u}, R s t → R t u → R s u)
    (f : State → α → State) (h : ∀ s a, R s (f s a)) (l : List α) (s : State) : R s (l.foldl f s) := by
  induction l generalizing s with
  | nil => exact refl s
  | cons a l ih => exact trans (h s a) (ih (f s a))

/-! ### Paging (Machine/Paging.lean) -/

theorem post_touches (k : NoticeKind) (o v : Nat) (s : State) : PagingOnly s (post k o v s) := by
  refine ⟨⟨s.desk, s.roster, _, rfl⟩, fun q => ?_⟩
  rw [post_port]
  split
  · exact SamePort.offer _ _
  · exact SamePort.refl _

/-- An operation on the page queue and the roster alone. -/
theorem PagingOnly.of_desk (s : State) (d : PageDesk) (r : Roster) : PagingOnly s { s with desk := d, roster := r } :=
  ⟨⟨d, r, s.ports, rfl⟩, fun _ => SamePort.refl _⟩

theorem updatePage_touches (i : PageId) (f : Page → Page) (s : State) : PagingOnly s (updatePage i f s) :=
  PagingOnly.of_desk s _ s.roster
theorem removePage_touches (i : PageId) (s : State) : PagingOnly s (removePage i s) := PagingOnly.of_desk s _ s.roster
theorem dropReoffer_touches (i : PageId) (s : State) : PagingOnly s (dropReoffer i s) := PagingOnly.of_desk s _ s.roster
theorem pushCancel_touches (r : CancelRequest) (s : State) : PagingOnly s (pushCancel r s) :=
  PagingOnly.of_desk s _ s.roster
theorem setStaff_touches (e : EntryId) (m : Staff) (s : State) : PagingOnly s (s.setStaff e m) :=
  PagingOnly.of_desk s s.desk _
theorem becomeFree_touches (e : EntryId) (s : State) : PagingOnly s (becomeFree e s) := PagingOnly.of_desk s s.desk _
theorem leaveFree_touches (e : EntryId) (s : State) : PagingOnly s (leaveFree e s) := PagingOnly.of_desk s s.desk _
theorem becomeAssigned_touches (e : EntryId) (i : PageId) (q : Option PageId) (s : State) :
    PagingOnly s (becomeAssigned e i q s) := PagingOnly.of_desk s s.desk _
theorem addPage_touches (g : Fin 6) (c o : Nat) (r : StaffRole) (p : PageGroup) (k : Closure) (s : State) :
    PagingOnly s (addPage g c o r p k s) := PagingOnly.of_desk s _ s.roster

theorem release_touches (e : EntryId) (s : State) : PagingOnly s (release e s) := by
  unfold release
  split
  · exact (becomeAssigned_touches _ _ _ _).trans (updatePage_touches _ _ _)
  · exact becomeFree_touches _ _

theorem closePage_touches (p : Page) (o : Outcome) (s : State) : PagingOnly s (closePage p o s) :=
  ((removePage_touches _ _).trans (dropReoffer_touches _ _)).trans (post_touches _ _ _ _)

theorem retirePage_touches (p : Page) (o : Outcome) (s : State) : PagingOnly s (retirePage p o s) := by
  unfold retirePage
  split
  · exact ((pushCancel_touches _ _).trans (closePage_touches _ _ _)).trans (release_touches _ _)
  · exact (closePage_touches _ _ _).trans (release_touches _ _)
  · exact (closePage_touches _ _ _).trans (setStaff_touches _ _ _)
  · exact closePage_touches _ _ _

theorem requeuePage_touches (i : PageId) (f : Page → Page) (s : State) : PagingOnly s (requeuePage i f s) :=
  (updatePage_touches _ _ _).trans (dropReoffer_touches _ _)

theorem raise_touches (c : Cause) (g : PageGroup) (o : Nat) (s : State) : PagingOnly s (raise c g o s) := by
  simp only [raise]
  split
  · exact PagingOnly.refl s
  · split
    · exact addPage_touches _ _ _ _ _ _ _
    · split
      · exact (closePage_touches _ _ _).trans (addPage_touches _ _ _ _ _ _ _)
      · exact post_touches _ _ _ _

theorem clearEvent_touches (c : Cause) (o : Nat) (s : State) : PagingOnly s (clearEvent c o s) := by
  unfold clearEvent
  split
  · exact retirePage_touches _ _ _
  · exact PagingOnly.refl s

theorem goOffDuty_touches (e : EntryId) (s : State) : PagingOnly s (goOffDuty e s) := by
  simp only [goOffDuty]
  refine PagingOnly.trans ?_ (setStaff_touches _ _ _)
  have current : PagingOnly s
      (match (s.staff e).current with
        | some id =>
          requeuePage id (fun p => p)
            (match (leaveFree e s).page? id with
              | some p =>
                if p.state = .offered then pushCancel { page := id, address := (s.staff e).address } (leaveFree e s)
                else leaveFree e s
              | none => leaveFree e s)
        | none => leaveFree e s) := by
    cases (s.staff e).current with
    | none => exact leaveFree_touches e s
    | some id =>
      refine PagingOnly.trans ?_ (requeuePage_touches _ _ _)
      split
      · split
        · exact (leaveFree_touches e s).trans (pushCancel_touches _ _)
        · exact leaveFree_touches e s
      · exact leaveFree_touches e s
  cases (s.staff e).suspended with
  | none => exact current
  | some id => exact current.trans (requeuePage_touches _ _ _)

theorem ackExpiry_touches (p : Page) (s : State) : PagingOnly s (ackExpiry p s) := by
  unfold ackExpiry
  split
  · split
    · exact (updatePage_touches _ _ _).trans (PagingOnly.of_desk _ _ _)
    · exact (requeuePage_touches _ _ _).trans (release_touches _ _)
    · exact (requeuePage_touches _ _ _).trans (release_touches _ _)
    · exact (closePage_touches _ _ _).trans (release_touches _ _)
  · exact PagingOnly.refl s

theorem withdrawPage_touches (p : Page) (s : State) : PagingOnly s (withdrawPage p s) := by
  unfold withdrawPage
  split
  · exact (requeuePage_touches _ _ _).trans (release_touches _ _)
  · exact PagingOnly.refl s

theorem takeAnswer_touches (x : PagerAnswer) (p : Page) (e : EntryId) (s : State) : PagingOnly s (takeAnswer x p e s) := by
  cases x
  · simp only [takeAnswer, answerAccept]
    split
    · exact (closePage_touches _ _ _).trans (release_touches _ _)
    all_goals
      exact ((updatePage_touches _ _ _).trans (dropReoffer_touches _ _)).trans (becomeAssigned_touches _ _ _ _)
  · exact (requeuePage_touches _ _ _).trans (release_touches _ _)
  · exact (closePage_touches _ _ _).trans (release_touches _ _)

/-! ### Zones, the permit and the restock list (Machine/Permit.lean, Machine/Restock.lean) -/

theorem testPermit_touches (s : State) : StockOnly s (testPermit s) := by
  unfold testPermit
  split
  · exact StockOnly.refl s
  · refine StockOnly.trans ?_ (post_touches _ _ _ _).stock
    exact ⟨⟨s.zones, _, s.restock, s.desk, s.roster, s.ports, rfl⟩, fun _ => SamePort.refl _⟩

/-- The permit after it is tested is what its conditions give (R112). -/
theorem testPermit_permit (s : State) : (testPermit s).line.permit = permitCondition s := by
  unfold testPermit
  split
  · next h => exact h.symm
  · simp [post]

theorem setZone_touches (z : ZoneId) (r : Zone) (s : State) : StockOnly s (s.setZone z r) :=
  ⟨⟨_, s.line.permit, s.restock, s.desk, s.roster, s.ports, rfl⟩, fun _ => SamePort.refl _⟩

theorem changeZone_touches (z : ZoneId) (f : Zone → Zone) (s : State) : StockOnly s (s.changeZone z f) := by
  unfold State.changeZone
  split
  · exact setZone_touches _ _ _
  · exact StockOnly.refl s

theorem moveZone_touches (z : ZoneId) (st : ZoneState) (s : State) : StockOnly s (moveZone z st s) :=
  (changeZone_touches _ _ _).trans (testPermit_touches _)

theorem refreshStandby_touches (z : ZoneId) (s : State) : StockOnly s (refreshStandby z s) := by
  unfold refreshStandby
  split
  · split
    · split
      · split
        · exact StockOnly.refl s
        · exact setZone_touches _ _ _
      · exact setZone_touches _ _ _
    · exact StockOnly.refl s
  · exact StockOnly.refl s

theorem wakeStandby_touches (z : ZoneId) (s : State) : StockOnly s (wakeStandby z s) := by
  unfold wakeStandby
  split
  · exact moveZone_touches _ _ _
  · exact StockOnly.refl s

theorem report_touches (z : ZoneId) (wakes : Bool) (s : State) : StockOnly s (report z wakes s) := by
  simp only [report]
  split
  · exact (refreshStandby_touches _ _).trans (wakeStandby_touches _ _)
  · exact refreshStandby_touches _ _

/-- An operation on the restock list alone. -/
theorem StockOnly.of_restock (s : State) (l : List RestockTask) : StockOnly s { s with restock := l } :=
  ⟨⟨s.zones, s.line.permit, l, s.desk, s.roster, s.ports, rfl⟩, fun _ => SamePort.refl _⟩

theorem testRestock_touches (z : ZoneId) (s : State) : StockOnly s (testRestock z s) := by
  simp only [testRestock]
  split
  · exact StockOnly.refl s
  · split
    · split
      · refine StockOnly.trans ?_ (report_touches _ _ _)
        refine StockOnly.trans ?_ (post_touches _ _ _ _).stock
        split
        · exact (StockOnly.of_restock s _).trans (raise_touches _ _ _ _).stock
        · exact StockOnly.of_restock s _
      · exact StockOnly.refl s
    · exact StockOnly.refl s

theorem closeTask_touches (z : ZoneId) (how : TaskClosing) (s : State) : StockOnly s (closeTask z how s) := by
  simp only [closeTask]
  split
  · refine StockOnly.trans ?_ (report_touches _ _ _)
    split
    · exact ((StockOnly.of_restock s _).trans (post_touches _ _ _ _).stock).trans (clearEvent_touches _ _ _).stock
    · exact (StockOnly.of_restock s _).trans (post_touches _ _ _ _).stock
  · exact StockOnly.refl s

theorem wakeTask_touches (k : WareId) (s : State) (z : ZoneId) : StockOnly s (wakeTask k s z) := by
  simp only [wakeTask]
  split
  · split
    · exact (((StockOnly.of_restock s _).trans (raise_touches _ _ _ _).stock).trans (post_touches _ _ _ _).stock).trans
        (report_touches _ _ _)
    · exact StockOnly.refl s
  · exact StockOnly.refl s

theorem wakeTasks_touches (k : WareId) (s : State) : StockOnly s (wakeTasks k s) :=
  foldl_related StockOnly.refl StockOnly.trans _ (wakeTask_touches k) _ s

theorem setCabinet_touches (z : ZoneId) (c : Cabinet) (s : State) : StockOnly s (s.setCabinet z c) :=
  changeZone_touches _ _ _

theorem reservePlates_touches (z : ZoneId) (n : Nat) (s : State) : StockOnly s (reservePlates z n s) := by
  unfold reservePlates
  split
  · exact (setCabinet_touches _ _ _).trans (report_touches _ _ _)
  · exact StockOnly.refl s

theorem releasePlates_touches (z : ZoneId) (n : Nat) (s : State) : StockOnly s (releasePlates z n s) := by
  unfold releasePlates
  split
  · exact (setCabinet_touches _ _ _).trans (report_touches _ _ _)
  · exact StockOnly.refl s

/-! ### Wares and courses (Machine/Restock.lean, Machine/CourseTable.lean) -/

theorem setWare_touches (k : WareId) (w : Ware) (s : State) : ServiceOnly s (s.setWare k w) :=
  ⟨⟨s.zones, s.line.permit, _, s.restock, s.courses, s.desk, s.roster, s.ports, rfl⟩, fun _ => SamePort.refl _⟩

/-- An operation on the course table alone. -/
theorem ServiceOnly.of_courses (s : State) (c : CourseTable) : ServiceOnly s { s with courses := c } :=
  ⟨⟨s.zones, s.line.permit, s.wares, s.restock, c, s.desk, s.roster, s.ports, rfl⟩, fun _ => SamePort.refl _⟩

theorem drawPlate_touches (z : ZoneId) (s : State) : ServiceOnly s (drawPlate z s) := by
  simp only [drawPlate]
  split
  · refine ServiceOnly.trans ?_ (testRestock_touches _ _).service
    refine ServiceOnly.trans ?_ (report_touches _ _ _).service
    split
    · exact (setCabinet_touches _ _ _).service.trans (setWare_touches _ _ _)
    · exact (setCabinet_touches _ _ _).service
  · exact ServiceOnly.refl s

theorem changeCourse_touches (c : CourseId) (f : Course → Course) (s : State) : ServiceOnly s (changeCourse c f s) := by
  unfold changeCourse
  split
  · exact ServiceOnly.of_courses s _
  · exact ServiceOnly.refl s

theorem passAt_touches (c : CourseId) (d : Option ZoneId) (s : State) (z : ZoneId) : ServiceOnly s (passAt c d s z) := by
  simp only [passAt]
  split
  · split
    · refine ServiceOnly.trans ?_ (changeCourse_touches _ _ _)
      split
      · exact (reservePlates_touches _ _ _).service
      · exact ((reservePlates_touches _ _ _).trans (testRestock_touches _ _)).service
    · exact ServiceOnly.refl s
  · exact ServiceOnly.refl s

theorem wakeListed_touches (s : State) (z : ZoneId) : StockOnly s (wakeListed s z) := by
  unfold wakeListed
  split
  · exact (wakeStandby_touches _ _).trans (testRestock_touches _ _)
  · exact StockOnly.refl s

theorem settleCourse_touches (c : CourseId) (fired : Bool) (s : State) : ServiceOnly s (settleCourse c fired s) := by
  simp only [settleCourse]
  split
  · split
    · split
      · exact (ServiceOnly.of_courses s _).trans (post_touches _ _ _ _).stock.service
      · split
        · exact (ServiceOnly.of_courses s _).trans ((clearEvent_touches _ _ _).trans (post_touches _ _ _ _)).stock.service
        · exact ServiceOnly.of_courses s _
    · refine ServiceOnly.trans ?_ (foldl_related StockOnly.refl StockOnly.trans _ wakeListed_touches _ _).service
      split
      · exact (ServiceOnly.of_courses s _).trans ((raise_touches _ _ _ _).trans (post_touches _ _ _ _)).stock.service
      · exact ServiceOnly.of_courses s _
  · exact ServiceOnly.refl s

theorem runPass_touches (c : CourseId) (d : Option ZoneId) (fired : Bool) (s : State) :
    ServiceOnly s (runPass c d fired s) := by
  unfold runPass
  split
  · exact (foldl_related ServiceOnly.refl ServiceOnly.trans _ (passAt_touches c d) _ s).trans (settleCourse_touches _ _ _)
  · exact ServiceOnly.refl s

theorem rerunCourses_touches (z : ZoneId) (s : State) : ServiceOnly s (rerunCourses z s) := by
  refine foldl_related ServiceOnly.refl ServiceOnly.trans _ (fun s c => ?_) _ s
  unfold rerunCourse
  split
  · split
    · exact runPass_touches _ _ _ _
    · exact ServiceOnly.refl s
  · exact ServiceOnly.refl s

theorem releaseCabinet_touches (z : ZoneId) (s : State) : ServiceOnly s (releaseCabinet z s) := by
  simp only [releaseCabinet]
  split
  · refine ServiceOnly.trans ?_ (foldl_related ServiceOnly.refl ServiceOnly.trans _ (fun s c => runPass_touches c _ _ s) _ _)
    refine ServiceOnly.trans ?_ (report_touches _ _ _).service
    refine ServiceOnly.trans ?_ (setCabinet_touches _ _ _).service
    exact foldl_related ServiceOnly.refl ServiceOnly.trans _ (fun s c => changeCourse_touches _ _ s) _ s
  · exact ServiceOnly.refl s

theorem freeCourse_touches (c : CourseId) (s : State) : ServiceOnly s (freeCourse c s) := ServiceOnly.of_courses s _

/-! ### Load points and the frame (Machine/Loads.lean, Machine/Frame.lean) -/

theorem PlacementOnly.refl (s : State) : PlacementOnly s s := ⟨_, _, rfl⟩

theorem PlacementOnly.trans {s t u : State} (h : PlacementOnly s t) (k : PlacementOnly t u) : PlacementOnly s u := by
  obtain ⟨lo, a, rfl⟩ := h
  obtain ⟨lo', a', rfl⟩ := k
  exact ⟨lo', a', rfl⟩

theorem PlacementOnly.zoneMove {s t : State} (h : PlacementOnly s t) : ZoneMoveOnly s t := by
  obtain ⟨lo, a, rfl⟩ := h
  exact ⟨⟨lo, a, s.zones, s.line.permit, s.line.racks, s.wares, s.restock, s.courses, s.desk, s.roster, s.ports, rfl⟩,
    fun _ => SamePort.refl _⟩

theorem cutLoad_touches (n : LoadId) (s : State) : PlacementOnly s (cutLoad n s) := by
  simp only [cutLoad]
  split
  · exact PlacementOnly.refl s
  · exact ⟨_, _, rfl⟩

/-- After a cut a load point has no on-slice from the current slice onward (R37). -/
theorem cutLoad_remaining (n : LoadId) (s : State) : remaining s.time.slice ((cutLoad n s).loads.get n) = [] := by
  simp only [cutLoad]
  split
  · assumption
  · simp only [State.setLoad, Table.get_set_same, remaining, List.filter_filter]
    refine List.filter_eq_nil_iff.mpr fun a _ h => ?_
    simp at h
    omega

/-- A cut leaves every other load point as it was. -/
theorem cutLoad_other {n m : LoadId} (s : State) (h : m ≠ n) : (cutLoad n s).loads.get m = s.loads.get m := by
  simp only [cutLoad]
  split
  · rfl
  · exact Table.get_set_ne _ _ h

/-- A cut load point keeps all but its on-slices and its cut flag. -/
theorem cutLoad_self (n : LoadId) (s : State) : ∃ l c, (cutLoad n s).loads.get n =
    { s.loads.get n with onSlices := l, cut := c } := by
  simp only [cutLoad]
  split
  · exact ⟨_, _, rfl⟩
  · exact ⟨_, _, Table.get_set_same _ _ _⟩

theorem cutLoads_touches (ns : List LoadId) (s : State) : PlacementOnly s (cutLoads ns s) :=
  foldl_related PlacementOnly.refl PlacementOnly.trans _ (fun s n => cutLoad_touches n s) ns s

theorem discardFrame_touches (s : State) : PlacementOnly s (discardFrame s) := by
  obtain ⟨lo, a, h⟩ := cutLoads_touches allLoads s
  simp only [discardFrame, h]
  exact ⟨lo, _, rfl⟩

theorem reverseWalk_touches (s : State) : PlacementOnly s (reverseWalk s) := by
  refine foldl_related PlacementOnly.refl PlacementOnly.trans _ (fun s n => ?_) _ s
  unfold walkStep
  split
  · exact PlacementOnly.refl s
  · split
    · exact cutLoad_touches _ _
    · exact PlacementOnly.refl s

theorem resolveLoad_touches (n : LoadId) (s : State) : PlacementOnly s (resolveLoad n s) := by
  simp only [resolveLoad]
  split
  · exact PlacementOnly.trans (s := s) ⟨_, s.alloc, rfl⟩ (cutLoad_touches _ _)
  · exact ⟨_, s.alloc, rfl⟩

/-! ### Entries of a zone into its states (Machine/ZoneMoves.lean) -/

theorem enterQuietly_touches (z : ZoneId) (st : ZoneState) (s : State) : StockOnly s (enterQuietly z st s) :=
  (moveZone_touches _ _ _).trans (testRestock_touches _ _)

theorem enterReady_touches (z : ZoneId) (s : State) : ServiceOnly s (enterReady z s) := by
  have first := ((moveZone_touches z .ready s).trans (post_touches .zoneState z.val ZoneState.ready.code _).stock).trans
    (refreshStandby_touches z _)
  simp only [enterReady]
  split
  · exact (first.service.trans (rerunCourses_touches _ _)).trans (testRestock_touches _ _).service
  · exact first.service

theorem enterPaused_touches (z : ZoneId) (s : State) : StockOnly s (enterPaused z s) :=
  ((moveZone_touches _ _ _).trans (post_touches _ _ _ _).stock).trans (testRestock_touches _ _)

theorem abortProgram_touches (z : ZoneId) (s : State) : StockOnly s (abortProgram z s) := by
  simp only [abortProgram]
  split
  · refine StockOnly.trans ?_ (post_touches _ _ _ _).stock
    split
    · exact (changeZone_touches _ _ _).trans (clearEvent_touches _ _ _).stock
    · exact changeZone_touches _ _ _
  · exact StockOnly.refl s

theorem endProgramOff_touches (z : ZoneId) (s : State) : StockOnly s (endProgramOff z s) := by
  unfold endProgramOff
  split
  all_goals first | exact abortProgram_touches _ _ | exact StockOnly.refl s

theorem endProgramFault_touches (z : ZoneId) (s : State) : StockOnly s (endProgramFault z s) := by
  unfold endProgramFault
  split
  all_goals first | exact abortProgram_touches _ _ | exact StockOnly.refl s

/-- An operation on the racks alone. -/
theorem ZoneMoveOnly.of_racks (s : State) (k : List Rack) : ZoneMoveOnly s { s with line := { s.line with racks := k } } :=
  ⟨⟨s.loads, s.alloc, s.zones, s.line.permit, k, s.wares, s.restock, s.courses, s.desk, s.roster, s.ports, rfl⟩,
    fun _ => SamePort.refl _⟩

theorem zeroMinimums_touches (z : ZoneId) (s : State) : ZoneMoveOnly s (zeroMinimums z s) := by
  simp only [zeroMinimums]
  by_cases hw : s.line.wash = some z
  · rw [if_pos hw]
    split
    · exact (ZoneMoveOnly.of_racks s _).trans (ZoneMoveOnly.of_racks _ _)
    · exact ZoneMoveOnly.of_racks s _
  · rw [if_neg hw]
    split
    · exact ZoneMoveOnly.of_racks s _
    · exact ZoneMoveOnly.refl s

theorem leaveService_touches (z : ZoneId) (st : ZoneState) (f : State → State) (hf : ∀ s, StockOnly s (f s)) (s : State) :
    ZoneMoveOnly s (leaveService z st f s) :=
  ((((moveZone_touches _ _ _).service.zoneMove.trans (zeroMinimums_touches _ _)).trans
    (cutLoads_touches _ _).zoneMove).trans (hf _).service.zoneMove).trans
    ((releaseCabinet_touches _ _).zoneMove.trans (closeTask_touches _ _ _).service.zoneMove)

theorem enterOff_touches (z : ZoneId) (f : State → State) (hf : ∀ s, PagingOnly s (f s)) (s : State) :
    ZoneMoveOnly s (enterOff z f s) :=
  ((leaveService_touches _ _ _ (endProgramOff_touches z) _).trans (hf _).stock.service.zoneMove).trans
    (post_touches _ _ _ _).stock.service.zoneMove

theorem enterFault_touches (z : ZoneId) (c : FaultCause) (s : State) : ZoneMoveOnly s (enterFault z c s) :=
  ((leaveService_touches _ _ _ (endProgramFault_touches z) _).trans (changeZone_touches _ _ _).service.zoneMove).trans
    ((raise_touches _ _ _ _).trans (post_touches _ _ _ _)).stock.service.zoneMove

theorem changeSetpoint_touches (z : ZoneId) (v : Nat) (s : State) : StockOnly s (changeSetpoint z v s) := by
  simp only [changeSetpoint]
  split
  · split
    · exact StockOnly.refl s
    · split
      all_goals first
        | exact (setZone_touches _ _ _).trans (enterQuietly_touches _ _ _)
        | exact setZone_touches _ _ _
  · exact StockOnly.refl s

theorem applyStep_touches (z : ZoneId) (k : Nat) (s : State) : StockOnly s (applyStep z k s) := by
  unfold applyStep
  split
  · split
    · split
      · exact (setZone_touches _ _ _).trans (changeSetpoint_touches _ _ _)
      · exact StockOnly.refl s
    · exact StockOnly.refl s
  · exact StockOnly.refl s

theorem finishProgram_touches (z : ZoneId) (s : State) : StockOnly s (finishProgram z s) := by
  simp only [finishProgram]
  split
  · exact ((changeZone_touches _ _ _).trans (changeSetpoint_touches _ _ _)).trans
      ((raise_touches _ _ _ _).trans (post_touches _ _ _ _)).stock
  · exact StockOnly.refl s

theorem holdProgram_touches (z : ZoneId) (s : State) : StockOnly s (holdProgram z s) := by
  simp only [holdProgram]
  split
  · exact (changeZone_touches _ _ _).trans ((raise_touches _ _ _ _).trans (post_touches _ _ _ _)).stock
  · exact StockOnly.refl s

end Sys2Proof.Machine
end

