-- ==== Sys2Proof/Laws/Transact.lean ====
section
/-! SUPPORT. What a transaction answers, said once: what the arbiter touches before it, what hearing a request touches, and what a
port command answers in each of the cases of R181 and R192. -/

namespace Sys2Proof.Machine

/-! ### Hearing a request -/

/-- Two ports that differ at most in slot, notices, overflow mark, timer and port state. -/
def SameSettings (a b : Port) : Prop := b.role = a.role ∧ b.csIgnored = a.csIgnored ∧ b.interval = a.interval

theorem SamePort.settings {a b : Port} (h : SamePort a b) : SameSettings a b := by
  obtain ⟨n, o, rfl⟩ := h
  exact ⟨rfl, rfl, rfl⟩

theorem SamePort.slot {a b : Port} (h : SamePort a b) : b.slot = a.slot := by
  obtain ⟨n, o, rfl⟩ := h
  rfl

/-- A frame touches only the page queue, the roster and the ports, whose settings it keeps. -/
theorem takeFrame_touches (p : PortId) (s : State) :
    (∃ d r q, takeFrame p s = { s with desk := d, roster := r, ports := q }) ∧
      ∀ q, SameSettings (s.ports.get q) ((takeFrame p s).ports.get q) ∧
        ((takeFrame p s).ports.get q).slot = (s.ports.get q).slot := by
  simp only [takeFrame]
  split
  · next hs =>
    have h := (clearEvent_touches .portSilent p.val (s.setPort p { s.ports.get p with silent := false })).trans
      (post_touches .portState p.val 1 _)
    obtain ⟨⟨d, r, q, e⟩, hp⟩ := h
    rw [e] at hp ⊢
    refine ⟨⟨d, r, _, rfl⟩, fun x => ?_⟩
    have hx := hp x
    simp only [State.setPort_ports, Table.get_set] at hx ⊢
    split at hx
    · next hxp =>
      subst hxp
      have h1 := hx.settings
      have h2 := hx.slot
      simp only [if_true]
      exact ⟨h1, h2⟩
    · next hxp =>
      rw [if_neg hxp]
      exact ⟨hx.settings, hx.slot⟩
  · refine ⟨⟨s.desk, s.roster, _, rfl⟩, fun x => ?_⟩
    simp only [State.setPort_ports, Table.get_set]
    split
    · next h => subst h; exact ⟨⟨rfl, rfl, rfl⟩, rfl⟩
    · exact ⟨⟨rfl, rfl, rfl⟩, rfl⟩

/-- Hearing a request touches only the page queue, the roster and the ports, whose settings it keeps. -/
theorem heard_touches (t : Transfer) (s : State) :
    (∃ d r q, heard t s = { s with desk := d, roster := r, ports := q }) ∧
      ∀ q, SameSettings (s.ports.get q) ((heard t s).ports.get q) := by
  obtain ⟨⟨d, r, q, e⟩, h⟩ := takeFrame_touches t.port s
  refine ⟨⟨d, r, _, by simp only [heard, openTransaction, clockOut, e]; rfl⟩, fun x => ?_⟩
  have hx := (h x).1
  simp only [heard, openTransaction, clockOut, State.setPort_ports, Table.get_set]
  split
  · next hp => subst hp; exact hx
  · exact hx

section
variable (t : Transfer) (s : State)

@[simp] theorem heard_pending : (heard t s).pending = s.pending := by
  obtain ⟨⟨_, _, _, e⟩, -⟩ := heard_touches t s; rw [e]
@[simp] theorem heard_chip : (heard t s).chip = s.chip := by obtain ⟨⟨_, _, _, e⟩, -⟩ := heard_touches t s; rw [e]
@[simp] theorem heard_pins : (heard t s).pins = s.pins := by obtain ⟨⟨_, _, _, e⟩, -⟩ := heard_touches t s; rw [e]
@[simp] theorem heard_time : (heard t s).time = s.time := by obtain ⟨⟨_, _, _, e⟩, -⟩ := heard_touches t s; rw [e]
@[simp] theorem heard_loads : (heard t s).loads = s.loads := by obtain ⟨⟨_, _, _, e⟩, -⟩ := heard_touches t s; rw [e]
@[simp] theorem heard_map : (heard t s).map = s.map := by obtain ⟨⟨_, _, _, e⟩, -⟩ := heard_touches t s; rw [e]
@[simp] theorem heard_alloc : (heard t s).alloc = s.alloc := by obtain ⟨⟨_, _, _, e⟩, -⟩ := heard_touches t s; rw [e]
@[simp] theorem heard_feed : (heard t s).feed = s.feed := by obtain ⟨⟨_, _, _, e⟩, -⟩ := heard_touches t s; rw [e]
@[simp] theorem heard_scan : (heard t s).scan = s.scan := by obtain ⟨⟨_, _, _, e⟩, -⟩ := heard_touches t s; rw [e]
@[simp] theorem heard_zones : (heard t s).zones = s.zones := by obtain ⟨⟨_, _, _, e⟩, -⟩ := heard_touches t s; rw [e]
@[simp] theorem heard_line : (heard t s).line = s.line := by obtain ⟨⟨_, _, _, e⟩, -⟩ := heard_touches t s; rw [e]
@[simp] theorem heard_wares : (heard t s).wares = s.wares := by obtain ⟨⟨_, _, _, e⟩, -⟩ := heard_touches t s; rw [e]
@[simp] theorem heard_restock : (heard t s).restock = s.restock := by obtain ⟨⟨_, _, _, e⟩, -⟩ := heard_touches t s; rw [e]
@[simp] theorem heard_courses : (heard t s).courses = s.courses := by obtain ⟨⟨_, _, _, e⟩, -⟩ := heard_touches t s; rw [e]
@[simp] theorem heard_link : (heard t s).link = s.link := by obtain ⟨⟨_, _, _, e⟩, -⟩ := heard_touches t s; rw [e]
@[simp] theorem heard_role (p : PortId) : ((heard t s).ports.get p).role = (s.ports.get p).role :=
  ((heard_touches t s).2 p).1
@[simp] theorem heard_csIgnored (p : PortId) : ((heard t s).ports.get p).csIgnored = (s.ports.get p).csIgnored :=
  ((heard_touches t s).2 p).2.1
@[simp] theorem heard_interval (p : PortId) : ((heard t s).ports.get p).interval = (s.ports.get p).interval :=
  ((heard_touches t s).2 p).2.2

end

/-- The slot in which a request finds its port: empty where a reply was clocked out (R182). -/
theorem heard_slot (t : Transfer) (s : State) :
    ((heard t s).ports.get t.port).slot = readSlot (s.ports.get t.port).slot t.clocked := by
  simp [heard, openTransaction, clockOut, ((takeFrame_touches t.port s).2 t.port).2]

/-! ### The arbiter before it -/

/-- Where no grant is due the arbiter leaves the state as it is. -/
theorem arbitrate_settled {s : State} (h : Settled s) : arbitrate s = s := by
  have hd : grantDue s = none := by
    unfold grantDue
    split
    · rfl
    · next hf =>
      simp only [linkFree, Bool.and_eq_false_imp, beq_eq_false_iff_ne, not_forall, not_not] at hf
      obtain ⟨hu, ho⟩ := hf
      obtain ⟨hc, hr, hn⟩ := h hu (by simpa using ho)
      simp [hc, hr, hn]
  simp [arbitrate, hd]

/-- Sending a message touches the link alone. -/
theorem sendMessage_touches (o : Outstanding) (frame : List Byte) (s : State) :
    ∃ l, sendMessage o frame s = { s with link := l } := ⟨_, rfl⟩

theorem offerPage_touches (p : Page) (e : EntryId) (s : State) :
    ∃ d r l, offerPage p e s = { s with desk := d, roster := r, link := l } := by
  simp only [offerPage]
  split
  · split
    · exact ⟨_, _, _, rfl⟩
    · exact ⟨_, _, _, rfl⟩
  all_goals exact ⟨_, _, _, rfl⟩

/-- The arbiter touches the Paging Controller and the link alone. -/
theorem arbitrate_touches (s : State) : ∃ d r l, arbitrate s = { s with desk := d, roster := r, link := l } := by
  unfold arbitrate
  split
  · unfold grantCancel
    split
    · split
      · exact ⟨_, s.roster, _, rfl⟩
      · exact ⟨s.desk, s.roster, s.link, rfl⟩
    · exact ⟨s.desk, s.roster, s.link, rfl⟩
  · unfold grantReOffer
    split
    · split
      · dsimp only
        split
        · split
          · exact ⟨_, s.roster, _, rfl⟩
          · exact ⟨_, s.roster, s.link, rfl⟩
        · exact ⟨_, s.roster, s.link, rfl⟩
      · exact ⟨s.desk, s.roster, s.link, rfl⟩
    · exact ⟨s.desk, s.roster, s.link, rfl⟩
  · unfold grantOffer
    split
    · split
      · exact offerPage_touches _ _ _
      · exact ⟨s.desk, s.roster, s.link, rfl⟩
    · exact ⟨s.desk, s.roster, s.link, rfl⟩
  · exact ⟨s.desk, s.roster, s.link, rfl⟩

/-! ### What a port command answers -/

/-- R192: in reset nothing is taken. -/
theorem command_held {t : Transfer} {roles : List Role} {body : State → Answer} {s : State} (h : s.running = false) :
    command t roles body s = .next s := by
  simp [command, transaction, h]

/-- R192: a chip select that was low when the part left reset is ignored until it rises. -/
theorem command_ignored {t : Transfer} {roles : List Role} {body : State → Answer} {s : State} (h : Quiet s)
    (hc : (s.ports.get t.port).csIgnored = true) :
    command t roles body s = .next (s.setPort t.port { s.ports.get t.port with csIgnored := false }) := by
  simp [command, transaction, h.1, arbitrate_settled h.2, hc]

/-- R181: a command from a role without it is DENIED. -/
theorem command_denied {t : Transfer} {roles : List Role} {body : State → Answer} {s : State} (h : Quiet s)
    (hc : (s.ports.get t.port).csIgnored = false) (hr : (s.ports.get t.port).role ∉ roles) :
    command t roles body s = .next (refusedWith t .denied s) := by
  have e := heard_role t s t.port
  simp only [heard] at e
  simp [command, transaction, h.1, arbitrate_settled h.2, hc, judge, e, hr, refusedWith, answered, heard, refuse]

/-- R181: a payload length that the command does not carry is refused with RANGE. -/
theorem command_badLength {t : Transfer} {roles : List Role} {body : State → Answer} {s : State} (h : Quiet s)
    (hc : (s.ports.get t.port).csIgnored = false) (hr : (s.ports.get t.port).role ∈ roles) (hl : t.lengthOk = false) :
    command t roles body s = .next (refusedWith t .range s) := by
  have e := heard_role t s t.port
  simp only [heard] at e
  simp [command, transaction, h.1, arbitrate_settled h.2, hc, judge, e, hr, hl, refusedWith, answered, heard, refuse]

/-- R181: otherwise the command's own checks and effect apply to the state in which it is heard. -/
theorem command_judged {t : Transfer} {roles : List Role} {body : State → Answer} {s : State} (h : Judged t roles s) :
    command t roles body s = .next (placeAnswer t.port (body (heard t s))) := by
  obtain ⟨h, hc, hr, hl⟩ := h
  have e := heard_role t s t.port
  simp only [heard] at e
  simp [command, transaction, h.1, arbitrate_settled h.2, hc, judge, e, hr, hl, heard]

/-- An event of a part that runs: the grant that is due comes first. -/
theorem event_running {f : State → State} {s : State} (h : s.running = true) : event f s = .next (f (arbitrate s)) := by
  simp [event, h]

/-- An event of a part that runs with no grant due. -/
theorem event_quiet {f : State → State} {s : State} (h : Quiet s) : event f s = .next (f s) := by
  simp [event_running h.1, arbitrate_settled h.2]

/-- A grant of the arbiter, of a part that runs. -/
theorem grant_running {f : State → State} {s : State} (h : s.running = true) : grant f s = .next (f s) := by
  simp [grant, h]

/-- R192: an event of a part held in reset. -/
theorem event_held {f : State → State} {s : State} (h : s.running = false) : event f s = .next s := by
  simp [event, h]

end Sys2Proof.Machine
end

