-- ==== Sys2Proof/Tests/Slice0.lean ====
section
/-! SUPPORT. Tests of the model: what WellFormed refuses, transactions and link messages written out byte by byte from R171 and
R190, single steps with results worked out from the manual, and, for each statement with hypotheses, a state and operands that
meet them, at the ends of their ranges. -/

namespace Sys2Proof.Machine

set_option Elab.async false
set_option synthInstance.maxSize 1024

/-! ### A small kitchen

Ports A to D are PRODUCTION, WAREWASH, BANQUET and ENERGY. Zone 0 is an oven with load point 0, zone 1 a warmer, zones 2 and 3
the wash tank and the booster. -/

/-- A transfer of a port: five bytes clocked, a payload length that the command carries. -/
def via (p : PortId) : Transfer := { port := p, clocked := 5, lengthOk := true }
def prod : Transfer := via 0
def ware : Transfer := via 1
def banq : Transfer := via 2
def ener : Transfer := via 3

def ovenProgram : Program :=
  { draft := Table.build 8 fun i =>
      if i.val < 2 then some { setpoint := 1200, soakTime := 0, duration := 10, action := .next } else none
    state := .loaded
    steps := [{ setpoint := 1200, soakTime := 0, duration := 10, action := .pageHold },
      { setpoint := 1400, soakTime := 60, duration := 5, action := .pageNext }]
    hold := 500, current := 0, timer := 0, lastRun := 0 }

def ovenZone : Zone :=
  { kind := .oven, owner := 0, channel := 0, loads := [0], level := 1, group := .any, setpoint := 1000, fallback := 800
    standby := none, band := 40, tolerance := 20, soakTime := 30, margin := 60, recoverLimit := 60, active := 1000
    state := .off, soakTimer := none, recoverTimer := none, slowRaised := false, standbyTimer := none, overCount := 0
    overArmed := false, faultCause := .none, cleanCount := 0, duty := 0, program := some ovenProgram, cabinet := none }

def shelf : Cabinet := { kind := some 0, capacity := 100, low := 10, high := 40, stock := 20, reserved := 5 }

def warmerZone : Zone :=
  { ovenZone with
    kind := .warmer, channel := 1, loads := [1], setpoint := 700, fallback := 650, standby := some 400, soakTime := 0
    active := 700, state := .ready, program := none, cabinet := some shelf }

def washZone : Zone :=
  { ovenZone with
    kind := .washTank, owner := 1, channel := 2, loads := [2], setpoint := 650, fallback := 600, active := 650
    state := .ready, program := none }

def boosterZone : Zone :=
  { washZone with kind := .rinseBooster, channel := 3, loads := [3], setpoint := 850, fallback := 800, active := 850 }

def gala : Course :=
  { short := true, room := 1, kind := 0, covers := 30, plated := 0, group := .any, cabinets := [], entries := [(1, 5)]
    fired := 0 }

def fryCook : Staff :=
  { address := 100, role := .cook, group := 0, duty := .paged, current := some 0, suspended := none, since := 0 }

def callOut : Page :=
  { id := 0, source := 5, cause := 128, object := 3, role := .cook, group := .any, level := 1, closure := .task
    state := .offered, target := some 0, step := 0, excluded := none, ackTimer := some 6000, created := 0 }

def tray (tag : Nat) (st : Stage) : Rack :=
  { tag := tag, kind := 0, count := 10, stage := st, washMin := 640, rinseMin := if st = .wash then none else some 830
    verdict := if st = .done then .clean else .pending, entered := 0 }

/-- The kitchen in service: 175 plates of kind 0, 30 of them in racks; load point 0 placed in slices 5 and 50. -/
def kitchen : State :=
  { State.reset with
    time := { TimeBase.reset with clock := 86399 }
    loads := Table.build 48 fun n =>
      if n.val < 4 then
        { LoadPoint.reset with
          rating := 50, binding := some (Fin.ofNat 32 n.val), effective := .deferrable, resolved := .deferrable
          deciding := .default, requested := 5, granted := if n.val = 0 then 2 else 0
          onSlices := if n.val = 0 then [5, 50] else [], placed := 50 }
      else LoadPoint.reset
    map := { ClassMap.reset with enabled := true, default := .deferrable }
    alloc :=
      { Allocator.reset with
        sums := Table.build 100 fun i => if i.val = 5 ∨ i.val = 50 then 50 else 0, order := [0], limit := 60
        limitSetting := 60 }
    feed := { Feed.reset with state := .normal, reading := 100 }
    zones := Table.build 32 fun z =>
      if z.val = 0 then some { ovenZone with state := .ready }
      else if z.val = 1 then some warmerZone
      else if z.val = 2 then some washZone
      else if z.val = 3 then some boosterZone
      else none
    line :=
      { DishLine.reset with
        configured := true, wash := some 2, booster := some 3, permit := true, racks := [tray 7 .done,
            tray 8 .rinse, tray 9 .wash] }
    wares := Table.build 8 fun k =>
      if k.val = 0 then { defined := true, total := 175, soiled := 30, clean := 85, out := 10 } else Ware.reset
    courses := { slots := Table.build 16 fun c => if c.val = 0 then some gala else none, order := [0] }
    roster :=
      { Roster.reset with
        entries := Table.build 64 fun e =>
          if e.val = 0 then fryCook
          else if e.val = 1 then { fryCook with address := 101, duty := .free, current := none }
          else Staff.reset
        free := Table.build 5 fun r => if r.val = 2 then [1] else [] }
    desk := { PageDesk.reset with pages := [callOut], nextId := 1 }
    link :=
      { Link.reset with
        up := true, outstanding := .page 0 100, responseTimer := some 200, probeDue := false } }

/-- The kitchen with one zone's record changed. -/
def with_ (z : ZoneId) (r : Zone) : State := kitchen.setZone z r

/-- The kitchen with its link free. -/
def idleLink : State := { kitchen with link := { kitchen.link with outstanding := .none } }

/-- The kitchen with its link free and a second page waiting for a cook. -/
def waitingPage : State :=
  { idleLink with desk := { kitchen.desk with pages := [callOut, { callOut with id := 5, state := .queued, target := none }] } }

/-- The oven with its program in a state at a step, the zone in a state of its own. -/
def baking (st : ZoneState) (g : ProgramState) (k : Nat) : Zone :=
  { ovenZone with state := st, program := some { ovenProgram with state := g, current := k, timer := 1 } }

/-- The kitchen held in reset. -/
def held : State := { kitchen with chip := { phase := .held true, cause := .pin } }

/-- What a field of the next state is, none where there is no next state. -/
def after {α : Type} (r : Result) (f : State → α) : Option α :=
  match r with
  | .next t => some (f t)
  | .fault _ => none
  | .refused _ => none

/-- The status of the reply that a command places in its port's slot. -/
def statusOf (t : Transfer) (i : Instr) (s : State) : Option (Option Status) :=
  after (exec i s) fun u => ((u.ports.get t.port).slot).map (·.status)

/-! ### What WellFormed refuses -/

theorem test_wide_rating_ill_formed : wellFormed (.loadSet prod 0 65536) = false := by decide
theorem test_wide_number_ill_formed : wellFormed (.loadQuery prod 256) = false := by decide
theorem test_wide_time_ill_formed : wellFormed (.clockSet banq 16777216) = false := by decide
theorem test_wide_amount_ill_formed : wellFormed (.wareAdjust { ware with clocked := 9 } 0 0 0 32768) = false := by decide
theorem test_long_load_list_ill_formed :
    wellFormed (.zoneDefine { prod with clocked := 40 } { ZoneSettings.blank with loads := List.replicate 11 0 }) = false := by
  decide
theorem test_long_cabinet_list_ill_formed :
    wellFormed (.courseFire { banq with clocked := 40 } 0 0 1 255 (List.replicate 25 0)) = false := by decide
theorem test_wide_line_item_ill_formed :
    wellFormed (.lineConfig { ware with clocked := 12 } { LineSettings.blank with washThreshold := 65536 }) = false := by decide
theorem test_wide_ack_ill_formed : wellFormed (.ack 0 65536 1) = false := by decide
theorem test_short_transfer_ill_formed : wellFormed (.loadSet { prod with clocked := 4 } 0 0) = false := by decide
theorem test_empty_read_ill_formed : wellFormed (.readTransaction 0 0) = false := by decide
theorem test_lone_unknown_ill_formed : wellFormed (.unknown 0 1) = false := by decide
theorem test_exact_transfer_well_formed : wellFormed (.loadSet prod 255 65535) = true := by decide

/-! ### Requests written out from R190 and 11 section 11.4, one for each family, and station messages from R171 -/

theorem test_reads_nop : decodeTransaction 0 [0x00, 0x00] = some (.nop { port := 0, clocked := 2, lengthOk := true }) := by
  decide
theorem test_reads_map_window :
    decodeTransaction 3 [0x13, 0x05, 0x02, 0x30, 0x3C, 0x01, 0x01] =
      some (.mapWindow { port := 3, clocked := 7, lengthOk := true } 2 48 60 1 1) := by decide
theorem test_reads_feed_limit :
    decodeTransaction 3 [0x21, 0x02, 0x27, 0x0F, 0xFF, 0xFF] =
      some (.feedLimit { port := 3, clocked := 6, lengthOk := true } 9999) := by decide
theorem test_reads_feed_config :
    decodeTransaction 3 [0x24, 0x04, 85, 90, 3, 10] =
      some (.feedConfig { port := 3, clocked := 6, lengthOk := true } 85 90 3 10) := by decide
theorem test_reads_zone_define :
    decodeTransaction 0 [0x31, 0x16, 5, 1, 9, 2, 10, 11, 3, 0xFF, 0x02, 0xBC, 0x02, 0x8A, 0x01, 0x90, 40, 20, 0,
        30, 0, 60, 1, 0] =
      some (.zoneDefine { port := 0, clocked := 24, lengthOk := true }
        { zone := 5, kind := 1, channel := 9, loads := [10, 11], level := 3, group := 255, setpoint := 700, fallback := 650
          standby := 400, band := 40, tolerance := 20, soakTime := 30, margin := 60, recoverLimit := 256 }) := by decide
theorem test_reads_program_step :
    decodeTransaction 0 [0x40, 0x09, 4, 1, 0x04, 0xB0, 0, 30, 0, 10, 2] =
      some (.programStep { port := 0, clocked := 11, lengthOk := true } 4 1 1200 30 10 2) := by decide
theorem test_reads_rack_load :
    decodeTransaction 1 [0x51, 0x03, 200, 7, 40] =
      some (.rackLoad { port := 1, clocked := 5, lengthOk := true } 200 7 40) := by decide
theorem test_reads_a_removal :
    decodeTransaction 1 [0x61, 0x05, 0, 1, 0, 0xD8, 0xF1] =
      some (.wareAdjust { port := 1, clocked := 7, lengthOk := true } 0 1 0 (-9999)) := by decide
theorem test_reads_course_fire :
    decodeTransaction 2 [0x70, 0x08, 63, 0, 0x07, 0xD0, 0xFF, 2, 1, 5] =
      some (.courseFire { port := 2, clocked := 10, lengthOk := true } 63 0 2000 255 [1, 5]) := by decide
theorem test_reads_page_send :
    decodeTransaction 2 [0x83, 0x05, 4, 7, 1, 128, 255] =
      some (.pageSend { port := 2, clocked := 7, lengthOk := true } 4 7 1 128 255) := by decide
theorem test_reads_link_query :
    decodeTransaction 1 [0x88, 0x00, 0xFF] = some (.linkQuery { port := 1, clocked := 3, lengthOk := true }) := by decide
theorem test_wrong_length_is_kept_for_the_judgement :
    decodeTransaction 0 [0x10, 0x01, 5] = some (.loadSet { port := 0, clocked := 3, lengthOk := false } 0 0) := by decide
theorem test_short_frame : decodeTransaction 0 [0x10, 0x03, 5] = some (.frameError 0 3) := by decide
theorem test_long_frame : decodeTransaction 0 [0x00, 0x00, 0x01] = some (.frameError 0 3) := by decide
theorem test_fill_is_a_read : decodeTransaction 2 [0xFF, 0xFF, 0xFF] = some (.readTransaction 2 3) := by decide
theorem test_ack_message_adds_up :
    linkFrame 0x83 (bigEndian 1 7 ++ bigEndian 2 500 ++ [0x01]) = [0xA5, 0x83, 0x07, 0x01, 0xF4, 0x01, 0x80] := by decide
theorem test_page_message_adds_up : pageFrame 7 500 48 1 2 = [0xA5, 0x01, 0x07, 0x01, 0xF4, 0x30, 0x01, 0x02, 0xD0] := by
  decide
theorem test_probe_message_adds_up : probeFrame = [0xA5, 0x03, 0xFD] := by decide
theorem test_last_byte_of_an_ack_is_taken :
    receive [0xA5, 0x83, 0x07, 0x01, 0xF4, 0x01] 0x80 false = ([], some (.ack 7 500 1)) := by decide

/-! ### Single steps: the ports, the clock and the queue -/

theorem test_nop_replies_ok :
    after (exec (.nop prod) kitchen) (fun u => (u.ports.get 0).slot) =
      some (some { status := .ok, overrun := false, noticeOverflow := false, data := [] }) := by decide +kernel
theorem test_unread_reply_is_overrun :
    after (exec (.nop { prod with clocked := 2 }) (kitchen.setPort 0 { kitchen.ports.get 0 with
        slot := some { status := .ok, overrun := false, noticeOverflow := false, data := [] } }))
      (fun u => ((u.ports.get 0).slot).map (·.overrun)) = some (some true) := by decide +kernel
theorem test_status_data :
    after (exec (.status prod) kitchen) (fun u => ((u.ports.get 0).slot).map (·.data)) =
      some (some [0, 0, 1, 0, 0, 0, 0, 0, 0, 0x01, 0x51, 0x7F, 0, 0]) := by decide +kernel
theorem test_notice_leaves_the_queue :
    after (exec (.readNotice ware) (post .lineFault 2 256 kitchen)) (fun u => ((u.ports.get 1).notices,
        ((u.ports.get 1).slot).map (·.data))) =
      some ([], some [5, 2, 1, 0, 0x01, 0x51, 0x7F, 0]) := by decide +kernel
theorem test_no_notice_is_empty :
    statusOf prod (.readNotice prod) kitchen = some (some .empty) := by decide +kernel
theorem test_last_second_is_taken :
    statusOf banq (.clockSet banq 86399) kitchen = some (some .ok) := by decide +kernel
theorem test_clock_is_denied_to_production :
    statusOf prod (.clockSet prod 0) kitchen = some (some .denied) := by decide +kernel
theorem test_midnight :
    after (exec .kitchenClockAdvance kitchen) (·.time.clock) = some 0 := by decide +kernel
theorem test_longest_interval :
    after (exec (.superviseSet prod 255) kitchen) (fun u => (u.ports.get 0).timer) = some (some 25500) := by decide +kernel
theorem test_silence_pauses_owned_zones :
    after (exec (.supervisionTimerExpiry 0) (kitchen.setPort 0 { kitchen.ports.get 0 with interval := 1, timer := some 0 }))
      (fun u => ((u.ports.get 0).silent, u.zoneState 0, u.zoneState 1, u.zoneState 2)) =
          some (true, .paused, .paused, .ready) := by decide +kernel
theorem test_read_places_no_reply :
    after (exec (.readTransaction 0 3) kitchen) (fun u => (u.ports.get 0).slot) = some none := by decide +kernel
theorem test_frame_error_is_answered :
    statusOf banq (.frameError 2 1) kitchen = some (some .frameError) := by decide +kernel
theorem test_unknown_is_answered :
    statusOf banq (.unknown 2 2) kitchen = some (some .unknown) := by decide +kernel
theorem test_step_takes_the_front :
    after (step { kitchen with pending := [.kitchenClockAdvance, .alive] }) (fun u => (u.pending, u.time.clock)) =
        some ([.alive], 0) := by decide +kernel
theorem test_idle_part_ticks :
    after (step kitchen) (fun u => (u.time.clockTicks, u.time.sliceTicks, u.scan.position)) =
        some (1, 1, 1) := by decide +kernel

/-! ### Single steps: load points, the map, the frame and the feed -/

theorem test_load_set_cuts_from_the_current_slice :
    after (exec (.loadSet prod 0 400) { kitchen with time := { kitchen.time with slice := 50 } })
      (fun u => ((u.loads.get 0).onSlices, (u.loads.get 0).granted, (u.loads.get 0).cut, u.alloc.sums.get 50,
          u.alloc.sums.get 5)) =
      some ([5], 2, true, 0, 50) := by decide +kernel
theorem test_load_query_data :
    after (exec (.loadQuery prod 0) kitchen) (fun u => ((u.ports.get 0).slot).map (·.data)) =
      some (some [0, 0, 50, 0, 2, 2, 5, 2, 0, 2, 0, 0, 0]) := by decide +kernel
theorem test_lockout_is_in_force_at_once :
    after (exec (.mapDefault ener 3) kitchen) (fun u => ((u.loads.get 0).effective, (u.loads.get 0).onSlices,
        u.alloc.sums.get 5)) =
      some (.lockout, [], 0) := by decide +kernel
theorem test_other_classes_wait :
    after (exec (.mapFixed ener 0 0) { kitchen with map := { kitchen.map with fixedEnabled := true } })
      (fun u => ((u.loads.get 0).effective, (u.loads.get 0).resolved)) = some (.deferrable, .essential) := by decide +kernel
theorem test_high_window_bits_are_discarded :
    statusOf ener (.mapWindow ener 5 64 63 1 1) kitchen = some (some .clamped) := by decide +kernel
theorem test_map_off_locks_out :
    after (exec (.mapEnable ener 0 0) kitchen) (fun u => (u.loads.get 0).effective) = some .lockout := by decide +kernel
theorem test_other_setting_bytes_refuse_no_enable :
    statusOf ener (.mapEnable ener 2 255) kitchen = some (some .ok) :=
  (by decide +kernel : ∀ a b : Bool, after (command ener [.energy] (fun s =>
      accept (changeMap { s.map with enabled := a, fixedEnabled := b } s)) kitchen)
    (fun u => ((u.ports.get 3).slot).map (·.status)) = some (some .ok)) (Config.otherMapEnable 2) (Config.otherFixedEnable 255)
theorem test_slice_length_waits :
    after (exec (.frameSet ener 10) kitchen) (fun u => (u.time.sliceLength, u.time.slicePending)) =
        some (4, 10) := by decide +kernel
theorem test_lower_limit_cuts :
    after (exec (.feedLimit ener 49) kitchen) (fun u => (u.alloc.limit, (u.loads.get 0).onSlices,
        u.alloc.sums.get 50)) = some (49, [], 0) := by decide +kernel
theorem test_limit_walk_stops_where_it_fits :
    after (exec (.feedLimit ener 60) { kitchen with
        loads := kitchen.loads.set 1 { kitchen.loads.get 1 with granted := 1, onSlices := [5] }
        alloc := { kitchen.alloc with sums := kitchen.alloc.sums.set 5 100, order := [0, 1], limit := 100 } })
      (fun u => ((u.loads.get 0).onSlices, (u.loads.get 1).onSlices, u.alloc.sums.get 5)) = some ([5, 50], [], 50) := by
  decide +kernel
theorem test_raised_limit_waits :
    after (exec (.feedLimit ener 9999) kitchen) (fun u => (u.alloc.limit, u.alloc.limitSetting)) =
        some (60, 9999) := by decide +kernel
theorem test_shed_level_cuts_deferrable :
    after (exec (.shedLevel ener 1) kitchen) (fun u => (u.alloc.shed, (u.loads.get 0).onSlices)) =
        some (1, []) := by decide +kernel
theorem test_slice_before_the_last :
    after (exec .sliceAdvance { kitchen with time := { kitchen.time with slice := 98 } }) (fun u => (u.time.slice,
        u.time.frame)) = some (99, 0) := by decide +kernel
theorem test_boundary_grants_what_fits :
    after (exec .frameBoundary kitchen)
      (fun u => (u.time.frame, (u.loads.get 0).granted, (u.loads.get 1).granted, (u.loads.get 1).deficit,
          u.alloc.sums.get 99, u.alloc.peak)) =
      some (1, 100, 0, 1, 50, 50) := by decide +kernel
theorem test_sag_counts_below_the_threshold :
    after (exec (.feedConversion 2320) kitchen) (fun u => (u.feed.reading, u.feed.sagCount)) = some (84, 1) := by decide +kernel
theorem test_sag_discards_the_frame :
    after (exec (.feedConversion 2320) { kitchen with feed := { kitchen.feed with sagCount := 2 } })
      (fun u => (u.feed.state, (u.loads.get 0).onSlices, u.alloc.sums.get 5, u.line.permit)) =
          some (.sag, [], 0, false) := by decide +kernel
theorem test_restore_becomes_due :
    after (exec .waitTimerExpiry { kitchen with feed := { kitchen.feed with state := .restoreWait, waitTimer := some 0 } })
      (·.feed.restoreDue) = some true := by decide +kernel
theorem test_restore_threshold_above_sag_by_three :
    statusOf ener (.feedConfig ener 95 97 1 1) kitchen = some (some .range) := by decide +kernel

/-! ### Single steps: zones and programs -/

theorem test_short_code_counts :
    after (exec (.sensorConversion 8) kitchen) (fun u => ((u.scan.channels.get 0).rail, u.scan.position)) =
        some (1, 1) := by decide +kernel
theorem test_third_rail_code_faults :
    after (exec (.sensorConversion 4087) { kitchen with
        scan := { kitchen.scan with channels := kitchen.scan.channels.set 0 { code := 0, reading := 0, rail := 2 } } })
      (fun u => (u.zoneState 0, (u.loads.get 0).onSlices, u.desk.pages.map (·.cause))) =
          some (.fault, [], [128, 2]) := by decide +kernel
theorem test_absolute_limit_is_allowed :
    after (exec (.sensorConversion 3841) kitchen) (fun u => ((u.scan.channels.get 0).reading, u.zoneState 0)) =
        some (3000, .ready) := by decide +kernel
theorem test_above_the_absolute_limit_faults :
    after (exec (.sensorConversion 3842) kitchen) (fun u => (u.zoneState 0, (u.zones.get 0).map (·.faultCause))) =
        some (.fault, some .absolute) := by decide +kernel
theorem test_below_the_window_recovers :
    after (exec (.sensorConversion 1254) kitchen) (fun u => ((u.scan.channels.get 0).reading, u.zoneState 0)) =
        some (979, .recover) := by decide +kernel
theorem test_third_over_reading_faults :
    after (exec (.sensorConversion 1359) (with_ 0 { ovenZone with state := .ready, overArmed := true, overCount := 2 }))
      (fun u => (u.zones.get 0).map fun r => (r.state, r.faultCause)) = some (some (.fault, .overMargin)) := by decide +kernel
theorem test_zone_define_clamps :
    after (exec (.zoneDefine prod {
        zone := 31, kind := 0, channel := 31, loads := [47], level := 3, group := 7, setpoint := 2900,
            fallback := 300, standby := 0, band := 5, tolerance := 5, soakTime := 600, margin := 50,
            recoverLimit := 900 }) kitchen)
      (fun u => ((u.zones.get 31).map (·.setpoint), (u.loads.get 47).binding, ((u.ports.get 0).slot).map (·.status))) =
      some (some 2800, some 31, some .clamped) := by decide +kernel
theorem test_bound_load_point_conflicts :
    statusOf prod (.zoneDefine prod {
        zone := 31, kind := 0, channel := 31, loads := [0], level := 3, group := 7, setpoint := 2000,
            fallback := 300, standby := 0, band := 5, tolerance := 5, soakTime := 600, margin := 50,
            recoverLimit := 900 }) kitchen =
      some (some .conflict) := by decide +kernel
theorem test_new_setpoint_preheats :
    after (exec (.zoneSetpoint prod 0 1001 800 0) kitchen) (fun u => (u.zones.get 0).map fun r => (r.state, r.active)) =
      some (some (.preheat, 1001)) := by decide +kernel
theorem test_start_preheats :
    after (exec (.zoneStart prod 0) (with_ 0 ovenZone)) (fun u => u.zoneState 0) = some .preheat := by decide +kernel
theorem test_start_needs_off :
    statusOf prod (.zoneStart prod 0) kitchen = some (some .state) := by decide +kernel
theorem test_stop_cuts :
    after (exec (.zoneStop prod 0) kitchen) (fun u => (u.zoneState 0, (u.loads.get 0).onSlices,
        u.alloc.sums.get 50)) = some (.off, [], 0) := by decide +kernel
theorem test_pause_regulates_to_the_fallback :
    after (exec (.zonePause prod 0) kitchen) (fun u => (u.zones.get 0).map fun r => (r.state, r.active)) =
        some (some (.paused, 800)) := by decide +kernel
theorem test_resume_preheats :
    after (exec (.zoneResume prod 0) (with_ 0 { ovenZone with state := .paused })) (fun u => u.zoneState 0) =
        some .preheat := by decide +kernel
theorem test_clear_needs_three_clean_conversions :
    statusOf prod (.zoneClear prod 0) (with_ 0 { ovenZone with state := .fault, cleanCount := 2 }) =
        some (some .state) := by decide +kernel
theorem test_clear_enters_off :
    after (exec (.zoneClear prod 0) (with_ 0 { ovenZone with state := .fault, cleanCount := 3 })) (fun u =>
        u.zoneState 0) = some .off := by decide +kernel
theorem test_soak_ends_in_ready :
    after (exec (.soakTimerExpiry 0) (with_ 0 { ovenZone with state := .soak, soakTimer := some 0 })) (fun u =>
        u.zoneState 0) = some .ready := by decide +kernel
theorem test_slow_zone_is_paged_once :
    after (exec (.recoverTimerLimit 0) (with_ 0 { ovenZone with state := .recover, recoverTimer := some 6000 }))
      (fun u => ((u.zones.get 0).map (·.slowRaised), u.desk.pages.map (·.cause))) =
          some (some true, [128, 67]) := by decide +kernel
theorem test_standby_setpoint :
    after (exec (.standbyTimerExpiry 1) (with_ 1 { warmerZone with standbyTimer := some 0 }))
      (fun u => (u.zones.get 1).map fun r => (r.state, r.active)) = some (some (.standby, 400)) := by decide +kernel
theorem test_draft_slot_is_clamped :
    statusOf prod (.programStep prod 0 8 299 0 1 2) kitchen = some (some .clamped) := by decide +kernel
theorem test_unset_draft_slot_is_not_found :
    statusOf prod (.programLoad prod 0 3 500) kitchen = some (some .notFound) := by decide +kernel
theorem test_program_starts_at_step_one :
    after (exec (.programRun prod 0) (with_ 0 ovenZone))
      (fun u => (u.zones.get 0).map fun r => (r.state, r.setpoint, r.program.map fun g => (g.current, g.timer))) =
      some (some (.preheat, 1200, some (1, 60000))) := by decide +kernel
theorem test_page_hold_holds :
    after (exec (.stepTimerExpiry 0) (with_ 0 (baking .ready .running 1)))
      (fun u => ((u.zones.get 0).map fun r => r.program.map (·.state), u.desk.pages.map (·.cause))) =
      some (some (some .held), [128, 65]) := by decide +kernel
theorem test_last_step_ends_in_done :
    after (exec (.stepTimerExpiry 0) (with_ 0 (baking .recover .running 2)))
      (fun u => ((u.zones.get 0).map fun r => (r.setpoint, r.program.map (·.state)), u.desk.pages.map (·.cause))) =
      some (some (500, some .done), [128, 66]) := by decide +kernel
theorem test_advance_applies_the_next_step :
    after (exec (.programAdvance prod 0) (with_ 0 (baking .ready .held 1)))
      (fun u => (u.zones.get 0).map fun r => (r.state, r.setpoint, r.soakTime, r.program.map (·.timer))) =
      some (some (.preheat, 1400, 60, some 30000)) := by decide +kernel
theorem test_abort_keeps_the_zone :
    after (exec (.programAbort prod 0) (with_ 0 (baking .ready .held 2)))
      (fun u => (u.zones.get 0).map fun r => (r.state, r.program.map fun g => (g.state, g.lastRun))) =
      some (some (.ready, some (.aborted, 2))) := by decide +kernel

/-! ### Single steps: the dish line, wares and courses -/

theorem test_line_config_needs_an_empty_queue :
    statusOf ware (.lineConfig ware {
        wash := 2, booster := 3, washThreshold := 400, rinseThreshold := 900, enterPolarity := 3,
            exitPolarity := 0, outPolarity := 1, group := 255 }) kitchen = some (some .state) := by decide +kernel
theorem test_line_config_is_taken :
    after (exec (.lineConfig ware {
        wash := 2, booster := 3, washThreshold := 400, rinseThreshold := 900, enterPolarity := 3,
            exitPolarity := 0, outPolarity := 1,
            group := 255 }) { kitchen with line := { kitchen.line with racks := [] } })
      (fun u => (u.line.washThreshold, u.line.permit)) = some (400, true) := by decide +kernel
theorem test_rack_takes_what_soiled_has :
    after (exec (.rackLoad ware 255 0 40) kitchen) (fun u => ((u.wares.get 0).soiled, (u.line.racks.map (·.count)).getLast?)) =
      some (0, some 30) := by decide +kernel
theorem test_tag_twice_is_a_duplicate :
    statusOf ware (.rackLoad ware 7 0 1) kitchen = some (some .duplicate) := by decide +kernel
theorem test_purge_condemns :
    after (exec (.linePurge ware) kitchen) (fun u => ((u.wares.get 0).soiled, u.line.racks, u.desk.pages.map (·.object))) =
      some (60, [], [3, 7, 8, 9]) := by decide +kernel
theorem test_rinse_enter_moves_the_oldest_in_wash :
    after (exec .rinseEnter kitchen) (fun u => u.line.racks.map fun r => (r.tag, r.stage, r.rinseMin)) =
      some [(7, .done, some 830), (8, .rinse, some 830), (9, .rinse, some 0)] := by decide +kernel
theorem test_rinse_exit_gives_the_verdict :
    after (exec .rinseExit kitchen) (fun u => u.line.racks.map fun r => (r.tag, r.verdict)) =
      some [(7, .clean), (8, .clean), (9, .pending)] := by decide +kernel
theorem test_rinse_below_its_threshold_is_rewash :
    after (exec .rinseExit { kitchen with line := { kitchen.line with racks := [{ tray 8 .rinse with rinseMin := some 819 }] } })
      (fun u => u.line.racks.map (·.verdict)) = some [.rewash] := by decide +kernel
theorem test_clean_rack_gives_clean_plates :
    after (exec .rackOut kitchen) (fun u => ((u.wares.get 0).clean, u.line.racks.map (·.tag))) =
        some (95, [8, 9]) := by decide +kernel
theorem test_early_rack_is_condemned :
    after (exec .rackOut { kitchen with line := { kitchen.line with racks := [tray 9 .wash] } })
      (fun u => ((u.wares.get 0).soiled, u.line.faults, u.desk.pages.map (·.cause))) =
          some (40, 1, [128, 16]) := by decide +kernel
theorem test_level_change_is_no_event :
    after (exec (.lineLevelChange .rackOut) kitchen) (fun u => (u.line.outLevel, u.line.racks.length)) =
        some (true, 3) := by decide +kernel
theorem test_kind_is_defined_once :
    statusOf banq (.wareDefine banq 0 1) kitchen = some (some .duplicate) := by decide +kernel
theorem test_whole_stock_is_clean :
    after (exec (.wareDefine banq 7 9999) kitchen) (fun u => ((u.wares.get 7).total, (u.wares.get 7).clean)) =
        some (9999, 9999) := by decide +kernel
theorem test_removal_is_clamped :
    after (exec (.wareAdjust banq 0 3 1 (-16)) kitchen)
      (fun u => ((u.wares.get 0).total, (u.cabinet? 1).map (·.stock), ((u.ports.get 2).slot).map (·.status))) =
      some (160, some 5, some .clamped) := by decide +kernel
theorem test_return_moves_what_is_out :
    after (exec (.wareReturn banq 0 11) kitchen) (fun u => ((u.wares.get 0).out, (u.wares.get 0).soiled)) =
        some (0, 40) := by decide +kernel
theorem test_full_cabinet_keeps_its_kind :
    statusOf prod (.cabinetSet prod 1 1 100 10 40)
      { kitchen with wares := kitchen.wares.set 1 (kitchen.wares.get 0) } = some (some .state) := by decide +kernel
theorem test_restock_fills_the_room :
    after (exec (.restockConfirm ware 1 400) kitchen)
      (fun u => ((u.wares.get 0).clean, (u.cabinet? 1).map (·.stock), ((u.ports.get 1).slot).map (·.data))) =
      some (5, some 100, some [0, 80]) := by decide +kernel
theorem test_fire_reserves :
    after (exec (.courseFire banq 63 0 10 255 []) kitchen)
      (fun u => (((u.ports.get 2).slot).map (·.data), (u.cabinet? 1).map (·.reserved), u.courses.order)) =
      some (some [1, 1, 0, 10, 0, 0], some 15, [0, 1]) := by decide +kernel
theorem test_plating_draws :
    after (exec (.coursePlated banq 0 3) kitchen)
      (fun u => (((u.ports.get 2).slot).map (·.data), (u.cabinet? 1).map fun c => (c.stock, c.reserved), (u.wares.get 0).out)) =
      some (some [0, 3, 0, 3], some (17, 2), 13) := by decide +kernel
theorem test_close_releases :
    after (exec (.courseClose banq 0) kitchen)
      (fun u => (((u.ports.get 2).slot).map (·.data), (u.cabinet? 1).map (·.reserved), u.courses.order)) =
      some (some [0, 5, 0, 0], some 0, []) := by decide +kernel

/-! ### Single steps: staff, pages and the pager link -/

theorem test_staff_on_duty_keep_their_entry :
    statusOf banq (.staffSet banq 1 65535 4 7) kitchen = some (some .state) := by decide +kernel
theorem test_number_is_judged_whatever_the_setting_byte :
    statusOf banq (.staffDuty banq 64 2) kitchen = some (some .range) ∧
    statusOf banq (.staffDuty banq 63 2) kitchen = some (some .notFound) := by decide +kernel
theorem test_off_duty_requeues_and_cancels :
    after (exec (.staffDuty banq 0 0) kitchen)
      (fun u => ((u.staff 0).duty, u.desk.pages.map (·.state), u.desk.cancels)) =
      some (.offDuty, [.queued], [{ page := 0, address := 100 }]) := by decide +kernel
theorem test_page_takes_the_next_id :
    after (exec (.pageSend prod 4 255 0 255 255) kitchen) (fun u => u.desk.pages.map fun p => (p.id, p.level)) =
        some [(0, 1), (1, 1)] := by decide +kernel
theorem test_page_done_cancels_an_offer :
    after (exec (.pageDone prod 0) kitchen) (fun u => (u.desk.pages, (u.staff 0).duty, u.desk.cancels.length)) =
        some ([], .free, 1) := by decide +kernel
theorem test_levels_above_three_are_refused :
    statusOf banq (.pageLevels banq 3 3 3 3 3 4) kitchen = some (some .range) := by decide +kernel
theorem test_timing_is_stored :
    after (exec (.pageTiming banq 23) kitchen) (·.desk.ackSetting) = some 23 := by decide +kernel
theorem test_offer_goes_to_the_longest_free :
    after (exec .offer { kitchen with
        link := { kitchen.link with outstanding := .none }
        desk := { kitchen.desk with pages := [callOut, { callOut with id := 5, state := .queued, target := none }] } })
      (fun u => (u.link.outstanding, (u.staff 1).duty, u.freeList .cook)) = some (.page 5 101, .paged, []) := by decide +kernel
theorem test_re_offer_goes_to_the_same_entry :
    after (exec .reOffer { idleLink with desk := { kitchen.desk with reoffers := [0] } })
      (fun u => (u.link.outstanding, u.desk.reoffers)) = some (.page 0 100, []) := by decide +kernel
theorem test_cancel_is_granted_first :
    after (exec .cancel { kitchen with
        link := { kitchen.link with outstanding := .none },
            desk := { kitchen.desk with cancels := [{ page := 9, address := 7 }] } })
      (fun u => (u.link.outstanding, u.desk.cancels)) = some (.cancel 9 7, []) := by decide +kernel
theorem test_last_byte_starts_the_timer :
    after (exec .transmitComplete
        { kitchen with link := { kitchen.link with transmitting := probeFrame, responseTimer := none } })
      (·.link.responseTimer) = some (some 200) := by decide +kernel
theorem test_sent_starts_the_ack_timer :
    after (exec (.sent 0) { kitchen with desk := { kitchen.desk with ackSetting := 23 } })
      (fun u => (u.desk.pages.map (·.ackTimer), u.link.outstanding)) = some ([some 24000], .none) := by decide +kernel
theorem test_unreachable_offers_again :
    after (exec (.unreachable 0) kitchen) (fun u => (u.desk.pages.map (·.step), u.desk.reoffers)) =
        some ([1], [0]) := by decide +kernel
theorem test_accept_assigns :
    after (exec (.ack 0 100 1) kitchen) (fun u => (u.desk.pages.map (·.state), (u.staff 0).duty)) =
        some ([.accepted], .assigned) := by decide +kernel
theorem test_ack_from_elsewhere_is_late :
    after (exec (.ack 0 101 1) kitchen) (fun u => (u.link.late, u.desk.pages.map (·.state))) =
        some (1, [.offered]) := by decide +kernel
theorem test_alive_on_an_up_link_is_stale :
    after (exec .alive kitchen) (·.link.stale) = some 1 := by decide +kernel
theorem test_garbled_messages_are_counted :
    after (exec (.garbledMessage .badCheck) { kitchen with link := { kitchen.link with garbled := 65535 } })
        (·.link.garbled) = some 65535 := by decide +kernel
theorem test_gap_ends_a_message :
    after (exec .receiveGap { kitchen with link := { kitchen.link with received := [0xA5] } }) (fun u =>
        (u.link.received, u.link.garbled)) = some ([], 1) := by decide +kernel
theorem test_second_expiry_excludes_the_target :
    after (exec (.ackTimerExpiry 0) { kitchen with desk := { kitchen.desk with pages := [{ callOut with step := 1 }] } })
      (fun u => (u.desk.pages.map fun p => (p.state, p.step, p.excluded), (u.staff 0).duty)) =
          some ([(.queued, 2, some 0)], .free) := by decide +kernel
theorem test_third_timeout_takes_the_link_down :
    after (exec .responseTimerExpiry { kitchen with link := { kitchen.link with timeouts := 2 } })
      (fun u => (u.link.up, u.link.outstanding, u.desk.pages.map (·.state))) =
          some (false, .probe, [.queued]) := by decide +kernel
theorem test_probe_is_sent_again :
    after (exec .probeTimerExpiry
        { kitchen with link := { kitchen.link with up := false, outstanding := .none, probeTimer := some 0 } })
      (fun u => (u.link.transmitting, u.link.probeTimer)) = some ([0xA5, 0x03, 0xFD], some 1000) := by decide +kernel

/-! ### Single steps: resets -/

theorem test_reset_holds_the_part :
    after (exec .powerOnReset kitchen) (fun u => (u.running, (u.wares.get 0).defined, u.feed.state)) =
        some (false, false, .sag) := by decide +kernel
theorem test_power_on_outlasts_the_pin :
    after (exec .pinReset held) (·.chip.phase) = some (.held true) := by decide +kernel
theorem test_release_records_the_cause :
    after (exec (.leaveReset (Table.fill 4 2) (Table.fill 4 true)) held)
      (fun u => (u.chip.cause, (u.ports.get 0).role, (u.ports.get 0).csIgnored, u.link.outstanding)) =
          some (.powerOn, .banquet, true, .none) := by decide +kernel
theorem test_first_tick_sends_the_probe :
    after (step State.reset) (fun u => (u.link.outstanding, u.link.transmitting, u.link.probeTimer)) =
      some (.probe, [0xA5, 0x03, 0xFD], some 1000) := by decide +kernel
theorem test_page_is_offered_before_the_next_command :
    after (exec (.pageDone prod 5) waitingPage) (fun u => (u.desk.cancels, (u.staff 1).duty, u.link.outstanding)) =
      some ([{ page := 5, address := 101 }], .free, .page 5 101) := by decide +kernel
theorem test_grant_within_the_tick :
    after (tick (idleLink.setZone 0 { ovenZone with state := .recover, recoverTimer := some 5999 }))
      (fun u => (u.desk.pages.map fun p => (p.cause, p.state), u.link.outstanding)) =
      some ([(128, .offered), (67, .offered)], .page 1 101) := by decide +kernel

/-! ### For each statement with hypotheses, what meets them

Each theorem is named after its statement. It gives, clause by clause, a state and operands for which every hypothesis of the
clause holds, at the ends of the ranges where the clause has ranges. -/

theorem meets_NothingStopsThePart :
    held.running = false ∧
    isReset .alive = false := by decide +kernel
/-- The kitchen with its link free, a cancel request and a re-offer waiting. -/
def waitingLists : State :=
  { idleLink with desk := { kitchen.desk with cancels := [{ page := 9, address := 7 }], reoffers := [0] } }
theorem meets_IdlePartGrantsThenTicks :
    (kitchen.pending = [] ∧ held.pending = [] ∧ held.running = false) ∧
    (kitchen.running = true ∧ pageLaw kitchen) ∧
    (waitingLists.link.up = true ∧ waitingLists.link.outstanding = .none ∧ waitingLists.desk.cancels ≠ []) ∧
    (let s : State := { waitingLists with desk := { waitingLists.desk with cancels := [] } }
     s.link.up = true ∧ s.link.outstanding = .none ∧ s.desk.cancels = [] ∧ s.desk.reoffers ≠ []) ∧
    (waitingPage.link.up = true ∧ waitingPage.link.outstanding = .none ∧ waitingPage.desk.cancels = [] ∧
     waitingPage.desk.reoffers = [] ∧ nextOffer waitingPage ≠ none) ∧
    (idleLink.link.up = true ∧ idleLink.link.outstanding = .none ∧ idleLink.desk.cancels = [] ∧
     idleLink.desk.reoffers = [] ∧ nextOffer idleLink = none) ∧
    (¬ (kitchen.link.up = true ∧ kitchen.link.outstanding = .none)) := by decide +kernel
theorem meets_ResetsAndTheRelease :
    held.chip.phase = .held true ∧
    kitchen.running = true := by decide +kernel
theorem meets_HearingTouchesOnePort :
    (kitchen.ports.get 0).silent = false ∧
    ((kitchen.setPort 0 { kitchen.ports.get 0 with silent := true }).ports.get 0).silent = true := by decide +kernel
theorem meets_EveryTransactionIsDealtWith :
    Quiet kitchen ∧
    (kitchen.ports.get 3).csIgnored = false ∧
    (portOf (.linkQuery ener) = some 3 ∧
     ((kitchen.setPort 3 { kitchen.ports.get 3 with csIgnored := true }).ports.get 3).csIgnored = true) ∧
    (portCommand (.clockSet prod 0) = some (prod, [.banquet, .energy]) ∧ ¬ Permitted prod [.banquet, .energy] kitchen) ∧
    (portCommand (.clockSet { ener with lengthOk := false } 0) = some ({ ener with lengthOk := false }, [.banquet, .energy]) ∧
      Permitted { ener with lengthOk := false } [.banquet, .energy] kitchen) := by decide +kernel
theorem meets_NopAndStatusChangeNothing :
    Listening prod kitchen := by decide +kernel
theorem meets_PortsReadNoticesAndSetTimers :
    Listening ware kitchen ∧
    ((heard ware kitchen).ports.get 1).notices = [] ∧
    ((heard ware (post .lineFault 2 256 kitchen)).ports.get 1).notices =
        [{ kind := .lineFault, object := 2, value := 256, time := 86399 }] := by decide +kernel
theorem meets_KitchenClockIsSetAndAdvances :
    Listening ener kitchen ∧
    Quiet kitchen ∧
    kitchen.time.clock = 86399 := by decide +kernel
theorem meets_SupervisionExpiryPausesOwnedZones :
    Quiet kitchen ∧
    (kitchen.ports.get 0).timer = none ∧
    ((kitchen.setPort 0 { kitchen.ports.get 0 with timer := some 0 }).ports.get 0).timer ≠ none := by decide +kernel
theorem meets_LoadSetStoresAndCuts :
    Listening prod kitchen ∧
    ¬ Permitted banq [.production, .energy] kitchen ∧
    Permitted prod [.production, .energy] kitchen ∧
    (47 = (47 : LoadId).val ∧ 400 ≤ 400 ∧ (47 < 48 ∨ 400 < 401)) := by decide +kernel
/-- A map with the fixed entries on, and two windows that match load point 16. -/
def sampleMap : ClassMap :=
  { ClassMap.reset with
    enabled := true, fixedEnabled := true
    windows := Table.build 6 fun w => { valid := decide (w.val < 2), base := 16, mask := 48, cls := .staged } }
theorem meets_ClassMapResolvesByItsOrder :
    ClassMap.reset.enabled = false ∧
    (sampleMap.enabled = true ∧ sampleMap.fixedEnabled = true ∧ (15 : Fin 16).val = (15 : LoadId).val) ∧
    15 < (16 : LoadId).val ∧
    ((sampleMap.windows.get 1).valid = true ∧
      BitVec.ofNat 6 (16 : LoadId).val &&& (sampleMap.windows.get 1).mask =
          (sampleMap.windows.get 1).base &&& (sampleMap.windows.get 1).mask) ∧
    (∀ w, ¬ ((sampleMap.windows.get w).valid = true ∧
      BitVec.ofNat 6 (32 : LoadId).val &&& (sampleMap.windows.get w).mask =
          (sampleMap.windows.get w).base &&& (sampleMap.windows.get w).mask)) := by decide +kernel
theorem meets_MapCommandsResolveEveryLoadPoint :
    Judged ener [.energy] kitchen := by decide +kernel
theorem meets_FrameSetAndFeedConfigStore :
    Listening ener kitchen ∧
    ¬ Permitted prod [.energy] kitchen ∧
    Permitted ener [.energy] kitchen := by decide +kernel
theorem meets_LimitAndShedLevelActAtOnce :
    Judged ener [.energy] kitchen ∧
    (9999 < 10000 ∧ kitchen.alloc.limit ≤ 60 ∧ 59 < kitchen.alloc.limit) ∧
    powerLaw kitchen ∧
    (3 < 4 ∧ 0 ≤ kitchen.alloc.shed ∧ kitchen.alloc.shed < 3) := by decide +kernel
theorem meets_SlicesEndInTheFrameBoundary :
    Quiet kitchen ∧
    kitchen.time.slice < 99 ∧
    99 ≤ ({ kitchen with time := { kitchen.time with slice := 99 } } : State).time.slice := by decide +kernel
theorem meets_FeedConversionDebouncesAndWaits :
    (Quiet kitchen ∧ Quiet State.reset) ∧
    (State.reset.feed.state = .sag ∧ 90 ≤ (2457 : BitVec 12).toNat * 150 / 4095 ∧ (2456 : BitVec 12).toNat * 150 / 4095 < 90) ∧
    (({ State.reset.feed with restoreCount := 1 } : Feed).restoreCount + 1 < State.reset.feed.debounce ∧
     3 ≤ ({ State.reset.feed with restoreCount := 2 } : Feed).restoreCount + 1) ∧
    (kitchen.feed.state ≠ .sag ∧ (2320 : BitVec 12).toNat * 150 / 4095 < kitchen.feed.sagThreshold ∧
     kitchen.feed.sagThreshold ≤ (2321 : BitVec 12).toNat * 150 / 4095) ∧
    (kitchen.feed.sagCount + 1 < kitchen.feed.debounce ∧
     3 ≤ ({ kitchen.feed with sagCount := 2 } : Feed).sagCount + 1) := by decide +kernel
theorem meets_ZoneCommandsShareTheirRefusals :
    Judged prod [.production, .warewash] kitchen ∧
    (31 < 32 ∧ kitchen.zones.get 31 = none) ∧
    (kitchen.zones.get 2 = some washZone ∧ ¬ Permitted prod [washZone.kind.commandedBy] kitchen) ∧
    (kitchen.zones.get 1 = some warmerZone ∧ Permitted prod [warmerZone.kind.commandedBy] kitchen ∧
     warmerZone.kind ≠ .oven) := by decide +kernel
/-- A ZONE_DEFINE for a warmer, its items at the ends of their ranges. -/
def warmerSettings (z load : Nat) : ZoneSettings :=
  { zone := z, kind := 1, channel := 31, loads := [load], level := 3, group := 255, setpoint := 900, fallback := 300
    standby := 300, band := 200, tolerance := 100, soakTime := 600, margin := 500, recoverLimit := 10 }
theorem meets_ZoneDefineSetsRecordAndBindings :
    (Judged prod [.production, .warewash] kitchen ∧ Judged prod [ZoneKind.warmer.commandedBy] kitchen) ∧
    31 < (warmerSettings 32 1).zone ∧
    ¬ Permitted prod [ZoneKind.washTank.commandedBy] kitchen ∧
    (¬ Permitted prod [washZone.kind.commandedBy] kitchen ∧ kitchen.zones.get 2 = some washZone) ∧
    (Permitted prod [ZoneKind.warmer.commandedBy] kitchen ∧ (∃ n ∈ (warmerSettings 1 48).loads, 47 < n)) ∧
    ((warmerSettings 1 47).loads = [(47 : LoadId)].map (·.val) ∧ [(47 : LoadId)].Nodup ∧ PageGroup.ofCode? 255 = some .any) ∧
    (warmerZone.kind.commandedBy = ZoneKind.warmer.commandedBy ∧ warmerZone.state ≠ .off) ∧
    (((with_ 1 { warmerZone with state := .off }).cabinet? 1).map (·.stock) = some 20 ∧ ZoneKind.oven ≠ .warmer) ∧
    (kitchen.zones.get 31 = none ∧ kitchen.cabinet? 31 = none ∧ (kitchen.loads.get 1).binding = some 1 ∧
     (kitchen.loads.get 47).binding = none) := by decide +kernel
theorem meets_ZoneSetpointActsOnTheState :
    ZoneJudged prod 0 { ovenZone with state := .ready } kitchen ∧
    ZoneJudged prod 1 warmerZone kitchen := by decide +kernel
/-- A cabinet with one plate fewer than its low mark available, and its warmer. -/
def lowShelf : Cabinet := { shelf with low := 16 }
def lowWarmer : Zone := { warmerZone with cabinet := some lowShelf }
theorem meets_StartResumeAndPauseMoveTheZone :
    ZoneJudged prod 0 ovenZone (with_ 0 ovenZone) ∧
    ZoneJudged prod 0 { ovenZone with state := .paused } (with_ 0 { ovenZone with state := .paused }) ∧
    ZoneJudged prod 0 { ovenZone with state := .fault } (with_ 0 { ovenZone with state := .fault }) ∧
    (({ ovenZone with state := .ready } : Zone).state.heating = true ∧
     ZoneJudged prod 0 { ovenZone with state := .ready } kitchen ∧ kitchen.cabinet? 0 = none) ∧
    (∀ st ∈ [ZoneState.off, .paused, .ready],
     let s := with_ 1 { lowWarmer with state := st }
     ZoneJudged prod 1 { lowWarmer with state := st } s ∧ s.cabinet? 1 = some lowShelf ∧
      lowShelf.stock - lowShelf.reserved < lowShelf.low ∧ s.task? 1 = none) := by decide +kernel
theorem meets_StopAndClearEnterOff :
    ZoneJudged prod 0 ovenZone (with_ 0 ovenZone) ∧
    (ZoneJudged prod 0 { ovenZone with state := .ready } kitchen ∧ kitchen.cabinet? 0 = none ∧ kitchen.task? 0 = none ∧
     ∀ g ∈ ovenZone.program, g.state ≠ .held) ∧
    (ZoneJudged prod 1 warmerZone kitchen ∧ kitchen.cabinet? 1 ≠ none) ∧
    (∀ cause ∈ [FaultCause.sensor, .overMargin, .absolute],
     let r : Zone := { ovenZone with state := .fault, cleanCount := 3, faultCause := cause }
     ZoneJudged prod 0 r (with_ 0 r)) ∧
    ZoneJudged prod 0 { ovenZone with state := .fault, cleanCount := 2 } (with_ 0
        { ovenZone with state := .fault, cleanCount := 2 }) := by decide +kernel
theorem meets_StopAndClearEnterOff_law : courseLaw kitchen := by decide +kernel
theorem meets_SensorConversionMovesItsZones :
    Quiet kitchen ∧
    (kitchen.zones.get 0 = some { ovenZone with state := .ready } ∧ ovenZone.channel = kitchen.scan.position) ∧
    ((8 : BitVec 12).toNat ≤ 8 ∧ 4087 ≤ (4087 : BitVec 12).toNat) ∧
    (¬ ((9 : BitVec 12).toNat ≤ 8 ∨ 4087 ≤ (9 : BitVec 12).toNat) ∧
     ¬ ((4086 : BitVec 12).toNat ≤ 8 ∨ 4087 ≤ (4086 : BitVec 12).toNat)) ∧
    (ZoneKind.oven.absoluteLimit < (3842 : BitVec 12).toNat * 25 / 32 ∧
     (3841 : BitVec 12).toNat * 25 / 32 ≤ ZoneKind.oven.absoluteLimit) ∧
    (ovenZone.active + ovenZone.margin < (1359 : BitVec 12).toNat * 25 / 32 ∧
     ¬ (ovenZone.active + ovenZone.margin < (1358 : BitVec 12).toNat * 25 / 32)) ∧
    (let r : Zone := { ovenZone with state := .ready, overArmed := true, overCount := 2 }
     (with_ 0 r).zones.get 0 = some r ∧ r.state ≠ .standby ∧ r.overArmed = true ∧ 2 ≤ r.overCount ∧ r.overCount < 3) ∧
    (let s : State := { kitchen with
       scan := { kitchen.scan with channels := kitchen.scan.channels.set 0 { code := 0, reading := 0, rail := 2 } } }
     s.zones.get 0 ≠ none ∧ 2 ≤ (s.scan.channels.get 0).rail ∧ (kitchen.scan.channels.get 0).rail < 2) ∧
    (∀ st ∈ [ZoneState.fault, .off, .standby],
     (with_ 0 { ovenZone with state := st }).zones.get 0 = some { ovenZone with state := st } ∧
      ∀ y, y ≠ 0 → ∀ v ∈ (with_ 0 { ovenZone with state := st }).zones.get y, v.channel ≠ 0) := by decide +kernel
/-- The kitchen with the scan at the warmer's channel, which has given two rail codes in a row. -/
def warmerScan : State := { kitchen with scan := {
  channels := kitchen.scan.channels.set 1 { code := 0, reading := 0, rail := 2 }, position := 1 } }
theorem meets_SensorConversionMovesItsZones_frames :
    Quiet warmerScan ∧
    (warmerScan.zones.get 1 = some warmerZone ∧ warmerZone.channel = warmerScan.scan.position ∧ 2 ≤
      (warmerScan.scan.channels.get 1).rail ∧ warmerScan.cabinet? 1 ≠ none) ∧
    (∀ y, y ≠ 1 → ∀ v ∈ warmerScan.zones.get y, v.channel ≠ 1) ∧
    (warmerScan.zones.get 0 ≠ none ∧ ovenZone.channel ≠ warmerScan.scan.position ∧ warmerScan.zones.get 31 = none) ∧
    (kitchen.cabinet? 0 = none ∧ kitchen.task? 0 = none ∧ (∀ g ∈ ovenZone.program, g.state ≠ .held) ∧
      ∀ y, y ≠ 0 → ∀ v ∈ kitchen.zones.get y, v.channel ≠ 0) ∧
    (∀ z, ∀ r ∈ kitchen.zones.get z, r.channel = kitchen.scan.position → (47 : LoadId) ∉ r.loads) := by decide +kernel
theorem meets_SensorConversionMovesItsZones_law : courseLaw warmerScan := by decide +kernel
theorem meets_ZoneTimersExpire :
    Quiet kitchen ∧
    (let r : Zone := { ovenZone with state := .soak, soakTimer := some 0 }
     (with_ 0 r).zones.get 0 = some r ∧ r.state = .soak ∧ r.soakTimer ≠ none ∧ (with_ 0 r).cabinet? 0 = none) ∧
    (let r : Zone := { warmerZone with state := .soak, soakTimer := some 0 }
     (with_ 1 r).zones.get 1 = some r ∧ (with_ 1 r).cabinet? 1 = some shelf ∧ courseLaw (with_ 1 r)) ∧
    (let r : Zone := { ovenZone with state := .recover, recoverTimer := some 6000 }
     (with_ 0 r).zones.get 0 = some r ∧ r.state = .recover ∧ r.slowRaised = false) ∧
    (let r : Zone := { warmerZone with standbyTimer := some 0 }
     (with_ 1 r).zones.get 1 = some r ∧ r.state = .ready ∧ r.standbyTimer ≠ none) ∧
    (¬ (ovenZone.state = .soak) ∧ ¬ (ovenZone.state = .recover) ∧ ¬ (ovenZone.state = .ready)) ∧
    (let s : State := { kitchen with restock := [{ cabinet := 1, kind := 0, wanted := 1, paged := false, opened := 0 }] }
     s.task? 1 ≠ none) := by decide +kernel
theorem meets_ProgramIsDraftedLoadedAndAborted :
    (ZoneJudged prod 0 ovenZone (with_ 0 ovenZone) ∧ ovenZone.kind = .oven ∧ ovenZone.program = some ovenProgram) ∧
    ∀ g ∈ [ProgramState.none, .done, .aborted, .loaded, .running, .held],
      ZoneJudged prod 0 (baking .off g 2) (with_ 0 (baking .off g 2)) := by decide +kernel
theorem meets_ProgramRunStartsStepOne :
    (ZoneJudged prod 0 ovenZone (with_ 0 ovenZone) ∧ ovenZone.kind = .oven ∧ ovenZone.program = some ovenProgram) ∧
    (ovenZone.state = .off ∧ ovenProgram.state = .loaded ∧
     ovenProgram.steps = { setpoint := 1200, soakTime := 0, duration := 10, action := .pageHold } :: ovenProgram.steps.drop 1) ∧
    ZoneJudged prod 0 (baking .ready .running 1) (with_ 0 (baking .ready .running 1)) := by decide +kernel
theorem meets_NextStepIsApplied :
    ((with_ 0 (baking .ready .held 1)).running = true ∧
     (with_ 0 (baking .ready .held 1)).zones.get 0 = some (baking .ready .held 1)) ∧
    (1 < ovenProgram.steps.length ∧
     ovenProgram.steps[1]? = some { setpoint := 1400, soakTime := 60, duration := 5, action := .pageNext }) ∧
    ZoneJudged prod 0 (baking .ready .held 1) (with_ 0 (baking .ready .held 1)) ∧
    (let g : Program := { ovenProgram with state := .running, current := 1, steps := ovenProgram.steps.reverse }
     let r : Zone := { ovenZone with state := .recover, program := some g }
     (with_ 0 r).zones.get 0 = some r ∧ g.state = .running ∧
      g.steps[g.current - 1]? = some { setpoint := 1400, soakTime := 60, duration := 5, action := .pageNext } ∧
        g.current < g.steps.length ∧ g.steps[g.current]? ≠ none) := by decide +kernel
theorem meets_ProgramIsHeldOrDone :
    Quiet kitchen ∧
    ((with_ 0 (baking .ready .running 1)).zones.get 0 = some (baking .ready .running 1) ∧
     (ovenProgram.steps[0]?).map (·.action) = some .pageHold) ∧
    ((with_ 0 (baking .recover .running 2)).zones.get 0 = some (baking .recover .running 2) ∧
     (ovenProgram.steps[1]?).map (·.action) = some .pageNext ∧ ovenProgram.steps.length ≤ 2) ∧
    (ZoneJudged prod 0 (baking .ready .held 2) (with_ 0 (baking .ready .held 2)) ∧
     pageLaw (with_ 0 (baking .ready .held 2)) ∧ (with_ 0 (baking .ready .held 2)).desk.pages.length < 32) ∧
    ZoneJudged prod 0 (baking .ready .running 2) (with_ 0 (baking .ready .running 2)) ∧
    ¬ (ZoneState.paused = .ready ∨ ZoneState.paused = .recover) := by decide +kernel
/-- A LINE_CONFIG for zones 2 and 3, its thresholds at an end of their ranges. -/
def lineSettings : LineSettings :=
  { wash := 2, booster := 3, washThreshold := 800, rinseThreshold := 700, enterPolarity := 3, exitPolarity := 0
    outPolarity := 1, group := 7 }
theorem meets_LineConfigNamesItsZones :
    Judged ware [.warewash] kitchen ∧
    (lineSettings.wash = (2 : ZoneId).val ∧ lineSettings.booster = (3 : ZoneId).val ∧
     lineSettings.enterPolarity = Polarity.both.code ∧
      lineSettings.exitPolarity = Polarity.none.code ∧ lineSettings.outPolarity = Polarity.rise.code ∧
      PageGroup.ofCode? lineSettings.group = some (.group 7)) ∧
    (400 ≤ lineSettings.washThreshold ∧ lineSettings.washThreshold ≤ 800 ∧ 700 ≤ lineSettings.rinseThreshold ∧
     lineSettings.rinseThreshold ≤ 900) ∧
    kitchen.zones.get 31 = none ∧
    ((∃ r ∈ kitchen.zones.get 2, r.kind = .washTank) ∧ (∃ r ∈ kitchen.zones.get 3, r.kind = .rinseBooster) ∧
     ¬ (∃ r ∈ kitchen.zones.get 0, r.kind = .washTank)) ∧
    (kitchen.line.racks ≠ [] ∧
     ({ kitchen with line := { kitchen.line with racks := [] } } : State).line.racks = []) := by decide +kernel
theorem meets_RacksAreLoadedAndPurged :
    Judged ware [.warewash] kitchen ∧
    (7 < 8 ∧ (7 : WareId).val = 7) ∧
    kitchen.line.racks.length + kitchen.desk.pages.length ≤ 32 := by decide +kernel
theorem meets_RinseEventsMoveTheOldestRack :
    Quiet kitchen ∧
    (kitchen.line.racks = [tray 7 .done, tray 8 .rinse] ++ tray 9 .wash :: [] ∧ (tray 9 .wash).stage = .wash ∧
     ∀ q ∈ [tray 7 .done, tray 8 .rinse], q.stage ≠ .wash) ∧
    (kitchen.line.racks = [tray 7 .done] ++ tray 8 .rinse :: [tray 9 .wash] ∧ (tray 8 .rinse).stage = .rinse ∧
     ∀ q ∈ [tray 7 .done], q.stage ≠ .rinse) ∧
    (∀ q ∈ State.reset.line.racks, q.stage ≠ .wash ∧ q.stage ≠ .rinse) := by decide +kernel
theorem meets_RackOutUnloadsTheHead :
    Quiet kitchen ∧
    State.reset.line.racks = [] ∧
    (kitchen.line.racks = tray 7 .done :: [tray 8 .rinse, tray 9 .wash] ∧ (tray 7 .done).stage = .done ∧
     (tray 7 .done).verdict = .clean ∧ taskLaw kitchen) ∧
    ({ kitchen with line := { kitchen.line with racks := [{ tray 7 .done with verdict := .rewash }] } } :
        State).line.racks = { tray 7 .done with verdict := .rewash } :: [] ∧
    (({ kitchen with line := { kitchen.line with racks := [tray 9 .wash] } } : State).line.racks = tray 9 .wash :: [] ∧
     (tray 9 .wash).stage ≠ .done) := by decide +kernel
theorem meets_WareDefineAndReturn :
    (Listening banq kitchen ∧ Permitted banq [.warewash, .banquet] kitchen) ∧
    (Listening prod kitchen ∧ ¬ Permitted prod [.warewash, .banquet] kitchen) ∧
    ((7 : WareId).val = 7 ∧ 7 < 8) := by decide +kernel
theorem meets_WareAdjustBuysAndRemoves :
    Judged banq [.warewash, .banquet] kitchen ∧
    ((kitchen.wares.get 0).defined = true ∧ (kitchen.wares.get 7).defined = false) ∧
    (¬ (8 ≤ 7) ∧ ¬ (4 ≤ 3) ∧ ¬ ((-10000 : Int).natAbs ≤ 9999) ∧ (-9999 : Int).natAbs ≤ 9999 ∧ ¬ (32 ≤ 31)) ∧
    ((kitchen.wares.get 0).total + 9824 ≤ 9999 ∧ 9999 < (kitchen.wares.get 0).total + 9825) ∧
    (kitchen.cabinet? 1 = some shelf ∧ shelf.kind = some 0 ∧ shelf.stock - shelf.reserved ≠ 0) ∧
    ∀ c ∈ kitchen.cabinet? 0, c.kind ≠ some 0 := by decide +kernel
/-- The kitchen with a WAITING task on the warmer, whose zone stands in a state. -/
def waitingTask (st : ZoneState) : State :=
  { with_ 1 { warmerZone with state := st } with
    restock := [{ cabinet := 1, kind := 0, wanted := 1, paged := false, opened := 0 }] }
theorem meets_WareAdjustBuysAndRemoves_tasks :
    (∀ st ∈ [ZoneState.standby, .ready, .off],
      Judged banq [.warewash, .banquet] (waitingTask st) ∧ taskLaw (waitingTask st) ∧ pageLaw (waitingTask st) ∧
        (∃ q ∈ (waitingTask st).restock, q.kind = 0 ∧ q.paged = false) ∧ (waitingTask st).zoneState 1 = st) ∧
    (kitchen.zoneState 1 ≠ .off ∧ kitchen.zoneState 1 ≠ .fault) := by decide +kernel
theorem meets_CabinetsAreSetAndRestocked :
    (ZoneJudged prod 1 warmerZone kitchen ∧ kitchen.cabinet? 1 = some shelf) ∧
    kitchen.zones.get 31 = none ∧
    (kitchen.zones.get 2 = some washZone ∧ ¬ Permitted prod [washZone.kind.commandedBy] kitchen) ∧
    (kitchen.zones.get 0 ≠ none ∧ kitchen.cabinet? 0 = none ∧ ZoneKind.oven.commandedBy = warmerZone.kind.commandedBy) ∧
    ((kitchen.wares.get 7).defined = false ∧ (kitchen.wares.get 0).defined = true) ∧
    (shelf.kind = some 0 ∧ shelf.stock ≤ 20 ∧ ¬ (shelf.stock ≤ 19) ∧ shelf.stock ≠ 0) ∧
    (∀ st ∈ [ZoneState.off, .fault],
     ZoneJudged prod 1 { warmerZone with state := st } (with_ 1 { warmerZone with state := st })) ∧
    (Judged ware [.warewash] kitchen ∧ (kitchen.wares.get 0).clean = 85) ∧
    (with_ 1 lowWarmer).cabinet? 1 = some lowShelf ∧
    ((with_ 1 { warmerZone with cabinet := some Cabinet.fresh }).cabinet? 1 = some Cabinet.fresh ∧ Cabinet.fresh.kind = none) ∧
    (with_ 1 { warmerZone with cabinet := some { shelf with stock := 100 } }).cabinet? 1 =
        some { shelf with stock := 100 } := by decide +kernel
theorem meets_CabinetsAreSetAndRestocked_law : cabinetLaw (with_ 1 lowWarmer) := by decide +kernel
theorem meets_CabinetsAreSetAndRestocked_courses : courseLaw (with_ 1 lowWarmer) := by decide +kernel
theorem meets_CourseFireReserves :
    Judged banq [.banquet] kitchen ∧
    (PageGroup.ofCode? 255 = some .any ∧ [(1 : ZoneId), 31].Nodup ∧ [(1 : ZoneId), 31].length ≤ 6) ∧
    ((kitchen.wares.get 0).defined = true ∧ (kitchen.wares.get 7).defined = false) ∧
    (kitchen.course? 1 = none ∧ ∀ b : CourseId, b < 1 → kitchen.course? b ≠ none) ∧
    (entriesAfter kitchen.ledger.plates (walkedBy kitchen 0 []) 16 [] = [(1, 15)] ∧
     entriesAfter kitchen.ledger.plates (walkedBy kitchen 0 [1, 31]) 15 [] = [(1, 15)]) ∧
    pageLaw kitchen ∧
    ∀ c, ({ kitchen with courses := { kitchen.courses with slots := Table.fill 16 (some gala) } } : State).course?
        c ≠ none := by decide +kernel
/-- The kitchen with a course that its reserved plates complete. -/
def lastServing : State := kitchen.setCourse 0 (some { gala with covers := 5, short := false })
theorem meets_CoursesArePlatedAndClosed_law : cabinetLaw lastServing := by decide +kernel
theorem meets_CoursesArePlatedAndClosed_courses : courseLaw lastServing := by decide +kernel
theorem meets_CoursesArePlatedAndClosed :
    Judged banq [.banquet] kitchen ∧
    kitchen.course? 1 = none ∧
    (kitchen.course? 0 = some gala ∧ (gala.entries.map (·.2)).sum ≠ 0 ∧ gala.plated + 5 ≠ gala.covers) ∧
    (cabinetLaw kitchen ∧ courseLaw kitchen) ∧
    (lastServing.course? 0 = some { gala with covers := 5, short := false } ∧ gala.plated + 5 = 5) ∧
    (kitchen.setCourse 0 (some { gala with entries := [] })).course? 0 = some { gala with entries := [] } := by decide +kernel
theorem meets_CoursesArePlatedAndClosed_short :
    let s := raise .courseShort .any 0 kitchen
    (Judged banq [.banquet] s ∧ s.course? 0 = some gala ∧ gala.short = true ∧ gala.entries ≠ []) ∧
    ((heard banq s).desk.pages.find? fun p => p.closure = .event ∧ p.cause = 32 ∧ p.object = (0 : CourseId).val) ≠ none ∧
    (∀ d, d ≠ 0 → ∀ q ∈ s.course? d, q.short = false) ∧
    ∀ e ∈ gala.entries, ∀ a ∈ s.cabinet? e.1, a.low ≤ a.stock - (a.reserved - heldIn gala.entries e.1) := by decide +kernel
theorem meets_StaffSetNeedsOffDuty :
    Listening banq kitchen ∧
    (((heard banq kitchen).staff 63).duty = .offDuty ∧ ((heard banq kitchen).staff 0).duty ≠ .offDuty) := by decide +kernel
theorem meets_StaffDutyOnAndOff :
    Judged banq [.banquet, .warewash] kitchen ∧
    ((heard banq kitchen).staff 63).address = 0 ∧
    (((heard banq kitchen).staff 0).address ≠ 0 ∧ ((heard banq kitchen).staff 0).duty ≠ .offDuty) ∧
    (let s := kitchen.setStaff 2 { fryCook with duty := .offDuty, current := none }
     ((heard banq s).staff 2).address ≠ 0 ∧ ((heard banq s).staff 2).duty = .offDuty) ∧
    (((heard banq kitchen).staff 0).current = some 0 ∧ (heard banq kitchen).page? 0 = some callOut ∧
     callOut.state = .offered) := by decide +kernel
theorem meets_PageSendAndSettings :
    Listening banq kitchen ∧
    Permitted banq [.banquet] kitchen ∧
    ¬ Permitted prod [.banquet] kitchen := by decide +kernel
/-- The kitchen with 32 live pages, the first of them QUEUED at a level. -/
def fullDesk (level : Nat) : State :=
  { kitchen with desk := { kitchen.desk with pages := (List.finRange 32).map fun i =>
      { callOut with
        id := Fin.ofNat 256 i.val, state := if i.val = 0 then .queued else .offered, level := level
        target := if i.val = 0 then none else some 0 } } }
theorem meets_RaisedCauseMakesOnePage :
    kitchen.desk.pages.length ≤ 32 ∧
    (∃ p ∈ (raise .feedSag .any 0 kitchen).desk.pages, p.cause = Cause.feedSag.code ∧ p.object = 0) ∧
    (∀ p ∈ kitchen.desk.pages, p.cause = Cause.feedSag.code → p.object ≠ 0) ∧
    ((fullDesk 3).desk.pages.length = 32 ∧ ((fullDesk 3).desk.pages.map (·.id)).Nodup ∧
      ∀ p ∈ (fullDesk 3).desk.pages, p.state = .queued → (fullDesk 3).desk.levels.get Cause.feedSag.source ≤ p.level) ∧
    ((fullDesk 2).desk.pages = [] ++ { callOut with state := .queued, target := none, level := 2 } :: (fullDesk
        2).desk.pages.drop 1 ∧
      2 < (fullDesk 2).desk.levels.get Cause.feedSag.source ∧ (∀ p ∈ (fullDesk 2).desk.pages, p.state = .queued → 2 ≤ p.level) ∧
      ∀ p ∈ (fullDesk 2).desk.pages.drop 1, p.state = .queued → p.level ≠ 2) := by decide +kernel
theorem meets_PageDoneAndClearingEventsClose :
    Judged prod allRoles kitchen ∧
    ∀ p ∈ (heard prod kitchen).desk.pages, p.id.val ≠ 255 ∧
    ((heard prod kitchen).page? 0 = some callOut ∧ callOut.closure ≠ .info) ∧
    (let p : Page := { callOut with closure := .info }
     let s : State := { kitchen with desk := { kitchen.desk with pages := [p] } }
     (heard prod s).page? 0 = some p ∧ p.closure = .info) ∧
    ((raise .feedSag .any 0 kitchen).desk.pages.find? fun p => p.closure == .event && p.cause == 1 && p.object == 0) ≠ none ∧
    (callOut.target = some 0 ∧ callOut.state = .offered) := by decide +kernel
theorem meets_AckExpiryEscalates :
    Quiet kitchen ∧
    pageLaw kitchen ∧
    (kitchen.page? callOut.id = some callOut ∧ callOut.state = .offered ∧ callOut.target = some 0 ∧
     (kitchen.staff 0).suspended ≠ some callOut.id) ∧
    (∀ n ∈ [1, 2, 3],
     let p : Page := { callOut with step := n }
     let s : State := { kitchen with desk := { kitchen.desk with pages := [p] } }
     pageLaw s ∧ s.page? p.id = some p ∧ (s.staff 0).suspended ≠ some p.id) := by decide +kernel
/-- A page of level 3 that excludes the one FREE cook, and the kitchen with its other cook ASSIGNED. -/
def urgentPage : Page :=
  { callOut with id := 5, state := .queued, target := none, level := 3, excluded := some 1 }
def urgentCall : State :=
  State.setStaff { idleLink with desk := { kitchen.desk with pages := [{ callOut with state := .accepted }, urgentPage] } }
    0 { fryCook with duty := .assigned }
theorem meets_ArbiterGrantsInOrder :
    kitchen.running = true ∧
    (isReset (.pageDone banq 0) = false ∧ ∀ id ∈ waitingLists.desk.reoffers, ∃ p ∈ waitingLists.page? id, p.target ≠ none) ∧
    (¬ (kitchen.link.up = true ∧ kitchen.link.outstanding = .none)) ∧
    (waitingLists.link.up = true ∧ waitingLists.link.outstanding = .none ∧
     waitingLists.desk.cancels = { page := 9, address := 7 } :: []) ∧
    (let s : State := { waitingLists with desk := { waitingLists.desk with cancels := [] } }
     s.link.up = true ∧ s.link.outstanding = .none ∧ s.desk.reoffers = 0 :: [] ∧ s.page? 0 = some callOut ∧
     callOut.target = some 0) ∧
    (waitingPage.link.up = true ∧ waitingPage.link.outstanding = .none ∧ waitingPage.freeList .cook = [] ++ 1 :: [] ∧
     (waitingPage.staff 1).role = .cook ∧ callOut.excluded ≠ some 1 ∧
     nextOffer waitingPage = some ({ callOut with id := 5, state := .queued, target := none }, 1) ∧ pageLaw waitingPage ∧
      (waitingPage.staff 1).duty = .free) ∧
    ((waitingPage.freeList .porter = [] ∧ ∀ e, ¬ (waitingPage.staff e).duty = .assigned) ∧ nextOffer idleLink = none) ∧
    (nextOffer urgentCall = some (urgentPage, 0) ∧ pageLaw urgentCall ∧ (urgentCall.staff 0).duty = .assigned ∧
     (urgentCall.staff 0).current = some 0 ∧ (urgentCall.staff 0).suspended = none ∧
     (urgentCall.staff 0).role = urgentPage.role ∧ urgentPage.group = .any ∧ urgentPage.excluded ≠ some 0 ∧
      (urgentCall.page? 0).map (·.level) = some 1 ∧ ∀ e ∈ urgentCall.freeList .cook, urgentPage.excluded = some e) := by
  decide +kernel
theorem meets_ArbiterGrantsInOrder_duty : dutyPagesLaw waitingPage ∧ dutyPagesLaw urgentCall := by decide +kernel
theorem meets_ArbiterGrantsInOrder_targets : targetLaw waitingPage ∧ targetLaw urgentCall := by decide +kernel
theorem meets_ArbiterGrantsInOrder_free : freeListLaw waitingPage ∧ freeListLaw urgentCall := by decide +kernel
theorem meets_StationEndsTheMessage :
    Quiet kitchen ∧
    (kitchen.link.outstanding = .page 0 100 ∧ kitchen.page? 0 = some callOut ∧ callOut.state = .offered ∧
     callOut.target = some 0 ∧ (kitchen.staff 0).address = 100) ∧
    (waitingLists.page? 5 = none ∧
     ({ kitchen with link := { kitchen.link with outstanding := .page 5 100 } } : State).link.outstanding = .page 5 100) ∧
    ({ kitchen with link := { kitchen.link with outstanding := .cancel 0 100 } } : State).link.outstanding = .cancel 0 100 ∧
    (Quiet idleLink ∧ idleLink.link.outstanding = .none) := by decide +kernel
theorem meets_AcknowledgementsAreSorted :
    Quiet kitchen ∧
    (kitchen.page? 255 = none ∧ kitchen.page? 0 = some callOut) ∧
    (callOut.target = some 0 ∧ (kitchen.staff 0).address = 100 ∧ callOut.state = .offered) ∧
    pageLaw kitchen ∧
    (kitchen.staff 0).suspended ≠ some 0 ∧
    (kitchen.staff 0).address ≠ 101 ∧
    (let p : Page := { callOut with closure := .info }
     let s : State := { kitchen with desk := { kitchen.desk with pages := [p] } }
     s.page? 0 = some p ∧ pageLaw s ∧ p.closure = .info) ∧
    (let p : Page := { callOut with state := .accepted }
     let s : State := { kitchen with desk := { kitchen.desk with pages := [p] } }
     s.page? 0 = some p ∧ pageLaw s ∧ p.state = .accepted) := by decide +kernel
theorem meets_LinkGoesDownAndComesUp :
    (Quiet kitchen ∧ Quiet State.reset) ∧
    (kitchen.link.up = true ∧ State.reset.link.up = false) ∧
    (kitchen.link.responseTimer ≠ none ∧ State.reset.link.responseTimer = none) ∧
    ({ State.reset with link := { State.reset.link with responseTimer := some 0 } } : State).link.up = false ∧
    ({ kitchen with link := { kitchen.link with outstanding := .cancel 9 7 } } : State).link.outstanding = .cancel 9 7 ∧
    (kitchen.link.outstanding = .page 0 100 ∧ kitchen.page? 0 = some callOut ∧ callOut.state = .offered ∧
     callOut.target = some 0 ∧ (kitchen.staff 0).address = 100 ∧
      pageLaw kitchen ∧ (kitchen.staff 0).suspended ≠ some 0) ∧
    ({ kitchen with link := { kitchen.link with outstanding := .page 5 100 } } : State).page? 5 = none := by decide +kernel
theorem meets_QueriesChangeNothing :
    Judged prod allRoles kitchen ∧
    (kitchen.zones.get 0 = some { ovenZone with state := .ready } ∧ kitchen.zones.get 31 = none ∧
     kitchen.cabinet? 1 = some shelf ∧ kitchen.cabinet? 0 = none) ∧
    (ZoneJudged prod 0 { ovenZone with state := .ready } kitchen ∧ ovenZone.kind = .oven ∧
     ovenZone.program = some ovenProgram) ∧
    (ZoneJudged prod 1 warmerZone kitchen ∧ warmerZone.kind ≠ .oven) ∧
    (kitchen.line.racks[0]? = some (tray 7 .done) ∧ kitchen.line.racks.length ≤ 11) ∧
    ((kitchen.wares.get 0).defined = true ∧ (kitchen.wares.get 7).defined = false) ∧
    (kitchen.course? 0 = some gala ∧ kitchen.course? 15 = none) ∧
    ((heard prod kitchen).page? 0 = some callOut ∧ (heard prod kitchen).page? 255 = none) := by decide +kernel
theorem meets_PortCommandsRoundTrip :
    (portCommand (.loadSet prod 255 65535) = some (prod, [.production, .energy]) ∧
     wellFormed (.loadSet prod 255 65535) = true ∧ prod.lengthOk = true) ∧
    wellFormed (.zoneDefine { prod with clocked := 32 } { ZoneSettings.blank with loads := List.replicate 10 255 }) = true ∧
    wellFormed (.wareAdjust { ware with clocked := 7 } 255 255 255 (-32768)) = true := by decide +kernel
theorem meets_BytesOnTheWiresAreJudged :
    ((0x00 : Byte) ≠ 0xFF ∧ 30 < (31 : Byte).toNat) ∧
    ((0xFF : Byte) ≠ 0x00 ∧ ∃ b ∈ ([0xFF, 0x00] : List Byte), b ≠ 0xFF) ∧
    ([] : List Byte).length < (1 : Byte).toNat ∧
    (∃ b ∈ ([0x00] : List Byte).drop (0 : Byte).toNat, b ≠ 0xFF) ∧
    (List.replicate 30 (0 : Byte)).length ≤ 30 ∧
    ((0xFF : Byte).toNat ∉ tableCodes ∧ (0x05 : Byte).toNat ∉ tableCodes ∧ (0x00 : Byte).toNat ∈ tableCodes ∧
     (0x88 : Byte).toNat ∈ tableCodes) ∧
    (1 : Byte) ≠ 0 ∧
    ((0x80 : Byte) ∉ ([0x81, 0x82, 0x83, 0x84] : List Byte) ∧ (0x85 : Byte) ∉ ([0x81, 0x82, 0x83, 0x84] : List Byte)) ∧
    ((0xA4 : Byte) ≠ 0xA5 ∧ ([0xA5] : List Byte) ≠ []) := by decide +kernel
theorem meets_WhatOnlyOneEventCanDo :
    kitchen.running = true ∧
    isReset .rackOut = false ∧
    (after (exec .rackOut kitchen) (fun u => (u.wares.get 0).clean) = some 95 ∧ (kitchen.wares.get 0).clean < 95) ∧
    (let s := with_ 0 { ovenZone with state := .fault, cleanCount := 3 }
     after (exec (.zoneClear prod 0) s) (fun u => u.zoneState 0) = some .off) ∧
    (let s : State := { kitchen with feed := { kitchen.feed with state := .stage2 } }
     after (exec .frameBoundary s) (fun u => u.feed.state) = some .normal) ∧
    (State.reset.feed.state = .sag ∧ State.reset.link.up = false ∧
     after (exec .alive State.reset) (fun u => u.link.up) = some true) := by decide +kernel
theorem meets_LoadLinesStayWithinTheLimit_laws : powerLaw kitchen := by decide +kernel
theorem meets_LoadLinesStayWithinTheLimit_zones : heatLaw kitchen := by decide +kernel
theorem meets_LoadLinesStayWithinTheLimit :
    kitchen.time.slice < 100 ∧
    loadLine { kitchen with time := { kitchen.time with slice := 50 } } 0 = true := by decide +kernel
theorem meets_EveryStepKeepsThePowerLaw_powerLaw : powerLaw kitchen := by decide +kernel
theorem meets_EveryStepKeepsTheHeatLaw_heatLaw : heatLaw kitchen := by decide +kernel
theorem meets_EveryStepKeepsThePlates_plateLaw : plateLaw kitchen := by decide +kernel
theorem meets_EveryStepKeepsThePlates_cabinetLaw : cabinetLaw kitchen := by decide +kernel
theorem meets_EveryStepKeepsThePlates_courseLaw : courseLaw kitchen := by decide +kernel
theorem meets_EveryStepKeepsStaffAndPages_pageLaw : pageLaw kitchen := by decide +kernel
theorem meets_EveryStepKeepsStaffAndPages_dutyPagesLaw : dutyPagesLaw kitchen := by decide +kernel
theorem meets_EveryStepKeepsStaffAndPages_targetLaw : targetLaw kitchen := by decide +kernel
theorem meets_EveryStepKeepsStaffAndPages_freeListLaw : freeListLaw kitchen := by decide +kernel
theorem meets_EveryStepKeepsTheSmallerLaws_dutyLaw : dutyLaw kitchen := by decide +kernel
theorem meets_EveryStepKeepsTheSmallerLaws_lockoutLaw : lockoutLaw kitchen := by decide +kernel
theorem meets_EveryStepKeepsTheSmallerLaws_permitLaw : permitLaw kitchen := by decide +kernel
theorem meets_EveryStepKeepsTheSmallerLaws_setpointLaw : setpointLaw kitchen := by decide +kernel
theorem meets_EveryStepKeepsTheSmallerLaws_rackLaw : rackLaw kitchen := by decide +kernel
theorem meets_EveryStepKeepsTheSmallerLaws_taskLaw : taskLaw kitchen := by decide +kernel
theorem meets_EveryStepKeepsTheSmallerLaws_linkLaw : linkLaw kitchen := by decide +kernel
theorem meets_EveryStepKeepsTheSmallerLaws_noticeLaw : noticeLaw kitchen := by decide +kernel
theorem meets_EveryStepKeepsTheSmallerLaws_replyLaw : replyLaw kitchen := by decide +kernel
theorem meets_EveryStepKeepsTheSmallerLaws_timeLaw : timeLaw kitchen := by decide +kernel
theorem meets_EveryStepKeeps_step : after (step { kitchen with pending := [.frameBoundary] }) (·.time.frame) =
    some 1 := by decide +kernel

end Sys2Proof.Machine
end

section
/-! PROOF. What decides a load point's class (01_load_points_and_the_class_map.md, R9 to R11): the operands and the order of
the classes first, then one equation for each way in which `resolveClass` decides. -/

namespace Sys2Proof.Machine

/-! ### Members of `Fin n` by number -/

theorem index?_val {n : Nat} (i : Fin n) : index? n i.val = some i := by simp [index?]

theorem index?_eq_none_iff {n v : Nat} : index? n v = none ↔ n ≤ v := by simp [index?]

/-! ### The more restrictive of two classes -/

theorem LoadClass.code_inj {a b : LoadClass} : a.code = b.code ↔ a = b := by
  cases a <;> cases b <;> simp [LoadClass.code]

theorem LoadClass.code_tighter (a b : LoadClass) : (a.tighter b).code = max a.code b.code := by
  unfold LoadClass.tighter
  split <;> omega

theorem LoadClass.tighter_eq_or (a b : LoadClass) : a.tighter b = a ∨ a.tighter b = b := by
  unfold LoadClass.tighter
  split <;> simp

/-- The most restrictive of a class `c` and the classes that `f` gives to the items of a list. -/
def tightestFrom {α : Type} (f : α → LoadClass) (c : LoadClass) (as : List α) : LoadClass :=
  as.foldl (fun c a => c.tighter (f a)) c

@[simp] theorem tightestFrom_cons {α : Type} (f : α → LoadClass) (c : LoadClass) (b : α) (bs : List α) :
    tightestFrom f c (b :: bs) = tightestFrom f (c.tighter (f b)) bs := rfl

theorem start_code_le_tightestFrom {α : Type} (f : α → LoadClass) (c : LoadClass) (as : List α) :
    c.code ≤ (tightestFrom f c as).code := by
  induction as generalizing c with
  | nil => exact le_rfl
  | cons b bs ih => exact (le_max_left _ _).trans (LoadClass.code_tighter c (f b) ▸ ih (c.tighter (f b)))

theorem code_le_tightestFrom {α : Type} (f : α → LoadClass) (c : LoadClass) {as : List α} {a : α} (ha : a ∈ as) :
    (f a).code ≤ (tightestFrom f c as).code := by
  induction as generalizing c with
  | nil => exact absurd ha List.not_mem_nil
  | cons b bs ih =>
    rcases List.mem_cons.mp ha with rfl | ha
    · have joined := start_code_le_tightestFrom f (c.tighter (f a)) bs
      rw [LoadClass.code_tighter] at joined
      exact (le_max_right _ _).trans joined
    · exact ih (c.tighter (f b)) ha

/-- The tightest class is nothing new: it is the class started from or one that some item has. -/
theorem tightestFrom_eq_or {α : Type} (f : α → LoadClass) (c : LoadClass) (as : List α) :
    tightestFrom f c as = c ∨ ∃ a ∈ as, f a = tightestFrom f c as := by
  induction as generalizing c with
  | nil => exact .inl rfl
  | cons b bs ih =>
    rw [tightestFrom_cons]
    rcases ih (c.tighter (f b)) with start | ⟨a, ha, attained⟩
    · rw [start]
      exact (c.tighter_eq_or (f b)).imp_right fun h => ⟨b, List.mem_cons_self, h.symm⟩
    · exact .inr ⟨a, List.mem_cons_of_mem b ha, attained⟩

/-- Counted from ESSENTIAL, the least restrictive class, the tightest class of a list that is not empty is one of its own. -/
theorem exists_mem_eq_tightestFrom_essential {α : Type} (f : α → LoadClass) {as : List α} {a : α} (ha : a ∈ as) :
    ∃ d ∈ as, f d = tightestFrom f .essential as := by
  rcases tightestFrom_eq_or f .essential as with start | attained
  · refine ⟨a, ha, LoadClass.code_inj.mp ?_⟩
    have bound := code_le_tightestFrom f .essential ha
    rw [start] at bound ⊢
    exact Nat.le_antisymm bound (Nat.zero_le _)
  · exact attained

/-! ### The windows that match -/

theorem mem_matchingWindows {m : ClassMap} {n : LoadId} {w : Fin 6} :
    w ∈ matchingWindows m n ↔ (m.windows.get w).valid = true ∧
      BitVec.ofNat 6 n.val &&& (m.windows.get w).mask = (m.windows.get w).base &&& (m.windows.get w).mask := by
  simp [matchingWindows, Window.matchesLoad]

theorem matchingWindows_ascending (m : ClassMap) (n : LoadId) : (matchingWindows m n).Pairwise (· < ·) :=
  (List.pairwise_lt_finRange 6).filter _

/-- In an ascending list the first item with a property is the least one with it. -/
theorem le_of_find?_eq_some {k : Nat} {is : List (Fin k)} (ascending : is.Pairwise (· < ·)) {p : Fin k → Bool} {d i : Fin k}
    (found : is.find? p = some d) (hi : i ∈ is) (hp : p i = true) : d ≤ i := by
  obtain ⟨-, front, back, rfl, fails⟩ := List.find?_eq_some_iff_append.mp found
  obtain ⟨-, behind, -⟩ := List.pairwise_append.mp ascending
  rcases List.mem_append.mp hi with early | late
  · exact absurd hp (by simpa using fails i early)
  · rcases List.mem_cons.mp late with rfl | late
    · exact le_rfl
    · exact le_of_lt (List.rel_of_pairwise_cons behind late)

/-- The most restrictive class among the valid windows that match a load point (R11). -/
def tightestMatching (m : ClassMap) (n : LoadId) : LoadClass :=
  tightestFrom (fun w => (m.windows.get w).cls) .essential (matchingWindows m n)

/-- The first of the matching windows that carry that class. -/
def decidingWindow? (m : ClassMap) (n : LoadId) : Option (Fin 6) :=
  (matchingWindows m n).find? fun w => (m.windows.get w).cls == tightestMatching m n

/-- Where a window matches, one of the matching windows decides: it carries the most restrictive class and is the
lowest-numbered of those that do. -/
theorem exists_decidingWindow {m : ClassMap} {n : LoadId} {w : Fin 6} (hw : w ∈ matchingWindows m n) :
    ∃ d ∈ matchingWindows m n, decidingWindow? m n = some d ∧ (m.windows.get d).cls = tightestMatching m n ∧
      ∀ v ∈ matchingWindows m n, (m.windows.get v).cls = tightestMatching m n → d ≤ v := by
  obtain ⟨a, ha, carries⟩ := exists_mem_eq_tightestFrom_essential (fun w => (m.windows.get w).cls) hw
  obtain ⟨d, found⟩ : ∃ d, decidingWindow? m n = some d :=
    Option.isSome_iff_exists.mp (List.find?_isSome.mpr ⟨a, ha, beq_iff_eq.mpr carries⟩)
  have tightest := List.find?_some found
  exact ⟨d, List.mem_of_find?_eq_some found, found, beq_iff_eq.mp tightest,
    fun v hv same => le_of_find?_eq_some (matchingWindows_ascending m n) found hv (beq_iff_eq.mpr same)⟩

/-! ### What decides -/

theorem resolveClass_of_mapOff {m : ClassMap} (off : m.enabled = false) (n : LoadId) :
    resolveClass m n = (.lockout, .mapOff) := by
  simp [resolveClass, off]

theorem resolveClass_of_fixed {m : ClassMap} (on : m.enabled = true) (fixedOn : m.fixedEnabled = true) {n : LoadId}
    {e : Fin 16} (he : e.val = n.val) : resolveClass m n = (m.fixed.get e, .fixed e) := by
  simp [resolveClass, on, fixedOn, ← he, index?_val]

/-- Where no fixed entry decides, the deciding window does, and the default where there is none. -/
theorem resolveClass_of_noFixed {m : ClassMap} (on : m.enabled = true) {n : LoadId}
    (noFixed : m.fixedEnabled = false ∨ 15 < n.val) :
    resolveClass m n =
      (decidingWindow? m n).elim (m.default, .default) fun d => (tightestMatching m n, .window d) := by
  have noEntry : (if m.fixedEnabled then index? 16 n.val else none) = none := by
    rcases noFixed with off | past
    · simp [off]
    · simp [index?_eq_none_iff.mpr past]
  simp only [resolveClass, on, noEntry, Bool.true_eq_false, if_false, decidingWindow?, tightestMatching, tightestFrom]
  split <;> simp [*]

theorem resolveClass_of_noMatch {m : ClassMap} (on : m.enabled = true) {n : LoadId}
    (noFixed : m.fixedEnabled = false ∨ 15 < n.val) (noMatch : matchingWindows m n = []) :
    resolveClass m n = (m.default, .default) := by
  simp [resolveClass_of_noFixed on noFixed, decidingWindow?, noMatch]

/-- R11: the class is the most restrictive of the windows that match, and the lowest-numbered one that carries it decides. -/
theorem resolveClass_of_match {m : ClassMap} (on : m.enabled = true) {n : LoadId}
    (noFixed : m.fixedEnabled = false ∨ 15 < n.val) {w : Fin 6} (hw : w ∈ matchingWindows m n) :
    ∃ d ∈ matchingWindows m n, resolveClass m n = ((m.windows.get d).cls, .window d) ∧
      (m.windows.get w).cls.code ≤ (m.windows.get d).cls.code ∧
      ((m.windows.get w).cls = (m.windows.get d).cls → d ≤ w) := by
  obtain ⟨d, hd, found, tightest, lowest⟩ := exists_decidingWindow hw
  refine ⟨d, hd, ?_, ?_, fun same => lowest w hw (same.trans tightest)⟩
  · rw [resolveClass_of_noFixed on noFixed, found, tightest, Option.elim_some]
  · rw [tightest]
    exact code_le_tightestFrom (fun w => (m.windows.get w).cls) .essential hw

/-- Settles O14: map off, fixed entry, most restrictive matching window and default, each by its own equation. -/
theorem classMapResolvesByItsOrder : Obligations.ClassMapResolvesByItsOrder := by
  intro m n
  refine ⟨fun off => resolveClass_of_mapOff off n, fun on fixedOn e he => resolveClass_of_fixed on fixedOn he,
    fun on noFixed => ⟨fun noMatch => ?_, fun w hw => ?_⟩⟩
  · refine resolveClass_of_noMatch on noFixed (List.eq_nil_iff_forall_not_mem.mpr fun w hw => ?_)
    exact noMatch w (mem_matchingWindows.mp hw)
  · obtain ⟨d, hd, decides⟩ := resolveClass_of_match on noFixed (mem_matchingWindows.mpr hw)
    exact ⟨d, mem_matchingWindows.mp hd, decides⟩

end Sys2Proof.Machine
end

section
/-! PROOF. What FRAME_SET and FEED_CONFIG store (02_the_allocation_frame.md, R20; 03_feed_supervision.md, R52 and R53): what a
port command answers whose payload has its length, whatever its port's role; then the two commands' own checks and effects. -/

namespace Sys2Proof.Machine

/-! ### What a port command answers where only the role is still to be judged -/

/-- R181: DENIED to a role without the command, else what the command's own checks and effect answer. -/
theorem command_listening {t : Transfer} {roles : List Role} {body : State → Answer} {s : State} (h : Listening t s) :
    command t roles body s = .next (
      if ¬ Permitted t roles s then refusedWith t .denied s else placeAnswer t.port (body (heard t s))) := by
  obtain ⟨quiet, taken, lengthOk⟩ := h
  split
  · next denied => exact command_denied quiet taken denied
  · next permitted => exact command_judged ⟨quiet, taken, not_not.mp permitted, lengthOk⟩

theorem placeAnswer_refuse (t : Transfer) (why : Status) (s : State) :
    placeAnswer t.port (refuse why (heard t s)) = refusedWith t why s := rfl

theorem placeAnswer_accept (t : Transfer) (w : State) : placeAnswer t.port (accept w) = answered t .ok [] w := rfl

theorem exec_frameSet (t : Transfer) (len : Nat) (s : State) :
    exec (.frameSet t len) s = command t [.energy] (frameSet len) s := rfl

theorem exec_feedConfig (t : Transfer) (sag restore debounce wait : Nat) (s : State) :
    exec (.feedConfig t sag restore debounce wait) s = command t [.energy] (feedConfig sag restore debounce wait) s := rfl

/-! ### FRAME_SET -/

/-- R20: a length of 0 or above 10 is refused; any other becomes the pending one, and the one in force stays. -/
theorem placeAnswer_frameSet (t : Transfer) (len : Nat) (s : State) :
    placeAnswer t.port (frameSet len (heard t s)) =
      if len = 0 ∨ 10 < len then refusedWith t .range s
      else answered t .ok [] { heard t s with time := { s.time with slicePending := len } } := by
  unfold frameSet
  split
  · exact placeAnswer_refuse t .range s
  · rw [placeAnswer_accept, heard_time]

/-! ### FEED_CONFIG -/

/-- R52: the four settings are taken together. -/
abbrev FeedSettingsTaken (sag restore debounce wait : Nat) : Prop :=
  (60 ≤ sag ∧ sag ≤ 95) ∧ (sag + 2 < restore ∧ restore ≤ 98) ∧ (1 ≤ debounce ∧ debounce ≤ 20) ∧ (1 ≤ wait ∧ wait ≤ 120)

/-- R52: any one of the four settings out of its range refuses them all. -/
theorem feedConfig_of_not_taken {sag restore debounce wait : Nat} (out : ¬ FeedSettingsTaken sag restore debounce wait)
    (s : State) : feedConfig sag restore debounce wait s = refuse .range s :=
  if_pos (by unfold FeedSettingsTaken at out; omega)

/-- R52 and R53: the four settings are stored and both counts start again; feed state, timers and restore due stay. -/
theorem feedConfig_of_taken {sag restore debounce wait : Nat} (taken : FeedSettingsTaken sag restore debounce wait)
    (s : State) :
    feedConfig sag restore debounce wait s = accept { s with feed := { s.feed with
      sagThreshold := sag, restoreThreshold := restore, debounce := debounce, restoreWait := wait, sagCount := 0,
      restoreCount := 0 } } :=
  if_neg (by unfold FeedSettingsTaken at taken; omega)

theorem placeAnswer_feedConfig (t : Transfer) (sag restore debounce wait : Nat) (s : State) :
    placeAnswer t.port (feedConfig sag restore debounce wait (heard t s)) =
      if FeedSettingsTaken sag restore debounce wait then
        answered t .ok [] { heard t s with feed := { s.feed with
          sagThreshold := sag, restoreThreshold := restore, debounce := debounce, restoreWait := wait, sagCount := 0,
          restoreCount := 0 } }
      else refusedWith t .range s := by
  split
  · next taken => rw [feedConfig_of_taken taken, placeAnswer_accept, heard_feed]
  · next out => rw [feedConfig_of_not_taken out, placeAnswer_refuse]

/-- Settles O16: the role is judged as for any command, then each of the two commands by its own range and effect. -/
theorem frameSetAndFeedConfigStore : Obligations.FrameSetAndFeedConfigStore := by
  intro t s listening
  refine ⟨fun len => ?_, fun sag restore debounce wait => ?_⟩
  · rw [exec_frameSet, command_listening listening, placeAnswer_frameSet]
  · rw [exec_feedConfig, command_listening listening, placeAnswer_feedConfig]

end Sys2Proof.Machine
end

section
/-! PROOF. What WARE_DEFINE and RETURN do (07_ware_stock_and_restocking.md, R120 and R122): each command's own checks in their
order and its effect, then the same in the state in which a request is heard. -/

namespace Sys2Proof.Machine

theorem exec_wareDefine (t : Transfer) (kind stock : Nat) (s : State) :
    exec (.wareDefine t kind stock) s = command t [.warewash, .banquet] (wareDefine kind stock) s := rfl

theorem exec_wareReturn (t : Transfer) (kind number : Nat) (s : State) :
    exec (.wareReturn t kind number) s = command t [.warewash, .banquet] (wareReturn kind number) s := rfl

theorem placeAnswer_acceptClamped (t : Transfer) (moved : Bool) (data : List Byte) (w : State) :
    placeAnswer t.port (acceptClamped moved data w) = answered t (okOr moved) data w := rfl

/-- Clamping a number to what there is changes it exactly where there is less. -/
theorem min_bne_self (number most : Nat) : (min number most != number) = decide (most < number) := by
  rw [Bool.eq_iff_iff, bne_iff_ne, decide_eq_true_iff]
  omega

/-! ### WARE_DEFINE -/

theorem wareDefine_pastKinds {kind : Nat} (past : 7 < kind) (stock : Nat) (s : State) :
    wareDefine kind stock s = refuse .range s := by
  rw [wareDefine, index?_eq_none_iff.mpr past]

theorem wareDefine_kind (k : WareId) (stock : Nat) (s : State) :
    wareDefine k.val stock s =
      if 9999 < stock then refuse .range s
      else if (s.wares.get k).defined then refuse .duplicate s
      else accept (s.setWare k { defined := true, total := stock, soiled := 0, clean := stock, out := 0 }) := by
  rw [wareDefine, index?_val]
  rfl

/-- R120: the whole stock starts in CLEAN. -/
theorem placeAnswer_wareDefine (t : Transfer) (k : WareId) (stock : Nat) (s : State) :
    placeAnswer t.port (wareDefine k.val stock (heard t s)) =
      if 9999 < stock then refusedWith t .range s
      else if (s.wares.get k).defined then refusedWith t .duplicate s
      else answered t .ok [] { heard t s with
        wares := s.wares.set k { defined := true, total := stock, soiled := 0, clean := stock, out := 0 } } := by
  rw [wareDefine_kind, heard_wares]
  split
  · exact placeAnswer_refuse t .range s
  split
  · exact placeAnswer_refuse t .duplicate s
  · rw [placeAnswer_accept, State.setWare, heard_wares]

/-! ### RETURN -/

theorem wareReturn_pastKinds {kind : Nat} (past : 7 < kind) (number : Nat) (s : State) :
    wareReturn kind number s = refuse .range s := by
  rw [wareReturn, index?_eq_none_iff.mpr past]

theorem wareReturn_kind (k : WareId) (number : Nat) (s : State) :
    wareReturn k.val number s =
      let w := s.wares.get k
      if number < 1 ∨ 9999 < number then refuse .range s
      else if w.defined = false then refuse .notFound s
      else if w.out = 0 then refuse .empty s
      else acceptClamped (decide (w.out < number)) (bigEndian 2 (min number w.out))
        (s.setWare k { w with out := w.out - min number w.out, soiled := w.soiled + min number w.out }) := by
  simp only [wareReturn, index?_val, min_bne_self, wareLimit]

/-- R122: OUT gives what it can, SOILED takes just that, and the reply says how many. -/
theorem placeAnswer_wareReturn (t : Transfer) (k : WareId) (number : Nat) (s : State) :
    placeAnswer t.port (wareReturn k.val number (heard t s)) =
      let w := s.wares.get k
      if number < 1 ∨ 9999 < number then refusedWith t .range s
      else if w.defined = false then refusedWith t .notFound s
      else if w.out = 0 then refusedWith t .empty s
      else answered t (okOr (decide (w.out < number))) (bigEndian 2 (min number w.out)) { heard t s with
        wares := s.wares.set k
          { w with out := w.out - min number w.out, soiled := w.soiled + min number w.out } } := by
  rw [wareReturn_kind, heard_wares]
  dsimp only
  split
  · exact placeAnswer_refuse t .range s
  split
  · exact placeAnswer_refuse t .notFound s
  split
  · exact placeAnswer_refuse t .empty s
  · rw [placeAnswer_acceptClamped, State.setWare, heard_wares]

/-- Settles O36: the role is judged first, then the kind's number, then each command by its own checks and effect. -/
theorem wareDefineAndReturn : Obligations.WareDefineAndReturn := by
  intro t kind n s ⟨quiet, taken, lengthOk⟩
  refine ⟨fun denied => ?_, fun permitted => ?_⟩
  · exact List.forall_mem_cons.mpr ⟨command_denied quiet taken denied,
      List.forall_mem_singleton.mpr (command_denied quiet taken denied)⟩
  have judged : Judged t [.warewash, .banquet] s := ⟨quiet, taken, permitted, lengthOk⟩
  refine ⟨fun past => List.forall_mem_cons.mpr ⟨?_, List.forall_mem_singleton.mpr ?_⟩, ?_⟩
  · rw [exec_wareDefine, command_judged judged, wareDefine_pastKinds past, placeAnswer_refuse]
  · rw [exec_wareReturn, command_judged judged, wareReturn_pastKinds past, placeAnswer_refuse]
  rintro k rfl
  refine ⟨?_, ?_⟩
  · rw [exec_wareDefine, command_judged judged, placeAnswer_wareDefine]
  · rw [exec_wareReturn, command_judged judged, placeAnswer_wareReturn]

end Sys2Proof.Machine
end

section
/-! PROOF. What STAFF_SET, PAGE_SEND, PAGE_LEVELS and PAGE_TIMING do (09_staff_roster_and_paging.md, R152, R158 and R159): each
command's own checks in their order and its effect, then the same in the state in which a request is heard. -/

namespace Sys2Proof.Machine

/-- A command of every role is denied to no port (R181). -/
theorem mem_allRoles (r : Role) : r ∈ allRoles := by cases r <;> decide

theorem placeAnswer_reply (t : Transfer) (data : List Byte) (w : State) :
    placeAnswer t.port (reply data w) = answered t .ok data w := rfl

theorem exec_staffSet (t : Transfer) (entry address role group : Nat) (s : State) :
    exec (.staffSet t entry address role group) s =
      command t [.banquet, .warewash] (staffSet entry address role group) s := rfl

theorem exec_pageSend (t : Transfer) (role group closure code object : Nat) (s : State) :
    exec (.pageSend t role group closure code object) s =
      command t allRoles (pageSend role group closure code object) s := rfl

theorem exec_pageLevels (t : Transfer) (a b c d e f : Nat) (s : State) :
    exec (.pageLevels t a b c d e f) s = command t [.banquet] (pageLevels a b c d e f) s := rfl

theorem exec_pageTiming (t : Transfer) (setting : Nat) (s : State) :
    exec (.pageTiming t setting) s = command t [.banquet] (pageTiming setting) s := rfl

/-! ### STAFF_SET -/

theorem staffSet_outOfRange {entry role group : Nat}
    (out : ∀ e r g, index? 64 entry = some e → StaffRole.ofCode? role = some r → index? 8 group = some g → False)
    (address : Nat) (s : State) : staffSet entry address role group s = refuse .range s := by
  unfold staffSet
  split
  · next e r g he hr hg => exact (out e r g he hr hg).elim
  · rfl

theorem staffSet_inRange {entry role group address : Nat} {e : EntryId} {r : StaffRole} {g : Fin 8}
    (he : index? 64 entry = some e) (hr : StaffRole.ofCode? role = some r) (hg : index? 8 group = some g)
    (word : address ≤ 65535) (s : State) :
    staffSet entry address role group s =
      if (s.staff e).duty = .offDuty then
        accept (s.setStaff e { s.staff e with address := address, role := r, group := g })
      else refuse .state s := by
  simp only [staffSet, he, hr, hg, if_neg (Nat.not_lt.mpr word), ne_eq, ite_not]

/-- R152: an entry on duty refuses its new settings; one off duty takes them. -/
theorem placeAnswer_staffSet {entry role group address : Nat} {e : EntryId} {r : StaffRole} {g : Fin 8}
    (he : index? 64 entry = some e) (hr : StaffRole.ofCode? role = some r) (hg : index? 8 group = some g)
    (word : address ≤ 65535) (t : Transfer) (s : State) :
    placeAnswer t.port (staffSet entry address role group (heard t s)) =
      if ((heard t s).staff e).duty = .offDuty then
        answered t .ok []
          ((heard t s).setStaff e { (heard t s).staff e with address := address, role := r, group := g })
      else refusedWith t .state s := by
  rw [staffSet_inRange he hr hg word]
  split
  · exact placeAnswer_accept t _
  · exact placeAnswer_refuse t .state s

/-- Settles O41: the role is judged first, then the three numbers, then the entry's duty. -/
theorem staffSetNeedsOffDuty : Obligations.StaffSetNeedsOffDuty := by
  intro t entry address role group s listening word
  rw [exec_staffSet, command_listening listening]
  refine congrArg _ (if_congr Iff.rfl rfl ?_)
  split
  · next e r g he hr hg => exact placeAnswer_staffSet he hr hg word t s
  · next out => rw [staffSet_outOfRange out, placeAnswer_refuse]

/-! ### PAGE_SEND -/

theorem pageSend_outOfRange {role group closure : Nat}
    (out : ∀ r g c, StaffRole.ofCode? role = some r → PageGroup.ofCode? group = some g →
      Closure.ofCode? closure = some c → False)
    (code object : Nat) (s : State) : pageSend role group closure code object s = refuse .range s := by
  unfold pageSend
  split
  · next r g c hr hg hc => exact (out r g c hr hg hc).elim
  · rfl

theorem pageSend_inRange {role group closure : Nat} {r : StaffRole} {g : PageGroup} {c : Closure}
    (hr : StaffRole.ofCode? role = some r) (hg : PageGroup.ofCode? group = some g) (hc : Closure.ofCode? closure = some c)
    (code object : Nat) (s : State) :
    pageSend role group closure code object s =
      if code < 128 ∨ 255 < code ∨ 255 < object then refuse .range s
      else if 32 ≤ s.desk.pages.length then refuse .full s
      else reply (bigEndian 1 (freePageId s.desk).val) (addPage 5 code object r g c s) := by
  simp only [pageSend, hr, hg, hc]
  rfl

/-- R155 and R156, in the state in which a request is heard: the page carries the clock of the request. -/
theorem addPage_heard (source : Fin 6) (cause object : Nat) (role : StaffRole) (group : PageGroup) (closure : Closure)
    (t : Transfer) (s : State) :
    addPage source cause object role group closure (heard t s) =
      { heard t s with desk := { (heard t s).desk with
        nextId := freePageId (heard t s).desk + 1
        pages := (heard t s).desk.pages ++ [{
          id := freePageId (heard t s).desk, source := source, cause := cause, object := object, role := role
          group := group, level := (heard t s).desk.levels.get source, closure := closure, state := .queued
          target := none, step := 0, excluded := none, ackTimer := none, created := s.time.clock }] } } := by
  rw [← heard_time t s]
  rfl

/-- R158: the message code and object are judged first, then the room in the queue. -/
theorem placeAnswer_pageSend {role group closure : Nat} {r : StaffRole} {g : PageGroup} {c : Closure}
    (hr : StaffRole.ofCode? role = some r) (hg : PageGroup.ofCode? group = some g) (hc : Closure.ofCode? closure = some c)
    (code object : Nat) (t : Transfer) (s : State) :
    placeAnswer t.port (pageSend role group closure code object (heard t s)) =
      if code < 128 ∨ 255 < code ∨ 255 < object then refusedWith t .range s
      else if 32 ≤ (heard t s).desk.pages.length then refusedWith t .full s
      else answered t .ok (bigEndian 1 (freePageId (heard t s).desk).val) (addPage 5 code object r g c (heard t s)) := by
  rw [pageSend_inRange hr hg hc]
  split
  · exact placeAnswer_refuse t .range s
  split
  · exact placeAnswer_refuse t .full s
  · exact placeAnswer_reply t _ _

/-! ### PAGE_LEVELS and PAGE_TIMING -/

/-- R159: one level above 3 refuses all six. -/
theorem placeAnswer_pageLevels (t : Transfer) (a b c d e f : Nat) (s : State) :
    placeAnswer t.port (pageLevels a b c d e f (heard t s)) =
      if a ≤ 3 ∧ b ≤ 3 ∧ c ≤ 3 ∧ d ≤ 3 ∧ e ≤ 3 ∧ f ≤ 3 then
        answered t .ok [] { heard t s with desk := { (heard t s).desk with levels := ⟨[a, b, c, d, e, f], rfl⟩ } }
      else refusedWith t .range s := by
  split
  · next within => rw [pageLevels, if_neg (by omega), placeAnswer_accept]
  · next out => rw [pageLevels, if_pos (by omega), placeAnswer_refuse]

/-- R159: the ack timeout setting takes any value up to 23. -/
theorem placeAnswer_pageTiming (t : Transfer) (setting : Nat) (s : State) :
    placeAnswer t.port (pageTiming setting (heard t s)) =
      if setting ≤ 23 then answered t .ok [] { heard t s with desk := { (heard t s).desk with ackSetting := setting } }
      else refusedWith t .range s := by
  split
  · next within => rw [pageTiming, if_neg (Nat.not_lt.mpr within), placeAnswer_accept]
  · next past => rw [pageTiming, if_pos (Nat.not_le.mp past), placeAnswer_refuse]

/-- Settles O43: PAGE_SEND is every role's and is judged by its numbers and the room in the queue; the settings are judged by
the role first, then each by its own range. -/
theorem pageSendAndSettings : Obligations.PageSendAndSettings := by
  intro t s listening
  refine ⟨fun role group closure code object => ?_, fun a b c d e f => ?_, fun setting => ?_⟩
  · rw [exec_pageSend, command_listening listening, if_neg (not_not.mpr (mem_allRoles _))]
    refine congrArg _ ?_
    split
    · next r g c hr hg hc => rw [placeAnswer_pageSend hr hg hc, addPage_heard]
    · next out => rw [pageSend_outOfRange out, placeAnswer_refuse]
  · rw [exec_pageLevels, command_listening listening, placeAnswer_pageLevels]
  · rw [exec_pageTiming, command_listening listening, placeAnswer_pageTiming]

end Sys2Proof.Machine
end

section
/-! PROOF. What each command's arm of `exec` is made of, and which blocks of the state its effect can change: the five sorts of
meaning (a request, another transaction, an event, a grant, a reset), the effect of each command apart from what its
transaction does around it, and one packaged induction over everything that a step may do. -/

namespace Sys2Proof.Machine

/-! ### The five sorts of meaning -/

/-- What an arm of `exec` is made of (R161, R181, R192). -/
inductive Meaning where
  | request (t : Transfer) (roles : List Role) (body : State → Answer)
  | other (p : PortId) (clocked : Nat) (body : State → State)
  | event (f : State → State)
  | grant (f : State → State)
  | reset (f : State → State)

/-- The state that a meaning leaves. -/
def Meaning.run : Meaning → State → State
  | .request t roles body, s =>
    transaction t.port t.clocked (fun s => placeAnswer t.port (judge t roles body s)) s
  | .other p clocked body, s => transaction p clocked body s
  | .event f, s => if s.running then f (arbitrate s) else s
  | .grant f, s => if s.running then f s else s
  | .reset f, s => f s

/-- What a meaning does by itself, apart from its transaction and from the grant before it. -/
def Meaning.effect : Meaning → State → State
  | .request _ _ body, s => (body s).state
  | .other _ _ _, s => s
  | .event f, s | .grant f, s | .reset f, s => f s

/-- The meaning of each command. -/
def meaning : Instr → Meaning
  | .nop t => .request t allRoles accept
  | .status t => .request t allRoles fun s => reply (statusData t.port s) s
  | .readNotice t => .request t allRoles (readNotice t.port)
  | .clockSet t v => .request t [.banquet, .energy] (clockSet v)
  | .superviseSet t v => .request t allRoles (superviseSet t.port v)
  | .loadSet t n r => .request t [.production, .energy] (loadSet n r)
  | .loadQuery t n => .request t allRoles (loadQuery n)
  | .mapFixed t e c => .request t [.energy] (mapFixed e c)
  | .mapWindow t w b m c v => .request t [.energy] (mapWindow w b m c v)
  | .mapDefault t c => .request t [.energy] (mapDefault c)
  | .mapEnable t m f => .request t [.energy] (mapEnable m f)
  | .mapQuery t n => .request t allRoles (mapQuery n)
  | .frameSet t l => .request t [.energy] (frameSet l)
  | .feedLimit t l => .request t [.energy] (feedLimit l)
  | .shedLevel t l => .request t [.energy] (shedLevel l)
  | .frameQuery t => .request t allRoles fun s => reply (frameData s) s
  | .feedConfig t a b c d => .request t [.energy] (feedConfig a b c d)
  | .feedQuery t => .request t allRoles fun s => reply (feedData s) s
  | .sensorQuery t c => .request t allRoles (sensorQuery c)
  | .zoneDefine t z => .request t kindRoles (zoneDefine t.port z)
  | .zoneSetpoint t z a b c => .request t kindRoles (zoneSetpoint t.port z a b c)
  | .zoneStart t z => .request t kindRoles (zoneStart t.port z)
  | .zoneStop t z => .request t kindRoles (zoneStop t.port z)
  | .zonePause t z => .request t kindRoles (zonePause t.port z)
  | .zoneResume t z => .request t kindRoles (zoneResume t.port z)
  | .zoneClear t z => .request t kindRoles (zoneClear t.port z)
  | .zoneQuery t z => .request t allRoles (zoneQuery z)
  | .programStep t z n a b c d => .request t kindRoles (programStep t.port z n a b c d)
  | .programLoad t z n h => .request t kindRoles (programLoad t.port z n h)
  | .programRun t z => .request t kindRoles (programRun t.port z)
  | .programAdvance t z => .request t kindRoles (programAdvance t.port z)
  | .programAbort t z => .request t kindRoles (programAbort t.port z)
  | .programQuery t z => .request t kindRoles (programQuery t.port z)
  | .lineConfig t l => .request t [.warewash] (lineConfig l)
  | .rackLoad t a k c => .request t [.warewash] (rackLoad a k c)
  | .linePurge t => .request t [.warewash] linePurge
  | .lineQuery t => .request t allRoles fun s => reply (lineData s) s
  | .rackQuery t q => .request t allRoles (rackQuery q)
  | .wareDefine t k n => .request t [.warewash, .banquet] (wareDefine k n)
  | .wareAdjust t k l z a => .request t [.warewash, .banquet] (wareAdjust k l z a)
  | .wareReturn t k n => .request t [.warewash, .banquet] (wareReturn k n)
  | .wareQuery t k => .request t allRoles (wareQuery k)
  | .cabinetSet t z k c l h => .request t kindRoles (cabinetSet t.port z k c l h)
  | .cabinetQuery t z => .request t allRoles (cabinetQuery z)
  | .restockConfirm t z n => .request t [.warewash] (restockConfirm z n)
  | .restockQuery t => .request t allRoles fun s => reply (restockData s) s
  | .courseFire t r k c g cs => .request t [.banquet] (courseFire r k c g cs)
  | .coursePlated t c n => .request t [.banquet] (coursePlated c n)
  | .courseClose t c => .request t [.banquet] (courseClose c)
  | .courseQuery t c => .request t allRoles (courseQuery c)
  | .staffSet t e a r g => .request t [.banquet, .warewash] (staffSet e a r g)
  | .staffDuty t e d => .request t [.banquet, .warewash] (staffDuty e d)
  | .staffQuery t e => .request t allRoles (staffQuery e)
  | .pageSend t r g c m o => .request t allRoles (pageSend r g c m o)
  | .pageDone t i => .request t allRoles (pageDone i)
  | .pageLevels t a b c d e f => .request t [.banquet] (pageLevels a b c d e f)
  | .pageTiming t n => .request t [.banquet] (pageTiming n)
  | .pageQuery t i => .request t allRoles (pageQuery i)
  | .linkQuery t => .request t allRoles fun s => reply (linkData s) s
  | .readTransaction p n => .other p n id
  | .frameError p n => .other p n fun s => placeAnswer p (refuse .frameError s)
  | .unknown p n => .other p n fun s => placeAnswer p (refuse .unknown s)
  | .supervisionTimerExpiry p => .event (supervisionExpiry p)
  | .kitchenClockAdvance => .event clockAdvance
  | .sliceAdvance => .event sliceAdvance
  | .frameBoundary => .event frameBoundary
  | .feedConversion code => .event (feedConversion code)
  | .waitTimerExpiry => .event waitExpiry
  | .sensorConversion code => .event (sensorConversion code)
  | .soakTimerExpiry z => .event (soakExpiry z)
  | .recoverTimerLimit z => .event (recoverLimitReached z)
  | .standbyTimerExpiry z => .event (standbyExpiry z)
  | .stepTimerExpiry z => .event (stepExpiry z)
  | .rinseEnter => .event rinseEnter
  | .rinseExit => .event rinseExit
  | .rackOut => .event rackOut
  | .offer => .grant grantOffer
  | .reOffer => .grant grantReOffer
  | .cancel => .grant grantCancel
  | .transmitComplete => .event transmitComplete
  | .sent i => .event (sentMessage i)
  | .unreachable i => .event (unreachableMessage i)
  | .ack i a x => .event (ackMessage i a x)
  | .alive => .event aliveMessage
  | .garbledMessage _ => .event garble
  | .receiveGap => .event receiveGap
  | .ackTimerExpiry i => .event (ackTimerExpiry i)
  | .responseTimerExpiry => .event responseExpiry
  | .probeTimerExpiry => .event probeExpiry
  | .powerOnReset => .reset powerOnReset
  | .pinReset => .reset pinReset
  | .leaveReset straps selected => .reset (leaveReset straps selected)
  | .lineLevelChange line => .event (seeTransition line)

/-- Every command answers the state that its meaning leaves. -/
theorem exec_eq_run (i : Instr) (s : State) : exec i s = .next ((meaning i).run s) := by cases i <;> rfl

/-- What a command does by itself. -/
def effect (i : Instr) (s : State) : State := (meaning i).effect s

/-- The requests are the port commands of the table, with the roles that it permits them to (11 section 11.4). -/
theorem meaning_of_portCommand {i : Instr} {t : Transfer} {roles : List Role} (h : portCommand i = some (t, roles)) :
    ∃ body, meaning i = .request t roles body := by
  cases i <;> cases h <;> exact ⟨_, rfl⟩

/-- The resets are the three reset events (R192). -/
theorem meaning_reset_iff {i : Instr} : (∃ f, meaning i = .reset f) ↔ isReset i = true := by
  cases i <;> simp [meaning, isReset]

/-! ### Blocks -/

/-- The blocks of the state, as far as the laws of the device tell them apart. -/
inductive Block where
  | time | loads | map | alloc | feed | scan | zones | permit | racks | lineSettings | wares | restock | courses | paging
  | link | ports
  deriving DecidableEq

/-- What LINE_CONFIG gives the line (R99): its record but for racks, permit, counter and levels. -/
def DishLine.settings (l : DishLine) : DishLine :=
  { l with racks := [], permit := false, faults := 0, sampled := false, enterLevel := false, exitLevel := false, outLevel := false }

/-- A block is the same in two states. -/
def SameBlock (s t : State) : Block → Prop
  | .time => t.time = s.time
  | .loads => t.loads = s.loads
  | .map => t.map = s.map
  | .alloc => t.alloc = s.alloc
  | .feed => t.feed = s.feed
  | .scan => t.scan = s.scan
  | .zones => t.zones = s.zones
  | .permit => t.line.permit = s.line.permit
  | .racks => t.line.racks = s.line.racks
  | .lineSettings => t.line.settings = s.line.settings
  | .wares => t.wares = s.wares
  | .restock => t.restock = s.restock
  | .courses => t.courses = s.courses
  | .paging => t.desk = s.desk ∧ t.roster = s.roster
  | .link => t.link = s.link
  | .ports => t.ports = s.ports

theorem SameBlock.refl (s : State) (b : Block) : SameBlock s s b := by cases b <;> simp [SameBlock]

theorem SameBlock.trans {s t u : State} {b : Block} (h : SameBlock s t b) (k : SameBlock t u b) : SameBlock s u b := by
  cases b <;> simp_all [SameBlock]

/-- Every block but those listed is the same, and the queue, the reset state and the pins are. -/
structure Within (bs : List Block) (s t : State) : Prop where
  pending : t.pending = s.pending
  chip : t.chip = s.chip
  pins : t.pins = s.pins
  same : ∀ b, b ∉ bs → SameBlock s t b

theorem Within.refl (bs : List Block) (s : State) : Within bs s s := ⟨rfl, rfl, rfl, fun b _ => SameBlock.refl s b⟩

theorem Within.trans {bs : List Block} {s t u : State} (h : Within bs s t) (k : Within bs t u) : Within bs s u :=
  ⟨k.pending.trans h.pending, k.chip.trans h.chip, k.pins.trans h.pins, fun b hb => (h.same b hb).trans (k.same b hb)⟩

theorem Within.mono {bs cs : List Block} {s t : State} (h : Within bs s t) (sub : bs ⊆ cs) : Within cs s t :=
  ⟨h.pending, h.chip, h.pins, fun b hb => h.same b fun mem => hb (sub mem)⟩

/-- The blocks that each frame relation of Safety.lean leaves open. -/
abbrev pagingBlocks : List Block := [.paging, .ports]
abbrev stockBlocks : List Block := [.zones, .permit, .restock] ++ pagingBlocks
abbrev serviceBlocks : List Block := [.wares, .courses] ++ stockBlocks
abbrev zoneMoveBlocks : List Block := [.loads, .alloc, .racks] ++ serviceBlocks

theorem PagingOnly.within {s t : State} (h : PagingOnly s t) : Within pagingBlocks s t := by
  obtain ⟨⟨d, r, p, rfl⟩, -⟩ := h
  refine ⟨rfl, rfl, rfl, fun b hb => ?_⟩
  cases b <;> simp_all [SameBlock]

theorem StockOnly.within {s t : State} (h : StockOnly s t) : Within stockBlocks s t := by
  obtain ⟨⟨z, b, l, d, r, p, rfl⟩, -⟩ := h
  refine ⟨rfl, rfl, rfl, fun b hb => ?_⟩
  cases b <;> simp_all [SameBlock, DishLine.settings]

theorem ServiceOnly.within {s t : State} (h : ServiceOnly s t) : Within serviceBlocks s t := by
  obtain ⟨⟨z, b, w, l, c, d, r, p, rfl⟩, -⟩ := h
  refine ⟨rfl, rfl, rfl, fun b hb => ?_⟩
  cases b <;> simp_all [SameBlock, DishLine.settings]

theorem ZoneMoveOnly.within {s t : State} (h : ZoneMoveOnly s t) : Within zoneMoveBlocks s t := by
  obtain ⟨⟨lo, a, z, b, k, w, l, c, d, r, p, rfl⟩, -⟩ := h
  refine ⟨rfl, rfl, rfl, fun b hb => ?_⟩
  cases b <;> simp_all [SameBlock, DishLine.settings]

theorem PlacementOnly.within {s t : State} (h : PlacementOnly s t) : Within [.loads, .alloc] s t := by
  obtain ⟨lo, a, rfl⟩ := h
  refine ⟨rfl, rfl, rfl, fun b hb => ?_⟩
  cases b <;> simp_all [SameBlock]

/-- The blocks that the effect of a command may change. -/
def writes : Instr → List Block
  | .readNotice _ | .superviseSet _ _ => [.ports]
  | .clockSet _ _ | .frameSet _ _ | .kitchenClockAdvance => [.time]
  | .loadSet _ _ _ | .feedLimit _ _ | .shedLevel _ _ => [.loads, .alloc]
  | .mapFixed _ _ _ | .mapWindow _ _ _ _ _ _ | .mapDefault _ _ | .mapEnable _ _ _ => [.map, .loads, .alloc]
  | .feedConfig _ _ _ _ _ | .waitTimerExpiry => [.feed]
  | .zoneDefine _ _ | .zoneStop _ _ | .zoneClear _ _ => zoneMoveBlocks
  | .sensorConversion _ => .scan :: zoneMoveBlocks
  | .zoneSetpoint _ _ _ _ _ | .zoneStart _ _ | .zonePause _ _ | .zoneResume _ _ | .programRun _ _ | .programAdvance _ _
  | .programAbort _ _ | .cabinetSet _ _ _ _ _ _ | .recoverTimerLimit _ | .standbyTimerExpiry _ | .stepTimerExpiry _
  | .supervisionTimerExpiry _ => stockBlocks
  | .programStep _ _ _ _ _ _ _ | .programLoad _ _ _ _ => [.zones]
  | .lineConfig _ _ => [.lineSettings, .permit, .ports]
  | .rackLoad _ _ _ _ => [.wares, .racks]
  | .linePurge _ => [.wares, .racks, .paging, .ports]
  | .wareDefine _ _ _ | .wareReturn _ _ _ => [.wares]
  | .wareAdjust _ _ _ _ _ | .restockConfirm _ _ _ | .courseFire _ _ _ _ _ _ | .coursePlated _ _ _ | .courseClose _ _
  | .soakTimerExpiry _ => serviceBlocks
  | .rackOut => .racks :: serviceBlocks
  | .staffSet _ _ _ _ _ | .staffDuty _ _ _ | .pageSend _ _ _ _ _ _ | .pageDone _ _ | .pageLevels _ _ _ _ _ _ _
  | .pageTiming _ _ | .ackTimerExpiry _ => pagingBlocks
  | .sliceAdvance | .frameBoundary => [.time, .feed, .loads, .alloc, .zones, .permit] ++ pagingBlocks
  | .feedConversion _ => [.feed, .loads, .alloc, .permit] ++ pagingBlocks
  | .rinseEnter | .rinseExit => [.racks, .ports]
  | .offer | .reOffer | .cancel => [.paging, .link]
  | .transmitComplete | .garbledMessage _ | .receiveGap | .probeTimerExpiry => [.link]
  | .sent _ | .unreachable _ | .ack _ _ _ | .responseTimerExpiry => .link :: pagingBlocks
  | .alive => [.link, .ports]
  | _ => []

end Sys2Proof.Machine
end

section
/-! PROOF. What each command of the ports can answer, said once: it is refused with the state as it was, or taken with the
state that its rule gives. Every later fact about commands goes through these. -/

namespace Sys2Proof.Machine

@[simp] theorem refuse_state (why : Status) (s : State) : (refuse why s).state = s := rfl
@[simp] theorem accept_state (s : State) : (accept s).state = s := rfl
@[simp] theorem reply_state (d : List Byte) (s : State) : (reply d s).state = s := rfl
@[simp] theorem acceptClamped_state (m : Bool) (d : List Byte) (s : State) : (acceptClamped m d s).state = s := rfl

theorem eq_of_index? {n v : Nat} {i : Fin n} (h : index? n v = some i) : v = i.val := by
  unfold index? at h
  split at h <;> cases h
  rfl

section
variable {motive : Answer → Prop} {s : State} (refused : ∀ why, motive (refuse why s))
include refused

/-! ### Load points, the map, the frame and the feed -/

theorem loadSet_cases {load rating : Nat}
    (taken : ∀ n : LoadId, load = n.val → rating ≤ 400 →
      motive (accept (cutLoad n (s.setLoad n { s.loads.get n with rating := rating })))) :
    motive (loadSet load rating s) := by
  unfold loadSet
  split
  · exact refused _
  · next n hn =>
    split
    · exact refused _
    · next h => exact taken n (eq_of_index? hn) (Nat.not_lt.mp h)

theorem mapFixed_cases {entry cls : Nat} (taken : ∀ m, motive (accept (changeMap m s))) : motive (mapFixed entry cls s) := by
  unfold mapFixed
  split
  · exact taken _
  · exact refused _

theorem mapWindow_cases {w b k c v : Nat} (taken : ∀ m x, motive (acceptClamped x [] (changeMap m s))) :
    motive (mapWindow w b k c v s) := by
  unfold mapWindow
  split
  · exact taken _ _
  · exact refused _

theorem mapDefault_cases {cls : Nat} (taken : ∀ m, motive (accept (changeMap m s))) : motive (mapDefault cls s) := by
  unfold mapDefault
  split
  · exact taken _
  · exact refused _

theorem frameSet_cases {len : Nat}
    (taken : 1 ≤ len → len ≤ 10 → motive (accept { s with time := { s.time with slicePending := len } })) :
    motive (frameSet len s) := by
  unfold frameSet
  split
  · exact refused _
  · exact taken (by omega) (by omega)

theorem feedLimit_cases {v : Nat}
    (stored : v ≤ 9999 → s.alloc.limit ≤ v → motive (accept { s with alloc := { s.alloc with limitSetting := v } }))
    (lowered : v ≤ 9999 → v < s.alloc.limit →
      motive (accept (reverseWalk { s with alloc := { s.alloc with limitSetting := v, limit := v } }))) :
    motive (feedLimit v s) := by
  unfold feedLimit
  split
  · exact refused _
  dsimp only
  split
  · exact lowered (by omega) (by assumption)
  · exact stored (by omega) (by omega)

theorem shedLevel_cases {v : Nat}
    (stored : v ≤ 3 → v ≤ s.alloc.shed → motive (accept { s with alloc := { s.alloc with shedSetting := v } }))
    (raised : v ≤ 3 → s.alloc.shed < v →
      motive (accept (allLoads.foldl (shedLoad s.alloc.shed v)
        { s with alloc := { s.alloc with shedSetting := v, shed := v } }))) :
    motive (shedLevel v s) := by
  unfold shedLevel
  split
  · exact refused _
  dsimp only
  split
  · exact raised (by omega) (by assumption)
  · exact stored (by omega) (by omega)

theorem feedConfig_cases {a b c d : Nat}
    (taken : motive (accept { s with feed := { s.feed with
      sagThreshold := a, restoreThreshold := b, debounce := c, restoreWait := d, sagCount := 0, restoreCount := 0 } })) :
    motive (feedConfig a b c d s) := by
  unfold feedConfig
  split
  · exact refused _
  · exact taken

/-! ### Zones and programs -/

theorem withZone_cases {p : PortId} {zone : Nat} {body : ZoneId → Zone → Answer}
    (taken : ∀ z r, zone = z.val → s.zones.get z = some r → s.roleOf p = r.kind.commandedBy → motive (body z r)) :
    motive (withZone p zone s body) := by
  unfold withZone
  split
  · exact refused _
  · next z hz =>
    split
    · exact refused _
    · next r hr =>
      split
      · next right => exact taken z r (eq_of_index? hz) hr right
      · exact refused _

theorem withOven_cases {p : PortId} {zone : Nat} {body : ZoneId → Zone → Program → Answer}
    (taken : ∀ z r g, s.zones.get z = some r → r.kind = .oven → r.program = some g → motive (body z r g)) :
    motive (withOven p zone s body) := by
  refine withZone_cases refused fun z r _ hr _ => ?_
  split
  · exact refused _
  · next h =>
    split
    · next g hg => exact taken z r g hr (not_not.mp h) hg
    · exact refused _

theorem zoneDefine_cases {p : PortId} {v : ZoneSettings}
    (taken : ∀ (n : ZoneId) (kind : ZoneKind) (channel : ChannelId) (loads : List LoadId) (group : PageGroup) (x : Bool),
      loadList? v.loads = some loads → v.level ≤ 3 → v.soakTime ≤ 600 → defineConflict s n kind loads = none →
      motive (acceptClamped x [] (enterOff n id
        (rebind n loads (s.setZone n (definedZone p v kind channel loads group (s.zones.get n))))))) :
    motive (zoneDefine p v s) := by
  unfold zoneDefine
  split
  · next n kind hn hk =>
    split
    · exact refused _
    split
    · next channel loads group hc hl hg =>
      split
      · exact refused _
      split
      · exact refused _
      · next h _ free => exact taken n kind channel loads group _ hl (by omega) (by omega) free
    · exact refused _
  · exact refused _

theorem zoneSetpoint_cases {p : PortId} {zone a b c : Nat}
    (taken : ∀ (z : ZoneId) (r : Zone) (x : Bool), s.zones.get z = some r →
      let r' := { r with
        fallback := r.kind.clampSetpoint b
        standby := if r.kind = ZoneKind.warmer then some (ZoneKind.clampSetpoint .warmer c) else none }
      motive (acceptClamped x [] (changeSetpoint z (r.kind.clampSetpoint a)
        (s.setZone z (r'.setActive (r'.setpointFor r'.state)))))) :
    motive (zoneSetpoint p zone a b c s) :=
  withZone_cases refused fun z r _ hr _ => taken z r _ hr

theorem zoneStart_cases {p : PortId} {zone : Nat}
    (taken : ∀ z r, s.zones.get z = some r → r.state = .off → motive (accept (enterQuietly z .preheat s))) :
    motive (zoneStart p zone s) := by
  refine withZone_cases refused fun z r _ hr _ => ?_
  split
  · next off => exact taken z r hr off
  · exact refused _

theorem zoneResume_cases {p : PortId} {zone : Nat}
    (taken : ∀ z r, s.zones.get z = some r → r.state = .paused → motive (accept (enterQuietly z .preheat s))) :
    motive (zoneResume p zone s) := by
  refine withZone_cases refused fun z r _ hr _ => ?_
  split
  · next paused => exact taken z r hr paused
  · exact refused _

theorem zoneStop_cases {p : PortId} {zone : Nat} (left : motive (accept s))
    (taken : ∀ z r, s.zones.get z = some r → r.state ≠ .off → r.state ≠ .fault → motive (accept (enterOff z id s))) :
    motive (zoneStop p zone s) := by
  refine withZone_cases refused fun z r _ hr _ => ?_
  split
  · exact refused _
  · exact left
  all_goals next h => exact taken z r hr (by simp [h]) (by simp [h])

theorem zonePause_cases {p : PortId} {zone : Nat} (left : motive (accept s))
    (taken : ∀ z r, s.zones.get z = some r → r.state.heating = true → motive (accept (enterPaused z s))) :
    motive (zonePause p zone s) := by
  refine withZone_cases refused fun z r _ hr _ => ?_
  split
  · exact refused _
  · exact refused _
  · exact left
  all_goals next h => exact taken z r hr (by simp [h, ZoneState.heating])

theorem zoneClear_cases {p : PortId} {zone : Nat}
    (taken : ∀ z r, s.zones.get z = some r → zone = z.val → r.state = .fault → r.cleanCount = 3 →
      motive (accept (enterOff z (clearEvent r.faultCause.raised z.val) s))) :
    motive (zoneClear p zone s) := by
  refine withZone_cases refused fun z r hz hr _ => ?_
  split
  · next h => exact taken z r hr hz h.1 h.2
  · exact refused _

theorem programStep_cases {p : PortId} {zone slot a b c d : Nat}
    (taken : ∀ z r g i act x, s.zones.get z = some r → r.kind = .oven → r.program = some g →
      motive (acceptClamped x [] (s.setZone z { r with program := some { g with draft := g.draft.set i (some
        { setpoint := ZoneKind.clampSetpoint .oven a, soakTime := b, duration := c, action := act }) } }))) :
    motive (programStep p zone slot a b c d s) := by
  refine withOven_cases refused fun z r g hr hk hg => ?_
  split
  · split
    · exact refused _
    · exact taken z r g _ _ _ hr hk hg
  · exact refused _

theorem programLoad_cases {p : PortId} {zone count hold : Nat}
    (taken : ∀ z r g steps x, s.zones.get z = some r → r.kind = .oven → r.program = some g → count ≤ 8 →
      g.draftSteps? count = some steps →
      motive (acceptClamped x [] (s.setZone z { r with program := some { g with
        state := .loaded, steps := steps, hold := ZoneKind.clampSetpoint .oven hold, current := 0, timer := 0
        lastRun := 0 } }))) :
    motive (programLoad p zone count hold s) := by
  refine withOven_cases refused fun z r g hr hk hg => ?_
  split
  · exact refused _
  split
  · exact refused _
  split
  · exact refused _
  · next h _ _ steps hs => exact taken z r g steps _ hr hk hg (by omega) hs

theorem programRun_cases {p : PortId} {zone : Nat}
    (taken : ∀ z r g, s.zones.get z = some r → r.kind = .oven → r.program = some g → r.state = .off →
      motive (accept (enterQuietly z .preheat (applyStep z 1 s)))) :
    motive (programRun p zone s) := by
  refine withOven_cases refused fun z r g hr hk hg => ?_
  split
  · exact refused _
  · next h =>
    split
    all_goals first | exact refused _ | exact taken z r g hr hk hg (not_not.mp h)

theorem programAdvance_cases {p : PortId} {zone : Nat}
    (next : ∀ z r g, s.zones.get z = some r → r.kind = .oven → r.program = some g →
      motive (accept (clearEvent .stepHold z.val (applyStep z (g.current + 1) s))))
    (last : ∀ z r g, s.zones.get z = some r → r.kind = .oven → r.program = some g →
      motive (accept (clearEvent .stepHold z.val (finishProgram z s)))) :
    motive (programAdvance p zone s) := by
  refine withOven_cases refused fun z r g hr hk hg => ?_
  split
  · exact refused _
  split
  · exact next z r g hr hk hg
  · exact last z r g hr hk hg

theorem programAbort_cases {p : PortId} {zone : Nat} (left : motive (accept s))
    (taken : ∀ z r g, s.zones.get z = some r → r.kind = .oven → r.program = some g →
      motive (accept (abortProgram z s))) :
    motive (programAbort p zone s) := by
  refine withOven_cases refused fun z r g hr hk hg => ?_
  split
  all_goals first | exact taken z r g hr hk hg | exact left | exact refused _

/-! ### The dish line, wares and cabinets -/

theorem lineConfig_cases {l : LineSettings}
    (taken : ∀ (w b : ZoneId) (pe px po : Polarity) (g : PageGroup), s.line.racks = [] →
      motive (accept (testPermit { s with line := { s.line with
        configured := true, wash := some w, booster := some b, washThreshold := l.washThreshold,
        rinseThreshold := l.rinseThreshold, enterPolarity := pe, exitPolarity := px, outPolarity := po, group := g } }))) :
    motive (lineConfig l s) := by
  unfold lineConfig
  split
  · split
    · exact refused _
    split
    · exact refused _
    split
    · exact refused _
    split
    · exact refused _
    · next h => exact taken _ _ _ _ _ _ (not_not.mp h)
  · exact refused _

theorem rackLoad_cases {tag kind count : Nat}
    (taken : ∀ (k : WareId) (x : Bool), 1 ≤ count → (s.wares.get k).defined = true →
      s.line.racks.length < 12 → (∀ r ∈ s.line.racks, r.tag ≠ tag) → (s.wares.get k).soiled ≠ 0 →
      let w := s.wares.get k
      motive (acceptClamped x [] { s.setWare k { w with soiled := w.soiled - min count w.soiled } with
        line := { s.line with racks := s.line.racks ++ [{
          tag := tag, kind := k, count := min count w.soiled, stage := .wash
          washMin := startMinimum s s.line.wash .washTank, rinseMin := none, verdict := .pending
          entered := s.time.clock }] } })) :
    motive (rackLoad tag kind count s) := by
  unfold rackLoad
  split
  · exact refused _
  · next k _ =>
    split
    · exact refused _
    split
    · exact refused _
    split
    · exact refused _
    split
    · exact refused _
    split
    · exact refused _
    split
    · exact refused _
    · next range _ defined room fresh soiled =>
      refine taken k _ (by omega) (by simpa using defined) (by simpa [rackCapacity] using room) ?_ soiled
      simpa using fresh

theorem wareDefine_cases {kind stock : Nat}
    (taken : ∀ k : WareId, kind = k.val → stock ≤ 9999 → (s.wares.get k).defined = false →
      motive (accept (s.setWare k { defined := true, total := stock, soiled := 0, clean := stock, out := 0 }))) :
    motive (wareDefine kind stock s) := by
  unfold wareDefine
  split
  · exact refused _
  · next k hk =>
    split
    · exact refused _
    split
    · exact refused _
    · next h undefined => exact taken k (eq_of_index? hk) (by simpa [wareLimit] using h) (by simpa using undefined)

theorem wareAdjust_cases {kind code zone : Nat} {amount : Int} (left : motive (reply (bigEndian 2 0) s))
    (bought : ∀ (k : WareId) (l : Location), kind = k.val → location? code zone = some l → 0 < amount →
      takesPurchase l = true → (s.wares.get k).defined = true →
      motive (reply (bigEndian 2 amount.natAbs) (purchase k amount.natAbs s l)))
    (removed : ∀ (k : WareId) (l : Location) (x : Bool), kind = k.val → location? code zone = some l → amount < 0 →
      (s.wares.get k).defined = true → holdsKind s k l = true → let m := min amount.natAbs (canGive s k l)
      motive (acceptClamped x (bigEndian 2 m) (removal k m s l))) :
    motive (wareAdjust kind code zone amount s) := by
  unfold wareAdjust
  split
  · next k l hk hl =>
    split
    · exact refused _
    split
    · exact refused _
    split
    · exact refused _
    split
    · exact left
    dsimp only
    split
    · next defined _ _ positive =>
      split
      · exact refused _
      · next open_ =>
        rw [not_or] at open_
        exact bought k l (eq_of_index? hk) hl positive (by simpa using open_.1) (by simpa using defined)
    split
    · exact refused _
    · next defined holds nonzero notPositive _ =>
      exact removed k l _ (eq_of_index? hk) hl (by omega) (by simpa using defined) (by simpa using holds)
  · exact refused _

theorem wareReturn_cases {kind number : Nat}
    (taken : ∀ (k : WareId) (x : Bool), (s.wares.get k).defined = true → let w := s.wares.get k
      motive (acceptClamped x (bigEndian 2 (min number w.out))
        (s.setWare k { w with out := w.out - min number w.out, soiled := w.soiled + min number w.out }))) :
    motive (wareReturn kind number s) := by
  unfold wareReturn
  split
  · exact refused _
  · next k _ =>
    dsimp only
    split
    · exact refused _
    split
    · exact refused _
    split
    · exact refused _
    · next defined _ => exact taken k _ (by simpa using defined)

theorem cabinetSet_cases {p : PortId} {zone kind capacity low high : Nat} (left : motive (accept s))
    (taken : ∀ (z : ZoneId) (c : Cabinet) (k : WareId), s.cabinet? z = some c → (c.stock ≠ 0 → c.kind = some k) →
      c.stock ≤ capacity →
      let t := s.setCabinet z { c with kind := some k, capacity := capacity, low := low, high := high }
      motive (accept (testRestock z (report z false (closeTask z .withdrawn t))))) :
    motive (cabinetSet p zone kind capacity low high s) := by
  unfold cabinetSet
  split
  · exact refused _
  · next k _ =>
    split
    · exact refused _
    refine withZone_cases refused fun z r _ hr _ => ?_
    split
    · exact refused _
    · next c hc =>
      split
      · exact refused _
      split
      · exact refused _
      split
      · exact refused _
      split
      · exact refused _
      split
      · exact left
      · next same fits _ =>
        exact taken z c k hc (fun h => not_not.mp fun hk => same ⟨h, hk⟩) (by omega)

theorem restockConfirm_cases {zone number : Nat}
    (taken : ∀ (z : ZoneId) (c : Cabinet) (k : WareId) (x : Bool), s.cabinet? z = some c → c.kind = some k →
      let m := restockMove number (s.wares.get k) c
      motive (acceptClamped x (bigEndian 2 m) (confirmRestock z k c m s))) :
    motive (restockConfirm zone number s) := by
  unfold restockConfirm
  split
  · exact refused _
  · next z _ =>
    split
    · exact refused _
    split
    · exact refused _
    split
    · exact refused _
    · next c hc =>
      split
      · exact refused _
      · next k hk =>
        dsimp only
        split
        · exact refused _
        · exact taken z c k _ hc hk

/-! ### Courses, staff and pages -/

theorem courseFire_cases {room kind covers group : Nat} {cabinets : List Nat}
    (taken : ∀ (k : WareId) (g : PageGroup) (cs : List ZoneId) (c : CourseId), cabinetList? cabinets = some cs →
      1 ≤ covers → freeSlot s = some c →
      let t := runPass c none true (seatCourse c
        { short := false, room := room, kind := k, covers := covers, plated := 0, group := g, cabinets := cs,
          entries := [], fired := s.time.clock } s)
      motive (reply (fireData c t) t)) :
    motive (courseFire room kind covers group cabinets s) := by
  unfold courseFire
  split
  · next k g cs _ _ hcs =>
    split
    · exact refused _
    split
    · exact refused _
    split
    · exact refused _
    · next h _ _ c hc => exact taken k g cs c hcs (by omega) hc
  · exact refused _

theorem coursePlated_cases {course number : Nat}
    (taken : ∀ (c : CourseId) (r : Course) (x : Bool), s.course? c = some r →
      let n := min number r.totalReserved
      let t := changeCourse c (fun q => { q with plated := r.plated + n }) (platePlates c n s)
      motive (acceptClamped x (bigEndian 2 n ++ bigEndian 2 (r.plated + n))
        (if r.plated + n = r.covers then freeCourse c (post .courseState c.val 3 t) else t))) :
    motive (coursePlated course number s) := by
  unfold coursePlated
  split
  · exact refused _
  · next c _ =>
    split
    · exact refused _
    split
    · exact refused _
    · next r hr =>
      split
      · exact refused _
      · exact taken c r _ hr

theorem courseClose_cases {course : Nat}
    (taken : ∀ (c : CourseId) (r : Course), s.course? c = some r →
      motive (reply (bigEndian 2 r.totalReserved ++ bigEndian 2 r.plated) (closeCourse c r s))) :
    motive (courseClose course s) := by
  unfold courseClose
  split
  · exact refused _
  split
  · exact refused _
  · next c _ _ r hr => exact taken c r hr

theorem staffSet_cases {entry address role group : Nat}
    (taken : ∀ e r g, (s.staff e).duty = .offDuty →
      motive (accept (s.setStaff e { s.staff e with address := address, role := r, group := g }))) :
    motive (staffSet entry address role group s) := by
  unfold staffSet
  split
  · next e r g _ _ _ =>
    split
    · exact refused _
    split
    · exact refused _
    · next h => exact taken e r g (not_not.mp h)
  · exact refused _

theorem staffDuty_cases {entry setting : Nat} (left : motive (accept s))
    (on : ∀ e, (s.staff e).address ≠ 0 → (s.staff e).duty = .offDuty → motive (accept (becomeFree e s)))
    (off : ∀ e, (s.staff e).duty ≠ .offDuty → motive (accept (goOffDuty e s))) :
    motive (staffDuty entry setting s) := by
  unfold staffDuty
  split
  · next e _ =>
    split
    · exact refused _
    · next used =>
      split
      all_goals first
        | exact left
        | next h => exact on e used h
        | next h => exact off e (by simp [h])
  · exact refused _

theorem pageSend_cases {role group closure code object : Nat}
    (taken : ∀ r g c, s.desk.pages.length < 32 →
      motive (reply (bigEndian 1 (freePageId s.desk).val) (addPage 5 code object r g c s))) :
    motive (pageSend role group closure code object s) := by
  unfold pageSend
  split
  · split
    · exact refused _
    split
    · exact refused _
    · next h => exact taken _ _ _ (by simpa [pageCapacity] using h)
  · exact refused _

theorem pageDone_cases {page : Nat}
    (taken : ∀ (i : PageId) (p : Page), s.page? i = some p → motive (accept (retirePage p .done s))) :
    motive (pageDone page s) := by
  unfold pageDone
  split
  · exact refused _
  · next p hp =>
    obtain ⟨i, -, hi⟩ := Option.bind_eq_some_iff.mp hp
    split
    · exact refused _
    · exact taken i p hi
    · exact taken i p hi

theorem pageLevels_cases {a b c d e f : Nat}
    (taken : ∀ l, motive (accept { s with desk := { s.desk with levels := l } })) :
    motive (pageLevels a b c d e f s) := by
  unfold pageLevels
  split
  · exact refused _
  · exact taken _

theorem pageTiming_cases {n : Nat}
    (taken : motive (accept { s with desk := { s.desk with ackSetting := n } })) : motive (pageTiming n s) := by
  unfold pageTiming
  split
  · exact refused _
  · exact taken

/-! ### The ports and the clock -/

theorem readNotice_cases {p : PortId}
    (taken : ∀ n rest, (s.ports.get p).notices = n :: rest →
      motive { status := .ok, noticeOverflow := (s.ports.get p).overflow, data := noticeBytes n ++ bigEndian 1 rest.length,
               state := s.setPort p { s.ports.get p with notices := rest, overflow := false } }) :
    motive (readNotice p s) := by
  unfold readNotice
  dsimp only
  split
  · exact refused _
  · next n rest h => exact taken n rest h

theorem clockSet_cases {v : Nat}
    (taken : v ≤ 86399 → motive (accept { s with time := { s.time with clock := v, clockTicks := 0 } })) :
    motive (clockSet v s) := by
  unfold clockSet
  split
  · exact refused _
  · next h => exact taken (by simpa [lastSecond] using h)

theorem superviseSet_cases {p : PortId} {v : Nat}
    (taken : motive (accept (s.setPort p { s.ports.get p with interval := v, timer := fullInterval v }))) :
    motive (superviseSet p v s) := by
  unfold superviseSet
  split
  · exact refused _
  · exact taken

end

/-! ### Queries -/

section
variable {motive : Answer → Prop} {s : State} (refused : ∀ why, motive (refuse why s))
  (told : ∀ d, motive (reply d s))
include refused told

theorem loadQuery_cases {n : Nat} : motive (loadQuery n s) := by
  unfold loadQuery
  split
  · exact refused _
  · exact told _

theorem mapQuery_cases {n : Nat} : motive (mapQuery n s) := by
  unfold mapQuery
  split
  · exact refused _
  · exact told _

theorem sensorQuery_cases {n : Nat} : motive (sensorQuery n s) := by
  unfold sensorQuery
  split
  · exact refused _
  · exact told _

theorem zoneQuery_cases {n : Nat} : motive (zoneQuery n s) := by
  unfold zoneQuery
  split
  · exact refused _
  split
  · exact told _
  · exact told _

theorem programQuery_cases {p : PortId} {n : Nat} : motive (programQuery p n s) := by
  refine withZone_cases refused fun z r _ _ _ => ?_
  split
  · exact told _
  · exact told _

theorem rackQuery_cases {n : Nat} : motive (rackQuery n s) := by
  unfold rackQuery
  split
  · exact refused _
  split
  · exact told _
  · exact refused _

theorem wareQuery_cases {n : Nat} : motive (wareQuery n s) := by
  unfold wareQuery
  split
  · exact refused _
  · exact told _

theorem cabinetQuery_cases {n : Nat} : motive (cabinetQuery n s) := by
  unfold cabinetQuery
  split
  · exact refused _
  split
  · exact refused _
  split
  · exact told _
  · exact told _

theorem courseQuery_cases {n : Nat} : motive (courseQuery n s) := by
  unfold courseQuery
  split
  · exact refused _
  split
  · exact told _
  · exact told _

theorem staffQuery_cases {n : Nat} : motive (staffQuery n s) := by
  unfold staffQuery
  split
  · exact refused _
  · exact told _

theorem pageQuery_cases {n : Nat} : motive (pageQuery n s) := by
  unfold pageQuery
  split
  · exact refused _
  split
  · exact refused _
  · exact told _

end

end Sys2Proof.Machine
end

section
/-! PROOF. The blocks that each command's effect can change, from the inversions of the commands and the frame lemmas of the
shared operations. -/

namespace Sys2Proof.Machine

/-! ### Blocks written by an update -/

section
variable (s : State)

theorem within_time (v : TimeBase) : Within [.time] s { s with time := v } :=
  ⟨rfl, rfl, rfl, fun b hb => by cases b <;> simp_all [SameBlock]⟩
theorem within_map (v : ClassMap) : Within [.map] s { s with map := v } :=
  ⟨rfl, rfl, rfl, fun b hb => by cases b <;> simp_all [SameBlock]⟩
theorem within_alloc (v : Allocator) : Within [.alloc] s { s with alloc := v } :=
  ⟨rfl, rfl, rfl, fun b hb => by cases b <;> simp_all [SameBlock]⟩
theorem within_feed (v : Feed) : Within [.feed] s { s with feed := v } :=
  ⟨rfl, rfl, rfl, fun b hb => by cases b <;> simp_all [SameBlock]⟩
theorem within_scan (v : Scanner) : Within [.scan] s { s with scan := v } :=
  ⟨rfl, rfl, rfl, fun b hb => by cases b <;> simp_all [SameBlock]⟩
theorem within_zones (v : Table 32 (Option Zone)) : Within [.zones] s { s with zones := v } :=
  ⟨rfl, rfl, rfl, fun b hb => by cases b <;> simp_all [SameBlock]⟩
theorem within_loads (v : Table 48 LoadPoint) : Within [.loads] s { s with loads := v } :=
  ⟨rfl, rfl, rfl, fun b hb => by cases b <;> simp_all [SameBlock]⟩
theorem within_wares (v : Table 8 Ware) : Within [.wares] s { s with wares := v } :=
  ⟨rfl, rfl, rfl, fun b hb => by cases b <;> simp_all [SameBlock]⟩
theorem within_link (v : Link) : Within [.link] s { s with link := v } :=
  ⟨rfl, rfl, rfl, fun b hb => by cases b <;> simp_all [SameBlock]⟩
theorem within_ports (v : Table 4 Port) : Within [.ports] s { s with ports := v } :=
  ⟨rfl, rfl, rfl, fun b hb => by cases b <;> simp_all [SameBlock]⟩
theorem within_racks (v : List Rack) : Within [.racks] s { s with line := { s.line with racks := v } } :=
  ⟨rfl, rfl, rfl, fun b hb => by cases b <;> simp_all [SameBlock, DishLine.settings]⟩
theorem within_paging (d : PageDesk) (r : Roster) : Within [.paging] s { s with desk := d, roster := r } :=
  ⟨rfl, rfl, rfl, fun b hb => by cases b <;> simp_all [SameBlock]⟩

/-- The line's counter and held levels are in no block. -/
theorem within_line {l : DishLine} (permit : l.permit = s.line.permit) (racks : l.racks = s.line.racks)
    (settings : l.settings = s.line.settings) : Within [] s { s with line := l } :=
  ⟨rfl, rfl, rfl, fun b _ => by cases b <;> simp_all [SameBlock]⟩

end

theorem post_within (k : NoticeKind) (o v : Nat) (s : State) : Within [.ports] s (post k o v s) := within_ports s _

theorem testPermit_within (s : State) : Within [.permit, .ports] s (testPermit s) := by
  unfold testPermit
  split
  · exact Within.refl _ s
  · refine Within.trans (t := { s with line := { s.line with permit := permitCondition s } }) ?_
      ((post_within _ _ _ _).mono (by simp))
    exact ⟨rfl, rfl, rfl, fun b hb => by cases b <;> simp_all [SameBlock, DishLine.settings]⟩

/-! ### Load points, the frame and the feed -/

theorem changeMap_within (m : ClassMap) (s : State) : Within [.map, .loads, .alloc] s (changeMap m s) :=
  ((within_map s m).mono (by simp)).trans
    ((foldl_related PlacementOnly.refl PlacementOnly.trans _ (fun s n => resolveLoad_touches n s) allLoads _).within.mono
      (by simp))

theorem shedLoad_touches (old new : Nat) (s : State) (n : LoadId) : PlacementOnly s (shedLoad old new s n) := by
  unfold shedLoad
  dsimp only
  split
  · exact cutLoad_touches n s
  · exact PlacementOnly.refl s

theorem enterFeedState_within {st : FeedState} {f : State → State} (hf : ∀ s, Within pagingBlocks s (f s)) (s : State) :
    Within ([.feed, .permit] ++ pagingBlocks) s (enterFeedState st f s) :=
  ((((within_feed s _).mono (by simp)).trans ((testPermit_within _).mono (by simp))).trans ((hf _).mono (by simp))).trans
    ((post_within _ _ _ _).mono (by simp))

theorem stagedMove_within (s : State) : Within ([.feed, .permit] ++ pagingBlocks) s (stagedMove s) := by
  unfold stagedMove
  split
  · split
    · exact ((within_feed s _).mono (by simp)).trans (enterFeedState_within (fun s => Within.refl _ s) _)
    · exact Within.refl _ s
  · exact enterFeedState_within (fun s => Within.refl _ s) _
  · exact enterFeedState_within (fun s => (clearEvent_touches _ _ s).within) _
  all_goals exact Within.refl _ s

theorem enterSag_within (s : State) : Within ([.feed, .loads, .alloc, .permit] ++ pagingBlocks) s (enterSag s) :=
  (((((within_feed s _).mono (by simp)).trans ((discardFrame_touches _).within.mono (by simp))).trans
    ((testPermit_within _).mono (by simp))).trans ((raise_touches _ _ _ _).within.mono (by simp))).trans
    ((post_within _ _ _ _).mono (by simp))

theorem enterRestoreWait_within (s : State) : Within ([.feed, .permit] ++ pagingBlocks) s (enterRestoreWait s) :=
  ((within_feed s _).mono (by simp)).trans (enterFeedState_within (fun s => Within.refl _ s) _)

theorem feedConversion_within (code : BitVec 12) (s : State) :
    Within ([.feed, .loads, .alloc, .permit] ++ pagingBlocks) s (feedConversion code s) := by
  have stored : ∀ (s : State) (f : Feed), Within ([.feed, .loads, .alloc, .permit] ++ pagingBlocks) s { s with feed := f } :=
    fun s f => (within_feed s f).mono (by simp)
  refine (stored s { s.feed with code := code, reading := feedPercent code }).trans ?_
  unfold feedConversion testFeed
  split
  · split
    · dsimp only
      split
      · exact (stored _ _).trans ((enterRestoreWait_within _).mono (by simp))
      · exact stored _ _
    · exact stored _ _
  · split
    · dsimp only
      split
      · exact (stored _ _).trans (enterSag_within _)
      · exact stored _ _
    · exact stored _ _

theorem placeLoad_touches (acc : State × Fin 100) (n : LoadId) : PlacementOnly acc.1 (placeLoad acc n).1 := ⟨_, _, rfl⟩

theorem placeLoads_touches (ns : List LoadId) (acc : State × Fin 100) :
    PlacementOnly acc.1 (ns.foldl placeLoad acc).1 := by
  induction ns generalizing acc with
  | nil => exact PlacementOnly.refl _
  | cons n ns ih => exact (placeLoad_touches acc n).trans (ih _)

theorem buildFrame_touches (s : State) : PlacementOnly s (buildFrame s) := by
  obtain ⟨lo, a, h⟩ := placeLoads_touches (grantOrder s) (s, 0)
  simp only [buildFrame, h]
  exact ⟨_, _, rfl⟩

theorem postClipped_within (s : State) (n : LoadId) : Within [.ports] s (postClipped s n) := by
  unfold postClipped
  dsimp only
  split
  · exact post_within _ _ _ _
  · exact Within.refl _ s

/-- A relation to the state before that each step of a fold keeps. -/
theorem foldl_within {α : Type} {bs : List Block} (f : State → α → State) (h : ∀ s a, Within bs s (f s a)) (l : List α)
    (s : State) : Within bs s (l.foldl f s) :=
  foldl_related (Within.refl bs) Within.trans f h l s

theorem frameBoundary_within (s : State) :
    Within ([.time, .feed, .loads, .alloc, .zones, .permit] ++ pagingBlocks) s (frameBoundary s) := by
  have counted := (within_time s (newFrameTime s.time)).trans (Within.refl _ _)
  have moved := stagedMove_within { s with time := newFrameTime s.time }
  have requested := within_zones (stagedMove { s with time := newFrameTime s.time })
    (computeRequests (stagedMove { s with time := newFrameTime s.time })).zones
  have taken := fun u : State => ((within_loads u (u.loads.map (takeLoadInputs u))).mono (by simp)).trans
    ((within_alloc _ (takeInputs u).alloc).mono (by simp) : Within [.loads, .alloc] _ (takeInputs u))
  unfold frameBoundary
  exact ((((counted.mono (by simp)).trans (moved.mono (by simp))).trans (requested.mono (by simp))).trans
    (((taken _).mono (by simp)).trans ((buildFrame_touches _).within.mono (by simp)))).trans
      ((foldl_within _ postClipped_within _ _).mono (by simp))

theorem sliceAdvance_within (s : State) :
    Within ([.time, .feed, .loads, .alloc, .zones, .permit] ++ pagingBlocks) s (sliceAdvance s) := by
  unfold sliceAdvance
  split
  · exact (within_time s _).mono (by simp)
  · exact frameBoundary_within s

/-! ### Zones, programs and the line -/

theorem rebind_within (z : ZoneId) (loads : List LoadId) (s : State) : Within [.loads] s (rebind z loads s) :=
  within_loads s _

theorem followReading_touches (z : ZoneId) (r : Zone) (v : Nat) (s : State) : ServiceOnly s (followReading z r v s) := by
  unfold followReading
  split
  · split
    · split
      · exact enterReady_touches _ _
      · exact (enterQuietly_touches _ _ _).service
    · exact ServiceOnly.refl s
  · split
    · exact ServiceOnly.refl s
    · exact (enterQuietly_touches _ _ _).service
  · split
    · exact ServiceOnly.refl s
    · exact (enterQuietly_touches _ _ _).service
  · split
    · exact enterReady_touches _ _
    · exact ServiceOnly.refl s
  all_goals exact ServiceOnly.refl s

theorem takeReading_touches (z : ZoneId) (r : Zone) (v : Nat) (s : State) : ZoneMoveOnly s (takeReading z r v s) := by
  unfold takeReading
  split
  · exact enterFault_touches _ _ _
  split
  · exact ZoneMoveOnly.refl s
  dsimp only
  split
  · exact (setZone_touches _ _ _).service.zoneMove.trans (enterFault_touches _ _ _)
  · exact (setZone_touches _ _ _).service.zoneMove.trans (followReading_touches _ _ _ _).zoneMove

theorem handZone_touches (c : ChannelId) (v : Option Nat) (failed : Bool) (s : State) (z : ZoneId) :
    ZoneMoveOnly s (handZone c v failed s z) := by
  unfold handZone
  split
  · split
    · exact ZoneMoveOnly.refl s
    split
    · exact (setZone_touches _ _ _).service.zoneMove
    split
    · exact takeReading_touches _ _ _ _
    split
    · exact enterFault_touches _ _ _
    · exact ZoneMoveOnly.refl s
  · exact ZoneMoveOnly.refl s

theorem changeRacks_touches (st : Stage) (f : Rack → Rack) (s : State) : ZoneMoveOnly s (changeRacks st f s) :=
  ZoneMoveOnly.of_racks s _

theorem ZoneMoveOnly.ite {c : Prop} [Decidable c] {s t : State} (h : ZoneMoveOnly s t) :
    ZoneMoveOnly s (if c then t else s) := by
  split
  · exact h
  · exact ZoneMoveOnly.refl s

theorem lowerMinimums_touches (c : ChannelId) (v : Nat) (s : State) : ZoneMoveOnly s (lowerMinimums c v s) :=
  (ZoneMoveOnly.ite (changeRacks_touches _ _ s)).trans (ZoneMoveOnly.ite (changeRacks_touches _ _ _))

/-- The scan apart, a conversion is an affair of the zones and the line. -/
theorem sensorConversion_touches (code : BitVec 12) (s : State) :
    ∃ scan, ZoneMoveOnly { s with scan := scan } (sensorConversion code s) := by
  have handed := fun c v failed (s : State) =>
    foldl_related ZoneMoveOnly.refl ZoneMoveOnly.trans _ (handZone_touches c v failed) allZones s
  unfold sensorConversion
  dsimp only
  split
  · exact ⟨_, (handed _ _ _ _).trans (lowerMinimums_touches _ _ _)⟩
  · exact ⟨_, handed _ _ _ _⟩

theorem soakExpiry_touches (z : ZoneId) (s : State) : ServiceOnly s (soakExpiry z s) := by
  unfold soakExpiry
  split
  · split
    · exact enterReady_touches _ _
    · exact ServiceOnly.refl s
  · exact ServiceOnly.refl s

theorem recoverLimitReached_touches (z : ZoneId) (s : State) : StockOnly s (recoverLimitReached z s) := by
  unfold recoverLimitReached
  split
  · split
    · exact (setZone_touches _ _ _).trans (raise_touches _ _ _ _).stock
    · exact StockOnly.refl s
  · exact StockOnly.refl s

theorem standbyExpiry_touches (z : ZoneId) (s : State) : StockOnly s (standbyExpiry z s) := by
  unfold standbyExpiry
  split
  · split
    · exact enterQuietly_touches _ _ _
    · exact StockOnly.refl s
  · exact StockOnly.refl s

theorem stepExpiry_touches (z : ZoneId) (s : State) : StockOnly s (stepExpiry z s) := by
  unfold stepExpiry
  split
  · split
    · split
      · exact StockOnly.refl s
      split
      · split
        · exact holdProgram_touches _ _
        · split
          · exact applyStep_touches _ _ _
          · exact finishProgram_touches _ _
        · split
          · exact (applyStep_touches _ _ _).trans (raise_touches _ _ _ _).stock
          · exact finishProgram_touches _ _
      · exact StockOnly.refl s
    · exact StockOnly.refl s
  · exact StockOnly.refl s

theorem condemn_within (r : Rack) (s : State) : Within ([.wares] ++ pagingBlocks) s (condemn r s) :=
  ((within_wares s _).mono (by simp)).trans ((raise_touches _ _ _ _).within.mono (by simp))

theorem dropHead_within (s : State) : Within [.racks] s (dropHead s) := within_racks s _

theorem lineFault_within (f : LineFault) (s : State) : Within [.ports] s (lineFault f s) :=
  ((within_line s (l := { s.line with faults := saturate 65535 s.line.faults }) rfl rfl rfl).mono (by simp)).trans
    (post_within _ _ _ _)

theorem seeTransition_within (l : EventLine) (s : State) : Within [] s (seeTransition l s) := by
  cases l <;> exact within_line s rfl rfl rfl

theorem enterRinse_within (s : State) : Within [.racks, .ports] s (enterRinse s) := by
  unfold enterRinse
  dsimp only
  split
  · exact (within_racks s _).mono (by simp)
  · exact (lineFault_within _ s).mono (by simp)

theorem leaveRinse_within (s : State) : Within [.racks, .ports] s (leaveRinse s) := by
  unfold leaveRinse
  split
  · exact ((within_racks s _).mono (by simp)).trans ((post_within _ _ _ _).mono (by simp))
  · exact (lineFault_within _ s).mono (by simp)

theorem unloadRack_within (s : State) : Within (.racks :: serviceBlocks) s (unloadRack s) := by
  unfold unloadRack
  split
  · exact (lineFault_within _ s).mono (by simp)
  dsimp only
  have dropped : Within (.racks :: serviceBlocks) s (dropHead s) := (dropHead_within s).mono (by simp)
  split
  · exact dropped.trans (((lineFault_within _ _).mono (by simp)).trans ((condemn_within _ _).mono (by simp)))
  · exact dropped.trans (((lineFault_within _ _).mono (by simp)).trans ((condemn_within _ _).mono (by simp)))
  · split
    · exact dropped.trans (((setWare_touches _ _ _).trans (wakeTasks_touches _ _).service).within.mono (by simp))
    · exact dropped.trans ((condemn_within _ _).mono (by simp))
    · exact dropped.trans ((condemn_within _ _).mono (by simp))

/-! ### Wares and courses -/

theorem purchase_touches (k : WareId) (n : Nat) (s : State) (l : Location) : ServiceOnly s (purchase k n s l) := by
  cases l
  · exact setWare_touches _ _ _
  · exact (setWare_touches _ _ _).trans (wakeTasks_touches _ _).service
  · exact ServiceOnly.refl s
  · exact ServiceOnly.refl s

theorem removal_touches (k : WareId) (n : Nat) (s : State) (l : Location) : ServiceOnly s (removal k n s l) := by
  cases l
  · exact setWare_touches _ _ _
  · exact setWare_touches _ _ _
  · exact setWare_touches _ _ _
  · unfold removal
    dsimp only
    split
    · exact (setWare_touches _ _ _).trans
        (((setCabinet_touches _ _ _).trans (report_touches _ _ _)).trans (testRestock_touches _ _)).service
    · exact ServiceOnly.refl s

theorem confirmRestock_touches (z : ZoneId) (k : WareId) (c : Cabinet) (m : Nat) (s : State) :
    ServiceOnly s (confirmRestock z k c m s) :=
  (setWare_touches _ _ _).trans ((((setCabinet_touches _ _ _).trans ((closeTask_touches _ _ _).trans
    (report_touches _ _ _))).service.trans (rerunCourses_touches _ _)).trans (testRestock_touches _ _).service)

theorem seatCourse_touches (c : CourseId) (r : Course) (s : State) : ServiceOnly s (seatCourse c r s) :=
  ServiceOnly.of_courses s _

theorem plateOne_touches (c : CourseId) (s : State) : ServiceOnly s (plateOne c s) := by
  unfold plateOne
  split
  · exact (changeCourse_touches _ _ _).trans (drawPlate_touches _ _)
  · exact ServiceOnly.refl s

theorem platePlates_touches (c : CourseId) (n : Nat) (s : State) : ServiceOnly s (platePlates c n s) := by
  induction n generalizing s with
  | zero => exact ServiceOnly.refl s
  | succ n ih => exact (plateOne_touches c s).trans (ih _)

theorem refill_touches (s : State) (z : ZoneId) : ServiceOnly s (refill s z) :=
  (rerunCourses_touches _ _).trans (testRestock_touches _ _).service

theorem closeCourse_touches (c : CourseId) (r : Course) (s : State) : ServiceOnly s (closeCourse c r s) := by
  unfold closeCourse
  dsimp only
  refine ServiceOnly.trans ?_ (foldl_related ServiceOnly.refl ServiceOnly.trans _ refill_touches _ _)
  refine ServiceOnly.trans ?_ (post_touches _ _ _ _).stock.service
  refine ServiceOnly.trans ?_ (freeCourse_touches _ _)
  have released := (foldl_related StockOnly.refl StockOnly.trans _
    (fun s (e : ZoneId × Nat) => releasePlates_touches e.1 e.2 s) r.entries s).service
  split
  · exact released.trans (clearEvent_touches _ _ _).stock.service
  · exact released

/-! ### Ports, paging and the link -/

theorem pauseOwned_touches (p : PortId) (s : State) (z : ZoneId) : StockOnly s (pauseOwned p s z) := by
  unfold pauseOwned
  split
  · split
    · exact enterPaused_touches _ _
    · exact StockOnly.refl s
  · exact StockOnly.refl s

theorem setPort_within (p : PortId) (v : Port) (s : State) : Within [.ports] s (s.setPort p v) := within_ports s _

theorem supervisionExpiry_within (p : PortId) (s : State) : Within stockBlocks s (supervisionExpiry p s) := by
  unfold supervisionExpiry
  split
  · have silenced := (setPort_within p { s.ports.get p with silent := true, timer := none } s).mono
      (cs := stockBlocks) (by simp)
    have paused := foldl_related StockOnly.refl StockOnly.trans _ (pauseOwned_touches p) allZones
      (s.setPort p { s.ports.get p with silent := true, timer := none })
    have told := fun u : State =>
      ((raise_touches .portSilent .any p.val u).trans (post_touches .portState p.val 0 _)).stock
    unfold enterSilent
    exact silenced.trans (paused.trans (told _)).within
  · exact Within.refl _ s

theorem ackTimerExpiry_touches (i : PageId) (s : State) : PagingOnly s (ackTimerExpiry i s) := by
  unfold ackTimerExpiry
  split
  · split
    · exact ackExpiry_touches _ _
    · exact PagingOnly.refl s
  · exact PagingOnly.refl s

theorem endMessage_within (s : State) : Within [.link] s (endMessage s) := within_link s _
theorem countStale_within (s : State) : Within [.link] s (countStale s) := within_link s _
theorem sendMessage_within (o : Outstanding) (f : List Byte) (s : State) : Within [.link] s (sendMessage o f s) :=
  within_link s _
theorem sendProbe_within (s : State) : Within [.link] s (sendProbe s) := within_link s _
theorem garble_within (s : State) : Within [.link] s (garble s) := within_link s _

theorem sentMessage_within (i : PageId) (s : State) : Within (.link :: pagingBlocks) s (sentMessage i s) := by
  have ended : Within (.link :: pagingBlocks) s (endMessage s) := (endMessage_within s).mono (by simp)
  have stale : Within (.link :: pagingBlocks) s (countStale s) := (countStale_within s).mono (by simp)
  unfold sentMessage
  dsimp only
  split
  · split
    · split
      · exact ended.trans ((updatePage_touches _ _ _).within.mono (by simp))
      · exact ended
    · exact stale
  · split
    · exact ended
    · exact stale
  all_goals exact stale

theorem unreachableMessage_within (i : PageId) (s : State) : Within (.link :: pagingBlocks) s (unreachableMessage i s) := by
  have ended : Within (.link :: pagingBlocks) s (endMessage s) := (endMessage_within s).mono (by simp)
  have stale : Within (.link :: pagingBlocks) s (countStale s) := (countStale_within s).mono (by simp)
  unfold unreachableMessage
  dsimp only
  split
  · split
    · split
      · exact ended.trans ((ackExpiry_touches _ _).within.mono (by simp))
      · exact ended
    · exact stale
  all_goals exact stale

theorem countLate_within (i : PageId) (a : Nat) (s : State) : Within [.link, .ports] s (countLate i a s) :=
  ((within_link s _).mono (by simp)).trans ((post_within _ _ _ _).mono (by simp))

theorem ackMessage_within (i : PageId) (a x : Nat) (s : State) : Within (.link :: pagingBlocks) s (ackMessage i a x s) := by
  unfold ackMessage
  split
  · split
    · split
      · exact (takeAnswer_touches _ _ _ _).within.mono (by simp)
      · exact (countLate_within _ _ _).mono (by simp)
    · exact (countLate_within _ _ _).mono (by simp)
  · exact (countStale_within _).mono (by simp)

theorem aliveMessage_within (s : State) : Within [.link, .ports] s (aliveMessage s) := by
  unfold aliveMessage
  split
  · exact (countStale_within _).mono (by simp)
  · exact ((within_link s _).mono (by simp)).trans ((post_within _ _ _ _).mono (by simp))

theorem timeOutMessage_within (o : Outstanding) (s : State) : Within pagingBlocks s (timeOutMessage o s) := by
  unfold timeOutMessage
  split
  · split
    · exact (withdrawPage_touches _ _).within
    · exact Within.refl _ s
  · split
    · exact (within_paging s _ s.roster).mono (by simp)
    · exact Within.refl _ s
  all_goals exact Within.refl _ s

theorem enterDown_within (s : State) : Within [.link, .ports] s (enterDown s) :=
  (((within_link s _).mono (by simp)).trans ((post_within _ _ _ _).mono (by simp))).trans
    ((sendProbe_within _).mono (by simp))

theorem responseExpiry_within (s : State) : Within (.link :: pagingBlocks) s (responseExpiry s) := by
  have linked : ∀ (s : State) (l : Link), Within (.link :: pagingBlocks) s { s with link := l } :=
    fun s l => (within_link s l).mono (by simp)
  unfold responseExpiry
  split
  · exact Within.refl _ s
  dsimp only
  split
  · have timed := (linked s { s.link with
      outstanding := .none, transmitting := [], responseTimer := none, timeouts := s.link.timeouts + 1 }).trans
        ((timeOutMessage_within s.link.outstanding _).mono (by simp))
    split
    · exact timed.trans ((enterDown_within _).mono (by simp))
    · exact timed
  · exact linked s _

theorem offerPage_within (p : Page) (e : EntryId) (s : State) : Within [.paging, .link] s (offerPage p e s) := by
  obtain ⟨d, r, l, h⟩ := offerPage_touches p e s
  rw [h]
  exact ((within_paging s d r).mono (by simp)).trans ((within_link _ l).mono (by simp))

theorem grantOffer_within (s : State) : Within [.paging, .link] s (grantOffer s) := by
  unfold grantOffer
  split
  · split
    · exact offerPage_within _ _ _
    · exact Within.refl _ s
  · exact Within.refl _ s

theorem grantReOffer_within (s : State) : Within [.paging, .link] s (grantReOffer s) := by
  have desked : ∀ (s : State) (d : PageDesk), Within [.paging, .link] s { s with desk := d } :=
    fun s d => (within_paging s d s.roster).mono (by simp)
  unfold grantReOffer
  split
  · split
    · dsimp only
      split
      · split
        · exact (desked s _).trans ((sendMessage_within _ _ _).mono (by simp))
        · exact desked s _
      · exact desked s _
    · exact Within.refl _ s
  · exact Within.refl _ s

theorem grantCancel_within (s : State) : Within [.paging, .link] s (grantCancel s) := by
  unfold grantCancel
  split
  · split
    · exact ((within_paging s _ s.roster).mono (by simp)).trans ((sendMessage_within _ _ _).mono (by simp))
    · exact Within.refl _ s
  · exact Within.refl _ s

theorem arbitrate_within (s : State) : Within [.paging, .link] s (arbitrate s) := by
  unfold arbitrate
  split
  · exact grantCancel_within s
  · exact grantReOffer_within s
  · exact grantOffer_within s
  · exact Within.refl _ s

/-! ### Every command -/

theorem effect_event {i : Instr} {f : State → State} (h : meaning i = .event f) (s : State) : effect i s = f s := by
  rw [effect, h, Meaning.effect]

/-- The effect of every command but the resets stays within the blocks that it writes. -/
theorem effect_within {i : Instr} (h : isReset i = false) (s : State) : Within (writes i) s (effect i s) := by
  have left : ∀ (bs : List Block) (why : Status), Within bs s (refuse why s).state := fun bs _ => Within.refl bs s
  have told : ∀ d : List Byte, Within [] s (reply d s).state := fun _ => Within.refl [] s
  cases i
  case readNotice t => exact readNotice_cases (motive := fun a => Within _ s a.state) (left _) fun n rest _ => setPort_within _ _ s
  case clockSet t v => exact clockSet_cases (motive := fun a => Within _ s a.state) (left _) fun _ => within_time s _
  case superviseSet t v => exact superviseSet_cases (motive := fun a => Within _ s a.state) (left _) (setPort_within _ _ s)
  case loadSet t n r =>
    exact loadSet_cases (motive := fun a => Within [.loads, .alloc] s a.state) (left _) fun n _ _ =>
      ((within_loads s _).mono (by simp)).trans ((cutLoad_touches n _).within.mono (by simp))
  case loadQuery t n => exact loadQuery_cases (motive := fun a => Within _ s a.state) (left _) told
  case mapFixed t e c => exact mapFixed_cases (motive := fun a => Within _ s a.state) (left _) fun m => by rw [accept_state]; exact changeMap_within m s
  case mapWindow t w b m c v => exact mapWindow_cases (motive := fun a => Within _ s a.state) (left _) fun m _ => by rw [acceptClamped_state]; exact changeMap_within m s
  case mapDefault t c => exact mapDefault_cases (motive := fun a => Within _ s a.state) (left _) fun m => by rw [accept_state]; exact changeMap_within m s
  case mapEnable t m f =>
    change Within _ s (accept (changeMap _ s)).state
    rw [accept_state]
    exact changeMap_within _ s
  case mapQuery t n => exact mapQuery_cases (motive := fun a => Within _ s a.state) (left _) told
  case frameSet t l => exact frameSet_cases (motive := fun a => Within _ s a.state) (left _) fun _ _ => within_time s _
  case feedLimit t v =>
    exact feedLimit_cases (motive := fun a => Within [.loads, .alloc] s a.state) (left _) (fun _ _ => (within_alloc s _).mono (by simp)) fun _ _ =>
      ((within_alloc s _).mono (by simp)).trans (reverseWalk_touches _).within
  case shedLevel t v =>
    exact shedLevel_cases (motive := fun a => Within [.loads, .alloc] s a.state) (left _) (fun _ _ => (within_alloc s _).mono (by simp)) fun _ _ =>
      by
        rw [accept_state]
        exact ((within_alloc s _).mono (by simp)).trans
          (foldl_related PlacementOnly.refl PlacementOnly.trans _ (shedLoad_touches _ _) _ _).within
  case feedConfig t a b c d => exact feedConfig_cases (motive := fun a => Within _ s a.state) (left _) (within_feed s _)
  case sensorQuery t c => exact sensorQuery_cases (motive := fun a => Within _ s a.state) (left _) told
  case zoneDefine t z =>
    exact zoneDefine_cases (motive := fun a => Within zoneMoveBlocks s a.state) (left _) fun n kind channel loads group _ _ _ _ _ =>
      (((setZone_touches _ _ s).within.mono (by simp)).trans ((rebind_within _ _ _).mono (by simp))).trans
        (enterOff_touches n id PagingOnly.refl _).within
  case zoneSetpoint t z a b c =>
    exact zoneSetpoint_cases (motive := fun a => Within _ s a.state) (left _) fun z r _ _ => ((setZone_touches _ _ s).trans (changeSetpoint_touches _ _ _)).within
  case zoneStart t z => exact zoneStart_cases (motive := fun a => Within _ s a.state) (left _) fun z _ _ _ => (enterQuietly_touches _ _ s).within
  case zoneStop t z =>
    exact zoneStop_cases (motive := fun a => Within _ s a.state) (left _) (Within.refl _ s) fun z _ _ _ _ => (enterOff_touches z id PagingOnly.refl s).within
  case zonePause t z =>
    exact zonePause_cases (motive := fun a => Within _ s a.state) (left _) (Within.refl _ s) fun z _ _ _ => (enterPaused_touches z s).within
  case zoneResume t z => exact zoneResume_cases (motive := fun a => Within _ s a.state) (left _) fun z _ _ _ => (enterQuietly_touches _ _ s).within
  case zoneClear t z =>
    exact zoneClear_cases (motive := fun a => Within _ s a.state) (left _) fun z _ _ _ _ _ => (enterOff_touches z _ (clearEvent_touches _ _) s).within
  case zoneQuery t z => exact zoneQuery_cases (motive := fun a => Within _ s a.state) (left _) told
  case programStep t z n a b c d => exact programStep_cases (motive := fun a => Within _ s a.state) (left _) fun z r g i act _ _ _ _ => within_zones s _
  case programLoad t z n h => exact programLoad_cases (motive := fun a => Within _ s a.state) (left _) fun z r g _ _ _ _ _ _ _ => within_zones s _
  case programRun t z =>
    exact programRun_cases (motive := fun a => Within _ s a.state) (left _) fun z _ _ _ _ _ _ => ((applyStep_touches _ _ s).trans (enterQuietly_touches _ _ _)).within
  case programAdvance t z =>
    exact programAdvance_cases (motive := fun a => Within _ s a.state) (left _)
      (fun z _ _ _ _ _ => ((applyStep_touches _ _ s).trans (clearEvent_touches _ _ _).stock).within)
      fun z _ _ _ _ _ => ((finishProgram_touches _ s).trans (clearEvent_touches _ _ _).stock).within
  case programAbort t z =>
    exact programAbort_cases (motive := fun a => Within _ s a.state) (left _) (Within.refl _ s) fun z _ _ _ _ _ => (abortProgram_touches z s).within
  case programQuery t z => exact programQuery_cases (motive := fun a => Within _ s a.state) (left _) told
  case lineConfig t l =>
    refine lineConfig_cases (motive := fun a => Within [.lineSettings, .permit, .ports] s a.state) (left _) fun w b pe px po g _ => Within.trans ?_ ((testPermit_within _).mono (by simp))
    exact ⟨rfl, rfl, rfl, fun b hb => by cases b <;> simp_all [SameBlock]⟩
  case rackLoad t a k c =>
    exact rackLoad_cases (motive := fun a => Within [.wares, .racks] s a.state) (left _) fun k _ _ _ _ _ _ =>
      ((within_wares s _).mono (by simp)).trans ((within_racks _ _).mono (by simp))
  case linePurge t =>
    exact foldl_within (bs := [.wares, .racks, .paging, .ports]) _ (fun s r => ((dropHead_within s).mono (by simp)).trans ((condemn_within r _).mono (by simp))) _ s
  case rackQuery t q => exact rackQuery_cases (motive := fun a => Within _ s a.state) (left _) told
  case wareDefine t k n => exact wareDefine_cases (motive := fun a => Within _ s a.state) (left _) fun k _ _ _ => within_wares s _
  case wareAdjust t k l z a =>
    exact wareAdjust_cases (motive := fun a => Within _ s a.state) (left _) (Within.refl _ s) (fun k l _ _ _ _ _ => (purchase_touches _ _ s l).within)
      fun k l _ _ _ _ _ _ => (removal_touches _ _ s l).within
  case wareReturn t k n => exact wareReturn_cases (motive := fun a => Within _ s a.state) (left _) fun k _ _ => within_wares s _
  case wareQuery t k => exact wareQuery_cases (motive := fun a => Within _ s a.state) (left _) told
  case cabinetSet t z k c l h =>
    exact cabinetSet_cases (motive := fun a => Within _ s a.state) (left _) (Within.refl _ s) fun z c k _ _ _ =>
      (((setCabinet_touches _ _ s).trans (closeTask_touches _ _ _)).trans
        ((report_touches _ _ _).trans (testRestock_touches _ _))).within
  case cabinetQuery t z => exact cabinetQuery_cases (motive := fun a => Within _ s a.state) (left _) told
  case restockConfirm t z n =>
    exact restockConfirm_cases (motive := fun a => Within _ s a.state) (left _) fun z c k _ _ _ => (confirmRestock_touches _ _ _ _ s).within
  case courseFire t r k c g cs =>
    exact courseFire_cases (motive := fun a => Within _ s a.state) (left _) fun k g cs c _ _ _ => ((seatCourse_touches _ _ s).trans (runPass_touches _ _ _ _)).within
  case coursePlated t c n =>
    refine coursePlated_cases (motive := fun a => Within _ s a.state) (left _) fun c r _ _ => ServiceOnly.within ?_
    have plated := (platePlates_touches c (min n r.totalReserved) s).trans
      (changeCourse_touches c (fun q => { q with plated := r.plated + min n r.totalReserved }) _)
    dsimp only [acceptClamped_state]
    split
    · exact plated.trans ((post_touches _ _ _ _).stock.service.trans (freeCourse_touches _ _))
    · exact plated
  case courseClose t c => exact courseClose_cases (motive := fun a => Within _ s a.state) (left _) fun c r _ => (closeCourse_touches c r s).within
  case courseQuery t c => exact courseQuery_cases (motive := fun a => Within _ s a.state) (left _) told
  case staffSet t e a r g => exact staffSet_cases (motive := fun a => Within _ s a.state) (left _) fun e _ _ _ => (setStaff_touches _ _ s).within
  case staffDuty t e d =>
    exact staffDuty_cases (motive := fun a => Within _ s a.state) (left _) (Within.refl _ s) (fun e _ _ => (becomeFree_touches e s).within) fun e _ =>
      (goOffDuty_touches e s).within
  case staffQuery t e => exact staffQuery_cases (motive := fun a => Within _ s a.state) (left _) told
  case pageSend t r g c m o => exact pageSend_cases (motive := fun a => Within _ s a.state) (left _) fun _ _ _ _ => (addPage_touches _ _ _ _ _ _ s).within
  case pageDone t i => exact pageDone_cases (motive := fun a => Within _ s a.state) (left _) fun _ p _ => (retirePage_touches p _ s).within
  case pageLevels t a b c d e f => exact pageLevels_cases (motive := fun a => Within _ s a.state) (left _) fun _ => (PagingOnly.of_desk s _ s.roster).within
  case pageTiming t n => exact pageTiming_cases (motive := fun a => Within _ s a.state) (left _) (PagingOnly.of_desk s _ s.roster).within
  case pageQuery t i => exact pageQuery_cases (motive := fun a => Within _ s a.state) (left _) told
  case supervisionTimerExpiry p => exact supervisionExpiry_within p s
  case kitchenClockAdvance => exact within_time s _
  case sliceAdvance =>
    rw [effect_event (f := sliceAdvance) rfl]
    exact sliceAdvance_within s
  case frameBoundary =>
    rw [effect_event (f := frameBoundary) rfl]
    exact frameBoundary_within s
  case feedConversion code => exact feedConversion_within code s
  case waitTimerExpiry =>
    change Within _ s (waitExpiry s)
    unfold waitExpiry
    split
    · exact within_feed s _
    · exact Within.refl _ s
  case sensorConversion code =>
    obtain ⟨scan, h⟩ := sensorConversion_touches code s
    change Within (.scan :: zoneMoveBlocks) s _
    exact ((within_scan s scan).mono (by simp)).trans (h.within.mono (by simp))
  case soakTimerExpiry z => exact (soakExpiry_touches z s).within
  case recoverTimerLimit z => exact (recoverLimitReached_touches z s).within
  case standbyTimerExpiry z => exact (standbyExpiry_touches z s).within
  case stepTimerExpiry z => exact (stepExpiry_touches z s).within
  case rinseEnter => exact ((seeTransition_within _ s).mono (by simp)).trans (enterRinse_within _)
  case rinseExit => exact ((seeTransition_within _ s).mono (by simp)).trans (leaveRinse_within _)
  case rackOut => exact ((seeTransition_within _ s).mono (by simp)).trans (unloadRack_within _)
  case offer => exact grantOffer_within s
  case reOffer => exact grantReOffer_within s
  case cancel => exact grantCancel_within s
  case transmitComplete =>
    change Within _ s (transmitComplete s)
    unfold transmitComplete
    split
    · exact within_link s _
    · exact Within.refl _ s
  case sent i => exact sentMessage_within i s
  case unreachable i => exact unreachableMessage_within i s
  case ack i a x => exact ackMessage_within i a x s
  case alive => exact aliveMessage_within s
  case garbledMessage c => exact garble_within s
  case receiveGap =>
    change Within _ s (receiveGap s)
    unfold receiveGap
    split
    · exact Within.refl _ s
    · exact garble_within s
  case ackTimerExpiry i => exact (ackTimerExpiry_touches i s).within
  case responseTimerExpiry => exact responseExpiry_within s
  case probeTimerExpiry =>
    change Within _ s (probeExpiry s)
    unfold probeExpiry
    split
    · exact sendProbe_within s
    · exact Within.refl _ s
  case powerOnReset => cases h
  case pinReset => cases h
  case leaveReset => cases h
  case lineLevelChange l => exact seeTransition_within l s
  all_goals exact Within.refl _ s

end Sys2Proof.Machine
end

section
/-! PROOF. Every command and every step answers a next state, and what a step keeps: a predicate that the parts of a
transaction, the effects, the resets and the count of a tick keep is kept by every step. -/

namespace Sys2Proof.Machine

/-! ### What a step answers -/

/-- Settles O1. -/
theorem stepTakesTheFrontCommand : Obligations.StepTakesTheFrontCommand := fun _ _ _ => rfl

/-- What the arbiter makes of a part that may be held in reset. -/
def granted (s : State) : State := if s.running then arbitrate s else s

theorem grantAtOnce_eq (s : State) : grantAtOnce s = .next (granted s) := by
  unfold grantAtOnce granted arbitrate
  cases h : grantDue s with
  | none => simp
  | some g => cases g <;> exact exec_eq_run _ s

/-- One due command of a tick, taken where it still holds, with the grant behind it. -/
def afterDue (s : State) (d : Due) : State := if d.holds s then granted ((meaning d.command).run s) else s

theorem takeDue_next (s : State) (d : Due) : takeDue (.next s) d = .next (afterDue s d) := by
  by_cases h : d.holds s <;> simp only [takeDue, afterDue, h, exec_eq_run, grantAtOnce_eq, if_true, if_false, Bool.false_eq_true]

theorem takeDues_next (ds : List Due) (s : State) : ds.foldl takeDue (.next s) = .next (ds.foldl afterDue s) := by
  induction ds generalizing s with
  | nil => rfl
  | cons d ds ih => rw [List.foldl_cons, takeDue_next, ih, List.foldl_cons]

/-- What falls due in a state that has counted a tick. -/
def duesOf (s : State) : List Due := (tickDues s).filter fun d => d.holds s

theorem tick_eq (s : State) : tick s = .next ((duesOf (countTick s)).foldl afterDue (countTick s)) := takeDues_next _ _

/-- What a step on an empty queue leaves. -/
def idleState (s : State) : State :=
  if s.running = false then s
  else if (grantDue s).isSome then granted s
  else if s.link.transmitting ≠ [] then (meaning .transmitComplete).run s
  else (duesOf (countTick s)).foldl afterDue (countTick s)

theorem idle_eq (s : State) : idle s = .next (idleState s) := by
  unfold idle idleState
  split
  · rfl
  split
  · exact grantAtOnce_eq s
  split
  · exact exec_eq_run _ s
  · exact tick_eq s

/-- What a step leaves. -/
def stepState (s : State) : State :=
  match s.pending with
  | [] => idleState s
  | c :: rest => (meaning c).run { s with pending := rest }

theorem step_eq (s : State) : step s = .next (stepState s) := by
  unfold step stepState
  cases s.pending with
  | nil => exact idle_eq s
  | cons c rest => exact exec_eq_run _ _

/-! ### What surrounds an effect -/

theorem takeFrame_within (p : PortId) (s : State) : Within pagingBlocks s (takeFrame p s) := by
  obtain ⟨⟨d, r, q, h⟩, -⟩ := takeFrame_touches p s
  rw [h]
  exact ((within_paging s d r).mono (by simp)).trans ((within_ports _ q).mono (by simp))

theorem openTransaction_within (p : PortId) (n : Nat) (s : State) : Within pagingBlocks s (openTransaction p n s) :=
  (takeFrame_within p s).trans ((setPort_within _ _ _).mono (by simp))

theorem placeAnswer_within (p : PortId) (a : Answer) : Within [.ports] a.state (placeAnswer p a) := setPort_within _ _ _

/-- The judgement of a request refuses it or takes it. -/
theorem judge_cases {motive : Answer → Prop} {t : Transfer} {roles : List Role} {body : State → Answer} {s : State}
    (refused : ∀ why, motive (refuse why s)) (taken : motive (body s)) : motive (judge t roles body s) := by
  unfold judge
  split
  · exact refused _
  split
  · exact refused _
  · exact taken

/-- The ways in which a transaction goes. -/
theorem transaction_cases {motive : State → Prop} {p : PortId} {n : Nat} {body : State → State} {s : State}
    (held : s.running = false → motive s)
    (ignored : motive ((arbitrate s).setPort p { (arbitrate s).ports.get p with csIgnored := false }))
    (taken : motive (body (openTransaction p n (arbitrate s)))) : motive (transaction p n body s) := by
  unfold transaction
  split
  · next h => exact held h
  dsimp only
  split
  · exact ignored
  · exact taken

/-- The other transactions place no reply or a refusal. -/
theorem meaning_other_cases {i : Instr} {p : PortId} {n : Nat} {f : State → State} (h : meaning i = .other p n f) (s : State) :
    f s = s ∨ ∃ why, f s = placeAnswer p (refuse why s) := by
  cases i <;> cases h
  · exact .inl rfl
  · exact .inr ⟨_, rfl⟩
  · exact .inr ⟨_, rfl⟩

/-- Every reset of a state leaves it as it is, which a release of a part that runs does, or resets its blocks, with ports in
their reset state. -/
theorem meaning_reset_cases {i : Instr} {f : State → State} (h : meaning i = .reset f) (s : State) :
    f s = s ∨ ∃ chip ports, f s = s.resetBlocks chip ports ∧ ∀ p, ∃ role b, ports.get p = Port.reset role b := by
  cases i <;> cases h
  · exact .inr ⟨_, _, rfl, fun p => ⟨_, _, Table.get_map _ _ p⟩⟩
  · exact .inr ⟨_, _, rfl, fun p => ⟨_, _, Table.get_map _ _ p⟩⟩
  · unfold leaveReset
    split
    · exact .inl rfl
    · exact .inr ⟨_, _, rfl, fun p => ⟨_, _, Table.get_build _ p⟩⟩

/-- What is no reset by its meaning is none of the reset events. -/
theorem notReset_of_meaning {i : Instr} {m : Meaning} (h : meaning i = m) (other : ∀ f, m ≠ .reset f) : isReset i = false := by
  rw [Bool.eq_false_iff]
  intro reset
  obtain ⟨f, hf⟩ := meaning_reset_iff.mpr reset
  exact other f (h.symm.trans hf)

/-! ### Predicates that every step keeps -/

/-- Everything that a step is made of keeps a predicate. -/
structure KeptBy (P : State → Prop) : Prop where
  queue : ∀ s l, P s → P { s with pending := l }
  counted : ∀ s, P s → P (countTick s)
  opened : ∀ p n s, P s → P (openTransaction p n s)
  ignored : ∀ p s, P s → P (s.setPort p { s.ports.get p with csIgnored := false })
  refused : ∀ p why s, P s → P (placeAnswer p (refuse why s))
  requests : ∀ {i t roles body}, meaning i = .request t roles body → ∀ s, P s → P (placeAnswer t.port (body s))
  events : ∀ {i f}, meaning i = .event f → ∀ s, P s → P (f s)
  grants : ∀ {i f}, meaning i = .grant f → ∀ s, P s → P (f s)
  resets : ∀ {i f}, meaning i = .reset f → ∀ s, P s → P (f s)

section
variable {P : State → Prop} (k : KeptBy P)
include k

theorem KeptBy.arbitrate {s : State} (h : P s) : P (arbitrate s) := by
  unfold Machine.arbitrate
  split
  · exact k.grants (i := .cancel) rfl s h
  · exact k.grants (i := .reOffer) rfl s h
  · exact k.grants (i := .offer) rfl s h
  · exact h

theorem KeptBy.granted {s : State} (h : P s) : P (granted s) := by
  unfold Machine.granted
  split
  · exact k.arbitrate h
  · exact h

theorem KeptBy.run {s : State} (i : Instr) (h : P s) : P ((meaning i).run s) := by
  cases e : meaning i with
  | request t roles body =>
    refine transaction_cases (motive := P) (p := t.port) (n := t.clocked)
      (body := fun s => placeAnswer t.port (judge t roles body s)) (fun _ => h) (k.ignored _ _ (k.arbitrate h)) ?_
    have heard := k.opened t.port t.clocked _ (k.arbitrate h)
    exact judge_cases (motive := fun a => P (placeAnswer t.port a)) (fun why => k.refused _ _ _ heard)
      (k.requests e _ heard)
  | other p n body =>
    refine transaction_cases (motive := P) (fun _ => h) (k.ignored _ _ (k.arbitrate h)) ?_
    have heard := k.opened p n _ (k.arbitrate h)
    rcases meaning_other_cases e (openTransaction p n (Machine.arbitrate s)) with same | ⟨why, refused⟩
    · rw [same]; exact heard
    · rw [refused]; exact k.refused _ _ _ heard
  | event f =>
    simp only [Meaning.run]
    split
    · exact k.events e _ (k.arbitrate h)
    · exact h
  | grant f =>
    simp only [Meaning.run]
    split
    · exact k.grants e _ h
    · exact h
  | reset f => exact k.resets e _ h

theorem KeptBy.afterDue {s : State} (d : Due) (h : P s) : P (afterDue s d) := by
  unfold Machine.afterDue
  split
  · exact k.granted (k.run _ h)
  · exact h

theorem KeptBy.stepState {s : State} (h : P s) : P (stepState s) := by
  have dues : ∀ (ds : List Due) (s : State), P s → P (ds.foldl Machine.afterDue s) := by
    intro ds
    induction ds with
    | nil => exact fun s h => h
    | cons d ds ih => exact fun s h => ih _ (k.afterDue d h)
  unfold Machine.stepState
  split
  · unfold idleState
    split
    · exact h
    split
    · exact k.granted h
    split
    · exact k.run _ h
    · exact dues _ _ (k.counted _ h)
  · exact k.run _ (k.queue _ _ h)

/-- What everything that a step is made of keeps is kept by every step. -/
theorem KeptBy.step {s w : State} (h : P s) (stepped : step s = .next w) : P w := by
  rw [step_eq] at stepped
  cases stepped
  exact k.stepState h

end

/-! ### Predicates on some blocks -/

/-- A predicate that only the blocks listed can change. -/
def DependsOn (P : State → Prop) (bs : List Block) : Prop := ∀ {s t : State}, (∀ b ∈ bs, SameBlock s t b) → P s → P t

theorem DependsOn.within {P : State → Prop} {bs cs : List Block} (dep : DependsOn P bs) {s t : State} (h : Within cs s t)
    (apart : ∀ b ∈ bs, b ∉ cs) (hs : P s) : P t :=
  dep (fun b hb => h.same b (apart b hb)) hs

/-- A law on blocks of the field side is kept by every step where the effects that write those blocks, the reset and the count
of a tick keep it. -/
theorem keptBy_of_blocks {P : State → Prop} {bs : List Block} (dep : DependsOn P bs)
    (apart : ∀ b ∈ bs, b ∉ pagingBlocks)
    (effects : ∀ i s, (∃ b ∈ bs, b ∈ writes i) → P s → P (effect i s))
    (resets : ∀ s chip ports, P (State.resetBlocks s chip ports)) (counted : ∀ s, P s → P (countTick s)) : KeptBy P := by
  have ports : ∀ b ∈ bs, b ∉ [Block.ports] := fun b hb h => apart b hb (List.mem_cons_of_mem _ h)
  have effected : ∀ i s, isReset i = false → P s → P (effect i s) := by
    intro i s hi h
    by_cases hw : ∃ b ∈ bs, b ∈ writes i
    · exact effects i s hw h
    · exact dep.within (effect_within hi s) (fun b hb mem => hw ⟨b, hb, mem⟩) h
  refine ⟨fun s l => dep fun b _ => ?_, counted, fun p n s => dep.within (openTransaction_within p n s) apart,
    fun p s => dep.within (setPort_within _ _ _) ports, fun p why s => dep.within (placeAnswer_within p (refuse why s)) ports, ?_, ?_, ?_, ?_⟩
  · cases b <;> simp [SameBlock]
  · intro i t roles body e s h
    refine dep.within (placeAnswer_within _ _) ports ?_
    have done := effected i s (notReset_of_meaning e (by simp)) h
    rwa [effect, e] at done
  · intro i f e s h
    have done := effected i s (notReset_of_meaning e (by simp)) h
    rwa [effect, e] at done
  · intro i f e s h
    have done := effected i s (notReset_of_meaning e (by simp)) h
    rwa [effect, e] at done
  · intro i f e s h
    rcases meaning_reset_cases e s with same | ⟨chip, ports, reset, -⟩
    · rw [same]; exact h
    · rw [reset]; exact resets _ _ _

/-! ### Nothing stops the part -/

/-- The queue and the pins are as in a given state. -/
def SameOutside (s t : State) : Prop := t.pending = s.pending ∧ t.pins = s.pins

theorem Within.outside {bs : List Block} {s t u : State} (h : Within bs t u) (k : SameOutside s t) : SameOutside s u :=
  ⟨h.pending.trans k.1, h.pins.trans k.2⟩

theorem run_outside (i : Instr) (s : State) : SameOutside s ((meaning i).run s) := by
  have arbitrated : SameOutside s (arbitrate s) := (arbitrate_within s).outside ⟨rfl, rfl⟩
  have written : ∀ t, isReset i = false → SameOutside s t → SameOutside s (effect i t) :=
    fun t hi h => (effect_within hi t).outside h
  cases e : meaning i with
  | request t roles body =>
    refine transaction_cases (motive := SameOutside s) (fun _ => ⟨rfl, rfl⟩) ((setPort_within _ _ _).outside arbitrated)
      ((placeAnswer_within _ _).outside ?_)
    have heard := (openTransaction_within t.port t.clocked _).outside arbitrated
    refine judge_cases (motive := fun a => SameOutside s a.state) (fun _ => heard) ?_
    have done := written _ (notReset_of_meaning e (by simp)) heard
    rwa [effect, e] at done
  | other p n body =>
    refine transaction_cases (motive := SameOutside s) (fun _ => ⟨rfl, rfl⟩) ((setPort_within _ _ _).outside arbitrated) ?_
    have heard := (openTransaction_within p n _).outside arbitrated
    rcases meaning_other_cases e (openTransaction p n (arbitrate s)) with same | ⟨why, refused⟩
    · rw [same]; exact heard
    · rw [refused]; exact (placeAnswer_within _ _).outside heard
  | event f =>
    simp only [Meaning.run]
    split
    · have done := written _ (notReset_of_meaning e (by simp)) arbitrated
      rwa [effect, e] at done
    · exact ⟨rfl, rfl⟩
  | grant f =>
    simp only [Meaning.run]
    split
    · have done := written s (notReset_of_meaning e (by simp)) ⟨rfl, rfl⟩
      rwa [effect, e] at done
    · exact ⟨rfl, rfl⟩
  | reset f =>
    rcases meaning_reset_cases e s with same | ⟨chip, ports, reset, -⟩
    · simp only [Meaning.run, same]; exact ⟨rfl, rfl⟩
    · simp only [Meaning.run, reset]; exact ⟨rfl, rfl⟩

/-- R192: a part held in reset takes nothing but the resets. -/
theorem run_held {i : Instr} {s : State} (held : s.running = false) (hi : isReset i = false) : (meaning i).run s = s := by
  cases e : meaning i with
  | request t roles body => simp [Meaning.run, transaction, held]
  | other p n body => simp [Meaning.run, transaction, held]
  | event f => simp [Meaning.run, held]
  | grant f => simp [Meaning.run, held]
  | reset f => cases hi.symm.trans (meaning_reset_iff.mp ⟨f, e⟩)

/-- Settles O2: every command's meaning leaves a state, with the queue and the pins left alone. -/
theorem nothingStopsThePart : Obligations.NothingStopsThePart := by
  refine ⟨⟨fun i s => ?_, fun s => ⟨_, step_eq s⟩⟩, fun i s held hi => ?_⟩
  · obtain ⟨pending, pins⟩ := run_outside i s
    exact ⟨_, exec_eq_run i s, pending, pins⟩
  · rw [exec_eq_run, run_held held hi]

end Sys2Proof.Machine
end

section
/-! PROOF. The ports' own commands, the resets, and how every transaction is heard and judged (11_command_ports.md). -/

namespace Sys2Proof.Machine

/-! ### Requests, events and grants by their meaning -/

theorem exec_of_request {i : Instr} {t : Transfer} {roles : List Role} {body : State → Answer}
    (h : meaning i = .request t roles body) (s : State) : exec i s = command t roles body s := by
  rw [exec_eq_run, h]; rfl

theorem exec_of_event {i : Instr} {f : State → State} (h : meaning i = .event f) (s : State) : exec i s = event f s := by
  rw [exec_eq_run, h]; rfl

theorem exec_of_grant {i : Instr} {f : State → State} (h : meaning i = .grant f) (s : State) : exec i s = grant f s := by
  rw [exec_eq_run, h]; rfl

/-- A request of every role is judged by its own checks. -/
theorem exec_forAll {i : Instr} {t : Transfer} {body : State → Answer} (h : meaning i = .request t allRoles body) {s : State}
    (listening : Listening t s) : exec i s = .next (placeAnswer t.port (body (heard t s))) := by
  rw [exec_of_request h, command_listening listening, if_neg (not_not.mpr (mem_allRoles _))]

theorem exec_quiet {i : Instr} {f : State → State} (h : meaning i = .event f) {s : State} (quiet : Quiet s) :
    exec i s = .next (f s) := by
  rw [exec_of_event h, event_quiet quiet]

/-! ### The resets -/

theorem Table.map_eq_build {α β : Type} {n : Nat} (f : α → β) (t : Table n α) : t.map f = Table.build n fun i => f (t.get i) := by
  refine Table.ext fun i => ?_
  rw [Table.get_map, Table.get_build]

/-- Settles O4: a release is taken by the phase it finds, and every table of ports is told entry by entry. -/
theorem resetsAndTheRelease : Obligations.ResetsAndTheRelease := by
  intro s straps selected
  have ports := Table.map_eq_build (fun p : Port => Port.reset p.role false) s.ports
  refine ⟨?_, ?_, fun powerOn held => ?_, fun running => ?_⟩
  · rw [← ports]
    rfl
  · have mark : s.chip.phase.powerOnMark = decide (s.chip.phase = .held true) := by
      cases h : s.chip.phase with
      | running => rfl
      | held powerOn => cases powerOn <;> rfl
    rw [← mark, ← ports]
    rfl
  · change Host.Outcome.next (leaveReset straps selected s) = _
    simp only [leaveReset, held]
  · have phase : s.chip.phase = .running := by simpa [State.running] using running
    change Host.Outcome.next (leaveReset straps selected s) = _
    simp only [leaveReset, phase]

/-- Settles O5: each block's reset record, read field by field. -/
theorem resetStateHoldsTheManualsValues : Obligations.ResetStateHoldsTheManualsValues := by
  intro s chip ports
  simp only
  have loads : ∀ n, (s.resetBlocks chip ports).loads.get n = LoadPoint.reset := fun n => Table.get_fill _ n
  refine ⟨⟨rfl, rfl, rfl, rfl, rfl⟩, fun n => ⟨loads n, ?_, rfl⟩, ⟨rfl, rfl, fun e => Table.get_fill _ e, fun v => Table.get_fill _ v, rfl⟩,
    ⟨fun i => Table.get_fill _ i, rfl, rfl, rfl, rfl, rfl, rfl⟩, ⟨rfl, rfl, rfl, rfl, rfl, rfl, rfl, rfl, rfl, rfl, rfl, rfl⟩, rfl,
    fun c => Table.get_fill _ c, fun z => Table.get_fill _ z, ⟨rfl, rfl, rfl, rfl, rfl, rfl, rfl, rfl, rfl, rfl, rfl, rfl⟩,
    fun k => Table.get_fill _ k, rfl, fun c => Table.get_fill _ c, rfl, fun e => ?_, fun r => Table.get_fill _ r.index,
    ⟨rfl, rfl, rfl, rfl, rfl, rfl⟩, ⟨rfl, rfl, rfl, rfl, rfl, rfl, rfl, rfl, rfl, rfl⟩, fun _ _ => ⟨rfl, rfl, rfl, rfl, rfl, rfl⟩⟩
  · simp [loadLine, loads, LoadPoint.reset, LoadPoint.isOn]
  · have entry : (s.resetBlocks chip ports).staff e = Staff.reset := Table.get_fill _ e
    rw [entry]
    exact ⟨rfl, rfl, rfl, rfl, rfl, rfl⟩

/-! ### Hearing a transaction -/

theorem fullInterval_eq (v : Nat) : fullInterval v = if v = 0 then none else some (100 * v) := by
  unfold fullInterval
  rw [Nat.mul_comm]

theorem readSlot_eq (slot : Option Reply) (clocked : Nat) : readSlot slot clocked = if 3 ≤ clocked then none else slot := rfl

theorem State.setPort_setPort (s : State) (p : PortId) (a b : Port) : (s.setPort p a).setPort p b = s.setPort p b := by
  simp [State.setPort, Table.set_set]

/-- Settles O7: the timer and the slot are set one after the other in one port. -/
theorem hearingTouchesOnePort : Obligations.HearingTouchesOnePort := by
  intro p clocked s
  have returned := (clearEvent_touches .portSilent p.val (s.setPort p { s.ports.get p with silent := false })).trans
    (post_touches .portState p.val 1 _)
  refine ⟨fun active => ?_, fun silent => ⟨_, ?_, rfl, ?_⟩⟩
  · have frame : takeFrame p s = s.setPort p { s.ports.get p with
        timer := if (s.ports.get p).interval = 0 then (s.ports.get p).timer else some (100 * (s.ports.get p).interval) } := by
      simp only [takeFrame, active, Bool.false_eq_true, if_false, fullInterval_eq]
      split <;> rfl
    simp only [openTransaction, frame, clockOut, State.setPort_setPort, State.setPort_ports, Table.get_set, if_true, readSlot_eq]
  · exact returned
  · obtain ⟨n, o, same⟩ := returned.2 p
    rw [State.setPort_ports, Table.get_set, if_pos rfl] at same
    simp only [openTransaction, takeFrame, silent, if_true, clockOut, State.setPort_setPort, State.setPort_ports, Table.get_set,
      fullInterval_eq, readSlot_eq, same]

/-! ### The judging of every transaction -/

/-- A reply other than OK and CLAMPED leaves the state of the request and has no data (R181, R190). -/
def TakenOrLeft (s : State) (a : Answer) : Prop :=
  a.status = .ok ∨ a.status = .clamped ∨ (a.state = s ∧ a.data = [] ∧ a.noticeOverflow = false)

theorem takenOrLeft_refuse {s : State} (why : Status) : TakenOrLeft s (refuse why s) := .inr (.inr ⟨rfl, rfl, rfl⟩)

theorem takenOrLeft_accept (s w : State) : TakenOrLeft s (accept w) := .inl rfl

theorem takenOrLeft_reply (s : State) (d : List Byte) (w : State) : TakenOrLeft s (reply d w) := .inl rfl

theorem takenOrLeft_acceptClamped (s : State) (x : Bool) (d : List Byte) (w : State) :
    TakenOrLeft s (acceptClamped x d w) := by
  cases x
  · exact .inl rfl
  · exact .inr (.inl rfl)

/-- Every request is taken, or refused with nothing changed. -/
theorem takenOrLeft_of_meaning {i : Instr} {t : Transfer} {roles : List Role} {body : State → Answer}
    (h : meaning i = .request t roles body) (s : State) : TakenOrLeft s (body s) := by
  have no : ∀ why, TakenOrLeft s (refuse why s) := takenOrLeft_refuse
  have yes := takenOrLeft_accept s
  have told : ∀ d, TakenOrLeft s (reply d s) := fun d => takenOrLeft_reply s d s
  have clamped := takenOrLeft_acceptClamped s
  cases i <;> cases h
  case nop => exact yes _
  case status | frameQuery | feedQuery | lineQuery | restockQuery | linkQuery => exact told _
  case readNotice => exact readNotice_cases no fun _ _ _ => .inl rfl
  case clockSet => exact clockSet_cases no fun _ => yes _
  case superviseSet => exact superviseSet_cases no (yes _)
  case loadSet => exact loadSet_cases no fun _ _ _ => yes _
  case loadQuery => exact loadQuery_cases no told
  case mapFixed => exact mapFixed_cases no fun _ => yes _
  case mapWindow => exact mapWindow_cases no fun _ _ => clamped _ _ _
  case mapDefault => exact mapDefault_cases no fun _ => yes _
  case mapEnable => exact .inl rfl
  case mapQuery => exact mapQuery_cases no told
  case frameSet => exact frameSet_cases no fun _ _ => yes _
  case feedLimit => exact feedLimit_cases no (fun _ _ => yes _) fun _ _ => yes _
  case shedLevel => exact shedLevel_cases no (fun _ _ => yes _) fun _ _ => yes _
  case feedConfig => exact feedConfig_cases no (yes _)
  case sensorQuery => exact sensorQuery_cases no told
  case zoneDefine => exact zoneDefine_cases no fun _ _ _ _ _ _ _ _ _ _ => clamped _ _ _
  case zoneSetpoint => exact zoneSetpoint_cases no fun _ _ _ _ => clamped _ _ _
  case zoneStart => exact zoneStart_cases no fun _ _ _ _ => yes _
  case zoneStop => exact zoneStop_cases no (yes _) fun _ _ _ _ _ => yes _
  case zonePause => exact zonePause_cases no (yes _) fun _ _ _ _ => yes _
  case zoneResume => exact zoneResume_cases no fun _ _ _ _ => yes _
  case zoneClear => exact zoneClear_cases no fun _ _ _ _ _ _ => yes _
  case zoneQuery => exact zoneQuery_cases no told
  case programStep => exact programStep_cases no fun _ _ _ _ _ _ _ _ _ => clamped _ _ _
  case programLoad => exact programLoad_cases no fun _ _ _ _ _ _ _ _ _ _ => clamped _ _ _
  case programRun => exact programRun_cases no fun _ _ _ _ _ _ _ => yes _
  case programAdvance => exact programAdvance_cases no (fun _ _ _ _ _ _ => yes _) fun _ _ _ _ _ _ => yes _
  case programAbort => exact programAbort_cases no (yes _) fun _ _ _ _ _ _ => yes _
  case programQuery => exact programQuery_cases no told
  case lineConfig => exact lineConfig_cases no fun _ _ _ _ _ _ _ => yes _
  case rackLoad => exact rackLoad_cases no fun _ _ _ _ _ _ _ => clamped _ _ _
  case linePurge => exact .inl rfl
  case rackQuery => exact rackQuery_cases no told
  case wareDefine => exact wareDefine_cases no fun _ _ _ _ => yes _
  case wareAdjust =>
    exact wareAdjust_cases no (told _) (fun _ _ _ _ _ _ _ => takenOrLeft_reply s _ _) fun _ _ _ _ _ _ _ _ => clamped _ _ _
  case wareReturn => exact wareReturn_cases no fun _ _ _ => clamped _ _ _
  case wareQuery => exact wareQuery_cases no told
  case cabinetSet => exact cabinetSet_cases no (yes _) fun _ _ _ _ _ _ => yes _
  case cabinetQuery => exact cabinetQuery_cases no told
  case restockConfirm => exact restockConfirm_cases no fun _ _ _ _ _ _ => clamped _ _ _
  case courseFire => exact courseFire_cases no fun _ _ _ _ _ _ _ => takenOrLeft_reply s _ _
  case coursePlated => exact coursePlated_cases no fun _ _ _ _ => clamped _ _ _
  case courseClose => exact courseClose_cases no fun _ _ _ => takenOrLeft_reply s _ _
  case courseQuery => exact courseQuery_cases no told
  case staffSet => exact staffSet_cases no fun _ _ _ _ => yes _
  case staffDuty => exact staffDuty_cases no (yes _) (fun _ _ _ => yes _) fun _ _ => yes _
  case staffQuery => exact staffQuery_cases no told
  case pageSend => exact pageSend_cases no fun _ _ _ _ => takenOrLeft_reply s _ _
  case pageDone => exact pageDone_cases no fun _ _ _ => yes _
  case pageLevels => exact pageLevels_cases no fun _ => yes _
  case pageTiming => exact pageTiming_cases no (yes _)
  case pageQuery => exact pageQuery_cases no told

/-- R192: a chip select that was low at the release is ignored, by whatever transaction. -/
theorem exec_ignored {i : Instr} {p : PortId} {s : State} (hp : portOf i = some p) (quiet : Quiet s)
    (ignored : (s.ports.get p).csIgnored = true) : exec i s = .next (s.setPort p { s.ports.get p with csIgnored := false }) := by
  have other : ∀ (n : Nat) (body : State → State),
      transaction p n body s = s.setPort p { s.ports.get p with csIgnored := false } := fun n body => by
    simp [transaction, quiet.1, arbitrate_settled quiet.2, ignored]
  unfold portOf at hp
  split at hp
  · cases hp; exact congrArg _ (other _ _)
  · cases hp; exact congrArg _ (other _ _)
  · cases hp; exact congrArg _ (other _ _)
  · obtain ⟨⟨t, roles⟩, ht, rfl⟩ := Option.map_eq_some_iff.mp hp
    obtain ⟨body, hb⟩ := meaning_of_portCommand ht
    rw [exec_of_request hb, command_ignored quiet ignored]

/-- Settles O8: the three bare transactions, the ignored ones, and the requests by their judging. -/
theorem everyTransactionIsDealtWith : Obligations.EveryTransactionIsDealtWith := by
  refine ⟨fun p clocked s quiet => ⟨fun taken => ?_, fun i hp ignored => exec_ignored hp quiet ignored⟩,
    fun i t roles s ht quiet taken => ?_⟩
  · have told : ∀ body : State → State, transaction p clocked body s = body (openTransaction p clocked s) := fun body => by
      simp [transaction, quiet.1, arbitrate_settled quiet.2, taken]
    exact ⟨congrArg _ (told _), congrArg _ (told _), congrArg _ (told _)⟩
  · obtain ⟨body, hb⟩ := meaning_of_portCommand ht
    rw [exec_of_request hb]
    refine ⟨fun denied => command_denied quiet taken denied, fun permitted short => command_badLength quiet taken permitted short, ?_⟩
    by_cases permitted : Permitted t roles s
    swap
    · exact ⟨_, command_denied quiet taken permitted, fun _ _ => ⟨rfl, rfl, rfl⟩⟩
    by_cases whole : t.lengthOk = true
    swap
    · exact ⟨_, command_badLength quiet taken permitted (by simpa using whole), fun _ _ => ⟨rfl, rfl, rfl⟩⟩
    refine ⟨body (heard t s), command_judged ⟨quiet, taken, permitted, whole⟩, fun notOk notClamped => ?_⟩
    rcases takenOrLeft_of_meaning hb (heard t s) with ok | clamped | left
    · exact absurd ok notOk
    · exact absurd clamped notClamped
    · exact left

/-! ### NOP, STATUS, READ_NOTICE, SUPERVISE_SET and the kitchen clock -/

/-- Settles O9. -/
theorem nopAndStatusChangeNothing : Obligations.NopAndStatusChangeNothing := by
  intro t s listening
  refine ⟨exec_forAll rfl listening, ?_⟩
  rw [exec_forAll rfl listening, placeAnswer_reply, statusData, heard_chip, heard_time]
  rfl

/-- Settles O10: the oldest notice leaves its queue, and an interval of one byte is taken. -/
theorem portsReadNoticesAndSetTimers : Obligations.PortsReadNoticesAndSetTimers := by
  refine ⟨fun t s listening => ⟨fun none => ?_, fun n rest some => ?_⟩, fun t v s listening byte => ?_⟩
  · rw [exec_forAll rfl listening, readNotice, none]
    rfl
  · rw [exec_forAll rfl listening, readNotice, some]
    simp only [placeAnswer, State.setPort_setPort, State.setPort_ports, Table.get_set, if_true, placeReply]
    rfl
  · rw [exec_forAll rfl listening, superviseSet, if_neg (Nat.not_lt.mpr byte), placeAnswer_accept, fullInterval_eq]

/-- Settles O11: the role is judged first, then the range; the last second wraps to 0. -/
theorem kitchenClockIsSetAndAdvances : Obligations.KitchenClockIsSetAndAdvances := by
  refine ⟨fun t v s listening => ?_, fun s quiet within => ?_⟩
  · rw [exec_of_request (body := clockSet v) rfl, command_listening listening]
    refine congrArg _ (if_congr Iff.rfl rfl ?_)
    unfold clockSet lastSecond
    split
    · exact placeAnswer_refuse t .range s
    · rw [placeAnswer_accept, heard_time]
  · have wrapped : (if lastSecond ≤ s.time.clock then 0 else s.time.clock + 1) = (s.time.clock + 1) % 86400 := by
      unfold lastSecond
      split <;> omega
    rw [exec_quiet (f := clockAdvance) rfl quiet, clockAdvance, wrapped]

end Sys2Proof.Machine
end

section
/-! PROOF. Cuts of the allocation frame (R34, R36 to R39): what a walk of cuts leaves, and that the slice sums stay what the
load points carry. -/

namespace Sys2Proof.Machine

/-! ### On-slices to come -/

theorem mem_remaining {slice i : Nat} {l : LoadPoint} : i ∈ remaining slice l ↔ i ∈ l.onSlices ∧ slice ≤ i := by
  simp [remaining]

theorem mem_cutFrom {slice i : Nat} {l : LoadPoint} : i ∈ (l.cutFrom slice).onSlices ↔ i ∈ l.onSlices ∧ i < slice := by
  simp [LoadPoint.cutFrom]

theorem remaining_cutFrom (slice : Nat) (l : LoadPoint) : remaining slice (l.cutFrom slice) = [] :=
  List.eq_nil_iff_forall_not_mem.mpr fun i hi => by
    rw [mem_remaining, mem_cutFrom] at hi
    omega

/-! ### Cuts of some load points -/

/-- Some load points cut and nothing else changed but the slice sums. -/
structure Cut (which : LoadId → Prop) (s w : State) : Prop where
  placement : PlacementOnly s w
  alloc : w.alloc = { s.alloc with sums := w.alloc.sums }
  frame : FrameCut which s w

section
variable {which other : LoadId → Prop} {s t w : State}

theorem PlacementOnly.time (h : PlacementOnly s w) : w.time = s.time := by
  obtain ⟨_, _, rfl⟩ := h
  rfl

theorem PlacementOnly.zones (h : PlacementOnly s w) : w.zones = s.zones := by
  obtain ⟨_, _, rfl⟩ := h
  rfl

theorem PlacementOnly.feed (h : PlacementOnly s w) : w.feed = s.feed := by
  obtain ⟨_, _, rfl⟩ := h
  rfl

theorem Cut.time (h : Cut which s w) : w.time = s.time := h.placement.time

theorem Cut.limit (h : Cut which s w) : w.alloc.limit = s.alloc.limit := by rw [h.alloc]

theorem Cut.order (h : Cut which s w) : w.alloc.order = s.alloc.order := by rw [h.alloc]

/-- Each load point is cut or left. -/
theorem Cut.load (h : Cut which s w) (n : LoadId) :
    w.loads.get n = (s.loads.get n).cutFrom s.time.slice ∨ w.loads.get n = s.loads.get n := by
  by_cases hn : which n ∧ remaining s.time.slice (s.loads.get n) ≠ []
  · exact .inl ((h.frame.1 n).1 hn)
  · exact .inr ((h.frame.1 n).2 hn)

/-- A load point keeps all but its on-slices and its flag. -/
theorem Cut.keeps (h : Cut which s w) (n : LoadId) : ∃ l c, w.loads.get n = { s.loads.get n with onSlices := l, cut := c } := by
  rcases h.load n with cut | left
  · exact ⟨_, _, cut⟩
  · exact ⟨_, _, left⟩

theorem Cut.placed (h : Cut which s w) (n : LoadId) : (w.loads.get n).placed = (s.loads.get n).placed := by
  obtain ⟨_, _, e⟩ := h.keeps n
  rw [e]

theorem Cut.effective (h : Cut which s w) (n : LoadId) : (w.loads.get n).effective = (s.loads.get n).effective := by
  obtain ⟨_, _, e⟩ := h.keeps n
  rw [e]

theorem Cut.binding (h : Cut which s w) (n : LoadId) : (w.loads.get n).binding = (s.loads.get n).binding := by
  obtain ⟨_, _, e⟩ := h.keeps n
  rw [e]

/-- What is still to come of a load point after a cut: nothing of one that is cut, all of any other. -/
theorem Cut.mem_remaining_iff (h : Cut which s w) (n : LoadId) (i : Nat) :
    i ∈ remaining s.time.slice (w.loads.get n) ↔ ¬ which n ∧ i ∈ remaining s.time.slice (s.loads.get n) := by
  by_cases hn : which n
  · by_cases some : remaining s.time.slice (s.loads.get n) = []
    · rw [(h.frame.1 n).2 fun k => k.2 some, some]
      simp
    · rw [(h.frame.1 n).1 ⟨hn, some⟩, remaining_cutFrom]
      simp [hn]
  · rw [(h.frame.1 n).2 fun k => hn k.1]
    simp [hn]

theorem Cut.onSlices_sublist (h : Cut which s w) (n : LoadId) : (w.loads.get n).onSlices.Sublist (s.loads.get n).onSlices := by
  rcases h.load n with cut | left
  · rw [cut]; exact List.filter_sublist
  · rw [left]

theorem Cut.remaining_ne_nil (h : Cut which s w) {n : LoadId} (some : remaining w.time.slice (w.loads.get n) ≠ []) :
    remaining s.time.slice (s.loads.get n) ≠ [] := by
  obtain ⟨i, hi⟩ := List.exists_mem_of_ne_nil _ some
  rw [h.time, h.mem_remaining_iff] at hi
  exact List.ne_nil_of_mem hi.2

theorem Cut.sums_le (h : Cut which s w) (i : Fin 100) : w.alloc.sums.get i ≤ s.alloc.sums.get i := by
  obtain ⟨out, -, -, sum⟩ := h.frame.2 i
  rw [sum]
  exact Nat.sub_le _ _

theorem Cut.none (s : State) : Cut (fun _ => False) s s :=
  ⟨PlacementOnly.refl s, rfl, fun n => ⟨fun h => h.1.elim, fun _ => rfl⟩, fun i => ⟨[], List.nodup_nil, by simp, by simp⟩⟩

theorem Cut.congr (h : Cut which s w) (same : ∀ n, which n ↔ other n) : Cut other s w := by
  have e : which = other := funext fun n => propext (same n)
  exact e ▸ h

/-- Two cuts one after the other. -/
theorem Cut.trans (h : Cut which s t) (k : Cut other t w) : Cut (fun n => which n ∨ other n) s w := by
  refine ⟨h.placement.trans k.placement, by rw [k.alloc, h.alloc], fun n => ?_, fun i => ?_⟩
  · have second := k.frame.1 n
    rw [h.time] at second
    by_cases rest : remaining s.time.slice (s.loads.get n) = []
    · have first := (h.frame.1 n).2 fun c => c.2 rest
      rw [first] at second
      exact ⟨fun c => absurd rest c.2, fun _ => second.2 fun c => c.2 rest⟩
    · by_cases hw : which n
      · have first := (h.frame.1 n).1 ⟨hw, rest⟩
        rw [first, remaining_cutFrom] at second
        exact ⟨fun _ => second.2 fun c => c.2 rfl, fun c => absurd ⟨.inl hw, rest⟩ c⟩
      · have first := (h.frame.1 n).2 fun c => hw c.1
        rw [first] at second
        exact ⟨fun c => second.1 ⟨c.1.resolve_left hw, rest⟩, fun c => second.2 fun d => c ⟨.inr d.1, rest⟩⟩
  · obtain ⟨a, aNodup, aMem, aSum⟩ := h.frame.2 i
    obtain ⟨b, bNodup, bMem, bSum⟩ := k.frame.2 i
    rw [h.time] at bMem
    have bMem' : ∀ n, n ∈ b ↔ other n ∧ ¬ which n ∧ i.val ∈ remaining s.time.slice (s.loads.get n) :=
      fun n => (bMem n).trans (and_congr_right fun _ => h.mem_remaining_iff n i.val)
    refine ⟨a ++ b, List.nodup_append.mpr ⟨aNodup, bNodup, fun n ha m hb e => ?_⟩, fun n => ?_, ?_⟩
    · subst e
      exact ((bMem' n).mp hb).2.1 ((aMem n).mp ha).1
    · rw [List.mem_append, aMem, bMem']
      tauto
    · have placed : (b.map fun n => (t.loads.get n).placed) = b.map fun n => (s.loads.get n).placed :=
        List.map_congr_left fun n _ => h.placed n
      rw [bSum, aSum, placed, List.map_append, List.sum_append, Nat.sub_sub]

/-- One cut (R37). -/
theorem cutLoad_cut (n : LoadId) (s : State) : Cut (· = n) s (cutLoad n s) := by
  refine ⟨cutLoad_touches n s, ?_, fun m => ⟨?_, fun h => ?_⟩, fun i => ?_⟩
  · simp only [cutLoad]
    split <;> rfl
  · rintro ⟨rfl, some⟩
    simp only [cutLoad, if_neg some]
    exact Table.get_set_same _ _ _
  · by_cases hm : m = n
    · subst hm
      have none : remaining s.time.slice (s.loads.get m) = [] := not_not.mp fun some => h ⟨rfl, some⟩
      simp only [cutLoad, if_pos none]
    · exact cutLoad_other s hm
  · by_cases on : i.val ∈ remaining s.time.slice (s.loads.get n)
    · refine ⟨[n], List.nodup_singleton n, fun m => ?_, ?_⟩
      · rw [List.mem_singleton]
        exact ⟨fun e => ⟨e, e ▸ on⟩, And.left⟩
      · simp only [cutLoad, if_neg (List.ne_nil_of_mem on), lowerSums, Table.get_build, if_pos on, List.map_singleton,
          List.sum_singleton]
    · refine ⟨[], List.nodup_nil, fun m => ⟨fun h => absurd h List.not_mem_nil, ?_⟩, ?_⟩
      · rintro ⟨rfl, k⟩
        exact absurd k on
      · simp only [cutLoad]
        split
        · rfl
        · simp only [lowerSums, Table.get_build, if_neg on, List.map_nil, List.sum_nil, Nat.sub_zero]

/-- A walk that cuts those of the load points it meets that a test selects, which no cut changes. -/
theorem foldl_cut {f : State → LoadId → State} {test : State → LoadId → Prop}
    (kept : ∀ {which s t}, Cut which s t → ∀ n, test t n ↔ test s n)
    (step : ∀ s n, Cut (fun m => m = n ∧ test s m) s (f s n)) (ns : List LoadId) (s : State) :
    Cut (fun m => m ∈ ns ∧ test s m) s (ns.foldl f s) := by
  induction ns generalizing s with
  | nil => exact (Cut.none s).congr fun n => by simp
  | cons n ns ih =>
    exact ((step s n).trans (ih (f s n))).congr fun m => by rw [kept (step s n)]; simp [or_and_right]

/-- Every load point of a list cut (R38). -/
theorem cutLoads_cut (ns : List LoadId) (s : State) : Cut (· ∈ ns) s (cutLoads ns s) :=
  (foldl_cut (test := fun _ _ => True) (fun _ _ => Iff.rfl) (fun s n => (cutLoad_cut n s).congr fun m => by simp) ns s).congr
    fun m => by simp

/-! ### The slice sums -/

/-- Every slice sum to come is what the load points carry on it. -/
def SumsAgree (s : State) : Prop := ∀ i : Fin 100, s.time.slice ≤ i.val → slicePower s i.val = s.alloc.sums.get i

theorem slicePower_eq_sum (s : State) (i : Nat) :
    slicePower s i = ∑ n : LoadId, if i ∈ (s.loads.get n).onSlices then (s.loads.get n).placed else 0 :=
  (Fin.sum_univ_def _).symm

/-- R37: a cut takes out of each sum what the cut load points carry. -/
theorem Cut.sumsAgree (h : Cut which s w) (agree : SumsAgree s) : SumsAgree w := by
  intro i hi
  rw [h.time] at hi
  obtain ⟨out, nodup, mem, sum⟩ := h.frame.2 i
  have outSum : (out.map fun n => (s.loads.get n).placed).sum = ∑ n : LoadId, if n ∈ out then (s.loads.get n).placed else 0 := by
    rw [← List.sum_toFinset _ nodup, ← Finset.sum_ite_mem_eq]
    simp only [List.mem_toFinset]
  have parts : slicePower w i.val + (out.map fun n => (s.loads.get n).placed).sum = slicePower s i.val := by
    rw [outSum, slicePower_eq_sum, slicePower_eq_sum, ← Finset.sum_add_distrib]
    refine Finset.sum_congr rfl fun n _ => ?_
    have on := h.mem_remaining_iff n i.val
    simp only [mem_remaining, hi, and_true] at on mem
    rw [h.placed]
    by_cases hs : i.val ∈ (s.loads.get n).onSlices <;> by_cases hw : which n <;> simp [on, mem, hs, hw]
  rw [sum, ← agree i hi]
  omega

end

/-! ### The discarded frame -/

/-- R39: every load point is cut and the sums to come are 0. -/
theorem discardFrame_cut (s : State) : Cut (fun _ => True) s (cutLoads allLoads s) :=
  (cutLoads_cut allLoads s).congr fun n => iff_true_intro (List.mem_finRange n)

theorem discardFrame_loads (s : State) : (discardFrame s).loads = (cutLoads allLoads s).loads := by
  simp only [discardFrame]

theorem discardFrame_time (s : State) : (discardFrame s).time = s.time := (discardFrame_touches s).time

theorem discardFrame_alloc (s : State) : (discardFrame s).alloc = { s.alloc with
    sums := Table.build 100 fun i => if s.time.slice ≤ i.val then 0 else (cutLoads allLoads s).alloc.sums.get i } := by
  have h := discardFrame_cut s
  simp only [discardFrame, h.time]
  rw [h.alloc]

theorem discardFrame_sums (s : State) (i : Fin 100) :
    (discardFrame s).alloc.sums.get i = if s.time.slice ≤ i.val then 0 else s.alloc.sums.get i := by
  rw [discardFrame_alloc, Table.get_build]
  split
  · rfl
  · next early =>
    obtain ⟨out, -, mem, sum⟩ := (discardFrame_cut s).frame.2 i
    have none : out = [] := List.eq_nil_iff_forall_not_mem.mpr fun n hn => early (mem_remaining.mp ((mem n).mp hn).2).2
    rw [sum, none]
    rfl

/-- Nothing is to come of a discarded frame. -/
theorem remaining_discardFrame (s : State) (n : LoadId) : remaining s.time.slice ((discardFrame s).loads.get n) = [] :=
  List.eq_nil_iff_forall_not_mem.mpr fun i hi => by
    rw [discardFrame_loads] at hi
    exact (((discardFrame_cut s).mem_remaining_iff n i).mp hi).1 trivial

/-! ### The walk of a lowered limit -/

/-- A load point that the walk cuts: it is on in a slice to come above the limit in force (R34). -/
def AboveLimit (s : State) (n : LoadId) : Prop :=
  ∃ i : Fin 100, s.time.slice ≤ i.val ∧ i.val ∈ (s.loads.get n).onSlices ∧ s.alloc.limit < s.alloc.sums.get i

theorem walkStep_of_above {s : State} {n : LoadId} (h : AboveLimit s n) : walkStep s n = cutLoad n s := by
  obtain ⟨i, hi, on, above⟩ := h
  have out : withinLimit s = false := by
    simp only [withinLimit, List.all_eq_false]
    exact ⟨i, List.mem_finRange i, by simp [hi, above]⟩
  have hit : (allSlices.any fun i =>
      decide (i.val ∈ remaining s.time.slice (s.loads.get n)) && decide (s.alloc.limit < s.alloc.sums.get i)) = true := by
    simp only [List.any_eq_true]
    exact ⟨i, List.mem_finRange i, by simp [mem_remaining, on, hi, above]⟩
  simp only [walkStep, out, hit, Bool.false_eq_true, if_false, if_true]

theorem walkStep_of_not_above {s : State} {n : LoadId} (h : ¬ AboveLimit s n) : walkStep s n = s := by
  have miss : (allSlices.any fun i =>
      decide (i.val ∈ remaining s.time.slice (s.loads.get n)) && decide (s.alloc.limit < s.alloc.sums.get i)) = false := by
    simp only [List.any_eq_false]
    intro i _ hit
    simp only [Bool.and_eq_true, decide_eq_true_eq, mem_remaining] at hit
    exact h ⟨i, hit.1.2, hit.1.1, hit.2⟩
  simp only [walkStep, miss, Bool.false_eq_true, if_false, ite_self]

/-- A step of the walk cuts its load point or nothing. -/
theorem walkStep_cut (s : State) (n : LoadId) : ∃ which, Cut which s (walkStep s n) := by
  by_cases h : AboveLimit s n
  · exact ⟨_, walkStep_of_above h ▸ cutLoad_cut n s⟩
  · rw [walkStep_of_not_above h]
    exact ⟨_, Cut.none s⟩

theorem walk_cut (ns : List LoadId) (s : State) : ∃ which, Cut which s (ns.foldl walkStep s) := by
  induction ns generalizing s with
  | nil => exact ⟨_, Cut.none s⟩
  | cons n ns ih =>
    obtain ⟨_, first⟩ := walkStep_cut s n
    obtain ⟨_, rest⟩ := ih (walkStep s n)
    exact ⟨_, first.trans rest⟩

/-- The walk as the manual's steps. -/
theorem walk_limitWalk (ns : List LoadId) (s : State) : LimitWalk ns s (ns.foldl walkStep s) := by
  induction ns generalizing s with
  | nil => rfl
  | cons n ns ih =>
    refine ⟨walkStep s n, walkStep_of_not_above, fun above => ?_, ih _⟩
    rw [walkStep_of_above above]
    have cut := cutLoad_cut n s
    exact ⟨cut.placement, cut.alloc, cut.frame⟩

/-- Of a slice that the walk leaves above the limit, nothing of what it met is left on. -/
theorem walk_within (ns : List LoadId) (s : State) {i : Fin 100} (hi : s.time.slice ≤ i.val)
    (above : s.alloc.limit < (ns.foldl walkStep s).alloc.sums.get i) :
    ∀ n ∈ ns, i.val ∉ ((ns.foldl walkStep s).loads.get n).onSlices := by
  induction ns generalizing s with
  | nil => simp
  | cons n ns ih =>
    obtain ⟨_, first⟩ := walkStep_cut s n
    obtain ⟨_, rest⟩ := walk_cut ns (walkStep s n)
    rintro m hm
    rcases List.mem_cons.mp hm with rfl | hm
    · intro on
      have earlier := (rest.onSlices_sublist m).subset on
      rw [List.foldl_cons] at above
      by_cases hit : AboveLimit s m
      · rw [walkStep_of_above hit] at earlier
        have gone := (cutLoad_cut m s).mem_remaining_iff m i.val
        rw [mem_remaining] at gone
        exact (gone.mp ⟨earlier, hi⟩).1 rfl
      · rw [walkStep_of_not_above hit] at earlier rest above
        exact hit ⟨i, hi, earlier, above.trans_le (rest.sums_le i)⟩
    · exact ih (walkStep s n) (by rw [first.time]; exact hi) (by rw [first.limit]; exact above) m hm

/-- R34: where the sums are what the load points carry, all of them in the grant order, the walk leaves no slice to come above
the limit. -/
theorem reverseWalk_within {s : State} (agree : SumsAgree s)
    (ordered : ∀ n : LoadId, remaining s.time.slice (s.loads.get n) ≠ [] → n ∈ s.alloc.order) {i : Fin 100}
    (hi : s.time.slice ≤ i.val) : (reverseWalk s).alloc.sums.get i ≤ s.alloc.limit := by
  obtain ⟨_, cut⟩ := walk_cut s.alloc.order.reverse s
  by_contra above
  have off := walk_within s.alloc.order.reverse s hi (not_le.mp above)
  have zero : slicePower (reverseWalk s) i.val = 0 := by
    rw [slicePower_eq_sum]
    refine Finset.sum_eq_zero fun n _ => if_neg fun on => ?_
    have earlier : i.val ∈ remaining s.time.slice (s.loads.get n) := mem_remaining.mpr ⟨(cut.onSlices_sublist n).subset on, hi⟩
    exact off n (List.mem_reverse.mpr (ordered n (List.ne_nil_of_mem earlier))) on
  have sum := cut.sumsAgree agree i (by rw [cut.time]; exact hi)
  rw [show List.foldl walkStep s s.alloc.order.reverse = reverseWalk s from rfl, zero] at sum
  omega

/-! ### FEED_LIMIT and SHED_LEVEL -/

/-- R36: a raised level cuts a load point that it excludes and the old one did not. -/
def NewlyShed (old new : Nat) (s : State) (n : LoadId) : Prop :=
  shedExcludes new (s.loads.get n).effective (boundLevel s n) = true ∧
    shedExcludes old (s.loads.get n).effective (boundLevel s n) = false

theorem Cut.boundLevel {which : LoadId → Prop} {s w : State} (h : Cut which s w) (n : LoadId) :
    boundLevel w n = boundLevel s n := by
  simp only [Machine.boundLevel, boundZone, h.binding, h.placement.zones]

theorem Cut.newlyShed {which : LoadId → Prop} {s w : State} (h : Cut which s w) (old new : Nat) (n : LoadId) :
    NewlyShed old new w n ↔ NewlyShed old new s n := by
  simp only [NewlyShed, h.effective, h.boundLevel]

theorem shedLoad_cut (old new : Nat) (s : State) (n : LoadId) :
    Cut (fun m => m = n ∧ NewlyShed old new s m) s (shedLoad old new s n) := by
  unfold shedLoad
  dsimp only
  split
  · next h =>
    have shed : NewlyShed old new s n := by simpa [NewlyShed] using h
    refine (cutLoad_cut n s).congr fun m => ⟨?_, And.left⟩
    rintro rfl
    exact ⟨rfl, shed⟩
  · next h =>
    refine (Cut.none s).congr fun m => ⟨False.elim, ?_⟩
    rintro ⟨rfl, shed⟩
    exact h (by simpa [NewlyShed] using shed)

theorem shedLoads_cut (old new : Nat) (s : State) :
    Cut (NewlyShed old new s) s (allLoads.foldl (shedLoad old new) s) :=
  (foldl_cut (test := NewlyShed old new) (fun h n => h.newlyShed old new n) (shedLoad_cut old new) allLoads s).congr
    fun n => and_iff_right (List.mem_finRange n)

/-- The shed level at which a load point is excluded first, 4 where none excludes it (R24). -/
def firstShed (s : State) (n : LoadId) : Nat :=
  match (s.loads.get n).effective with
  | .deferrable => 1
  | .staged => if boundLevel s n ≤ 1 then 2 else 3
  | .essential | .lockout => 4

theorem shedExcludes_iff {v : Nat} (hv : v ≤ 3) (s : State) (n : LoadId) :
    shedExcludes v (s.loads.get n).effective (boundLevel s n) = true ↔ firstShed s n ≤ v := by
  unfold shedExcludes firstShed
  cases (s.loads.get n).effective with
  | essential => simp; omega
  | staged =>
    dsimp only
    split
    · next low => simp [low]; omega
    · next high => simp [high]
  | deferrable => simp
  | lockout => simp; omega

theorem newlyShed_iff {old new : Nat} (hn : new ≤ 3) (ho : old ≤ 3) (s : State) (n : LoadId) :
    NewlyShed old new s n ↔ old < firstShed s n ∧ firstShed s n ≤ new := by
  rw [NewlyShed, shedExcludes_iff hn, ← Bool.not_eq_true, shedExcludes_iff ho]
  omega

/-- R34: a lowered limit leaves every slice to come within it, and the sums what the load points carry. -/
theorem reverseWalk_power {s : State} {v : Nat} (law : powerLaw s) {t : State} (loads : t.loads = s.loads) (time : t.time = s.time)
    (alloc : t.alloc = { s.alloc with limitSetting := v, limit := v }) (i : Fin 100) (hi : s.time.slice ≤ i.val) :
    (reverseWalk t).alloc.sums.get i ≤ v ∧ slicePower (reverseWalk t) i.val = (reverseWalk t).alloc.sums.get i := by
  obtain ⟨sums, ordered, -, -⟩ := law
  have agree : SumsAgree t := fun j hj => by
    rw [alloc, slicePower, loads]
    exact (sums j (by rwa [time] at hj)).1
  have within := reverseWalk_within agree (fun n some => by
    rw [alloc]
    rw [time, loads] at some
    exact (ordered n some).1) (i := i) (by rwa [time])
  rw [alloc] at within
  obtain ⟨_, cut⟩ := walk_cut t.alloc.order.reverse t
  exact ⟨within, cut.sumsAgree agree i (by rwa [cut.time, time])⟩

/-- Settles O17: a lowered limit by the manual's walk, a raised shed level by the cuts of one pass over the load points. -/
theorem limitAndShedLevelActAtOnce : Obligations.LimitAndShedLevelActAtOnce := by
  refine ⟨fun t v s judged => ?_, fun t v s judged => ?_⟩
  · rw [exec_of_request (body := feedLimit v) rfl, command_judged judged]
    refine ⟨fun above => ?_, fun within stored => ?_, fun within lowered => ?_⟩
    · rw [feedLimit, if_pos above, placeAnswer_refuse]
    · rw [feedLimit, if_neg (Nat.not_lt.mpr within)]
      simp only [heard_alloc, if_neg (Nat.not_lt.mpr stored), placeAnswer_accept]
    · rw [feedLimit, if_neg (Nat.not_lt.mpr within)]
      simp only [heard_alloc, if_pos lowered, placeAnswer_accept]
      obtain ⟨_, cut⟩ := walk_cut s.alloc.order.reverse
        { heard t s with alloc := { s.alloc with limitSetting := v, limit := v } }
      refine ⟨_, rfl, ?_, cut.alloc, walk_limitWalk _ _, fun law i hi => ?_⟩
      · exact PlacementOnly.trans ⟨_, _, rfl⟩ (reverseWalk_touches _)
      · exact reverseWalk_power law (t := { heard t s with alloc := { s.alloc with limitSetting := v, limit := v } })
          (heard_loads t s) (heard_time t s) rfl i hi
  · rw [exec_of_request (body := shedLevel v) rfl, command_judged judged]
    refine ⟨fun above => ?_, fun within stored => ?_, fun within raised => ?_⟩
    · rw [shedLevel, if_pos above, placeAnswer_refuse]
    · rw [shedLevel, if_neg (Nat.not_lt.mpr within)]
      simp only [heard_alloc, if_neg (Nat.not_lt.mpr stored), placeAnswer_accept]
    · rw [shedLevel, if_neg (Nat.not_lt.mpr within)]
      simp only [heard_alloc, if_pos raised, placeAnswer_accept]
      have cut := shedLoads_cut s.alloc.shed v { heard t s with alloc := { s.alloc with shedSetting := v, shed := v } }
      generalize allLoads.foldl (shedLoad s.alloc.shed v)
        { heard t s with alloc := { s.alloc with shedSetting := v, shed := v } } = w at cut ⊢
      have selected : ∀ n, NewlyShed s.alloc.shed v { heard t s with alloc := { s.alloc with shedSetting := v, shed := v } } n ↔
          s.alloc.shed < firstShed s n ∧ firstShed s n ≤ v := fun n => by
        rw [← newlyShed_iff within (by omega)]
        simp only [NewlyShed, boundLevel, boundZone, heard_loads, heard_zones]
      refine ⟨w, rfl, PlacementOnly.trans ⟨_, _, rfl⟩ cut.placement, cut.alloc, ?_⟩
      have frame := (cut.congr selected).frame
      simp only [FrameCut, heard_loads, heard_time] at frame
      exact frame

/-! ### LOAD_SET -/

/-- Settles O13: the cut goes by the rating that the load point was placed with, which LOAD_SET leaves. -/
theorem loadSetStoresAndCuts : Obligations.LoadSetStoresAndCuts := by
  intro t load rating s listening
  rw [exec_of_request (body := loadSet load rating) rfl, command_listening listening]
  refine ⟨fun denied => if_pos denied ▸ rfl, fun permitted out => ?_, fun n permitted hn within => ?_⟩
  · rw [if_neg (not_not.mpr permitted), loadSet]
    split
    · rfl
    · next n hn =>
      have small : load ≤ 47 := by
        have := eq_of_index? hn
        omega
      rw [if_pos (by omega)]
      rfl
  · subst hn
    rw [if_neg (not_not.mpr permitted), loadSet, index?_val]
    have rest : remaining s.time.slice { s.loads.get n with rating := rating } = remaining s.time.slice (s.loads.get n) := rfl
    simp only [if_neg (Nat.not_lt.mpr within), placeAnswer_accept, cutLoad, State.setLoad, Table.get_set_same, heard_time,
      heard_loads, heard_alloc, Table.set_set, lowerSums, rest]
    split <;> rfl

end Sys2Proof.Machine
end

section
/-! PROOF. The class map: what every load point is after a map command, and the four map commands (R13 to R17). -/

namespace Sys2Proof.Machine

/-! ### Every load point resolved anew (R13) -/

/-- A change of the map that puts a load point in LOCKOUT. -/
def Locks (m : ClassMap) (s : State) (n : LoadId) : Prop :=
  (resolveClass m n).1 = .lockout ∧ (s.loads.get n).effective ≠ .lockout

/-- A load point's record after it is resolved, apart from the cut that it may take. -/
def LoadPoint.resolvedBy (m : ClassMap) (n : LoadId) (l : LoadPoint) : LoadPoint :=
  { l with
    resolved := (resolveClass m n).1
    deciding := (resolveClass m n).2
    effective := if (resolveClass m n).1 = .lockout then .lockout else l.effective }

/-- The cut that a load point takes as it is resolved. -/
def lockCut (m : ClassMap) (n : LoadId) (s : State) : State :=
  if (resolveClass m n).1 = .lockout ∧ (s.loads.get n).effective ≠ .lockout then cutLoad n s else s

theorem lockCut_cut (m : ClassMap) (n : LoadId) (s : State) : Cut (fun k => k = n ∧ Locks m s k) s (lockCut m n s) := by
  unfold lockCut
  split
  · next locks =>
    refine (cutLoad_cut n s).congr fun k => ⟨?_, And.left⟩
    rintro rfl
    exact ⟨rfl, locks⟩
  · next stays =>
    refine (Cut.none s).congr fun k => ⟨False.elim, ?_⟩
    rintro ⟨rfl, locks⟩
    exact stays locks

/-- The cut of one load point depends on its own record and on the sums alone. -/
theorem lockCut_congr {m : ClassMap} {n : LoadId} {s t : State} (load : t.loads.get n = s.loads.get n)
    (alloc : t.alloc = s.alloc) (time : t.time = s.time) :
    (lockCut m n t).loads.get n = (lockCut m n s).loads.get n ∧ (lockCut m n t).alloc = (lockCut m n s).alloc := by
  unfold lockCut
  rw [load]
  split
  · simp only [cutLoad, load, alloc, time]
    split
    · exact ⟨load, alloc⟩
    · exact ⟨by simp, rfl⟩
  · exact ⟨load, alloc⟩

theorem resolveLoad_eq (n : LoadId) (s : State) : resolveLoad n s = { lockCut s.map n s with
    loads := s.loads.set n (((lockCut s.map n s).loads.get n).resolvedBy s.map n) } := by
  unfold resolveLoad lockCut LoadPoint.resolvedBy
  dsimp only
  split
  · next locks =>
    have rest : ∀ l : LoadPoint, remaining s.time.slice { l with
        resolved := .lockout, deciding := (resolveClass s.map n).2, effective := .lockout } = remaining s.time.slice l :=
      fun _ => rfl
    by_cases none : remaining s.time.slice (s.loads.get n) = []
    · simp only [cutLoad, State.setLoad, Table.get_set_same, rest, locks.1, if_true, none]
    · simp only [cutLoad, State.setLoad, Table.get_set_same, rest, locks.1, if_true, none, if_false, Table.set_set]
  · next stays =>
    have same : (if (resolveClass s.map n).1 = .lockout then .lockout else (s.loads.get n).effective) =
        (s.loads.get n).effective := by
      split
      · next locked => exact (not_not.mp fun open_ => stays ⟨locked, open_⟩).symm
      · rfl
    rw [same]
    rfl

/-- After some load points are resolved in turn, those that came to be locked are cut and each has its new class. -/
theorem resolveLoads_eq (ns : List LoadId) (nodup : ns.Nodup) (s : State) :
    ∃ u, Cut (fun n => n ∈ ns ∧ Locks s.map s n) s u ∧
      ns.foldl (fun s n => resolveLoad n s) s = { s with
        loads := Table.build 48 fun n => if n ∈ ns then (u.loads.get n).resolvedBy s.map n else u.loads.get n
        alloc := u.alloc } := by
  induction ns using List.reverseRecOn with
  | nil =>
    refine ⟨s, (Cut.none s).congr fun n => by simp, ?_⟩
    have same : (Table.build 48 fun n => s.loads.get n) = s.loads := Table.ext fun n => Table.get_build _ n
    simp only [List.foldl_nil, List.not_mem_nil, if_false, same]
  | append_singleton ns n ih =>
    rw [List.nodup_append] at nodup
    obtain ⟨inner, -, apart⟩ := nodup
    have fresh : n ∉ ns := fun h => apart n h n List.mem_cons_self rfl
    obtain ⟨u, cut, eq⟩ := ih inner
    refine ⟨lockCut s.map n u, (cut.trans (lockCut_cut s.map n u)).congr fun m => ?_, ?_⟩
    · simp only [List.mem_append, List.mem_singleton, Locks, cut.effective]
      tauto
    · rw [List.foldl_append, eq, List.foldl_cons, List.foldl_nil, resolveLoad_eq]
      dsimp only
      have shared := lockCut_congr (m := s.map) (n := n) (s := u)
        (t := { s with
          loads := Table.build 48 fun n => if n ∈ ns then (u.loads.get n).resolvedBy s.map n else u.loads.get n
          alloc := u.alloc }) (by simp [fresh]) rfl cut.time.symm
      have kept := (lockCut_cut s.map n { s with
          loads := Table.build 48 fun n => if n ∈ ns then (u.loads.get n).resolvedBy s.map n else u.loads.get n
          alloc := u.alloc }).placement
      generalize lockCut s.map n { s with
          loads := Table.build 48 fun n => if n ∈ ns then (u.loads.get n).resolvedBy s.map n else u.loads.get n
          alloc := u.alloc } = v at shared kept ⊢
      obtain ⟨lo, a, rfl⟩ := kept
      dsimp only at shared ⊢
      rw [shared.1, shared.2]
      have loads : ((Table.build 48 fun n => if n ∈ ns then (u.loads.get n).resolvedBy s.map n else u.loads.get n).set n
          (((lockCut s.map n u).loads.get n).resolvedBy s.map n)) = Table.build 48 fun m =>
            if m ∈ ns ++ [n] then ((lockCut s.map n u).loads.get m).resolvedBy s.map m else (lockCut s.map n u).loads.get m := by
        refine Table.ext fun m => ?_
        rw [Table.get_set, Table.get_build, Table.get_build]
        by_cases hm : m = n
        · subst hm
          simp
        · have other := ((lockCut_cut s.map n u).frame.1 m).2 fun h => hm h.1.1
          simp [hm, other]
      rw [loads]

/-- R13: what a map command leaves. -/
theorem changeMap_eq (m : ClassMap) (s : State) :
    ∃ u, Cut (Locks m s) s u ∧ changeMap m s = { s with
      map := m, loads := Table.build 48 fun n => (u.loads.get n).resolvedBy m n, alloc := u.alloc } := by
  obtain ⟨u, cut, eq⟩ := resolveLoads_eq allLoads (List.nodup_finRange 48) { s with map := m }
  have all : ∀ n : LoadId, n ∈ allLoads := List.mem_finRange
  obtain ⟨⟨lo, a, rfl⟩, alloc, frame⟩ := cut.congr (other := Locks m s) fun n => and_iff_right (all n)
  refine ⟨{ s with loads := lo, alloc := a }, ⟨⟨_, _, rfl⟩, alloc, frame⟩, ?_⟩
  simp only [all, if_true] at eq
  exact eq

/-! ### The map commands (R15 to R17) -/

theorem LoadClass.ofCode?_code (c : LoadClass) : LoadClass.ofCode? c.code = some c := by cases c <;> rfl

theorem LoadClass.code_of_ofCode? {c : Nat} {k : LoadClass} (h : LoadClass.ofCode? c = some k) : c = k.code := by
  unfold LoadClass.ofCode? at h
  split at h <;> cases h <;> rfl

theorem LoadClass.code_le (k : LoadClass) : k.code ≤ 3 := by cases k <;> decide

theorem mapFixed_outOfRange {n c : Nat} (out : 15 < n ∨ 3 < c) (s : State) : mapFixed n c s = refuse .range s := by
  unfold mapFixed
  split
  · next e k he hk =>
    have := eq_of_index? he
    have := LoadClass.code_of_ofCode? hk ▸ k.code_le
    omega
  · rfl

theorem mapWindow_outOfRange {n c : Nat} (out : 5 < n ∨ 3 < c) (w x v : Nat) (s : State) :
    mapWindow n w x c v s = refuse .range s := by
  unfold mapWindow
  split
  · next e k he hk =>
    have := eq_of_index? he
    have := LoadClass.code_of_ofCode? hk ▸ k.code_le
    omega
  · rfl

theorem mapDefault_outOfRange {c : Nat} (out : 3 < c) (s : State) : mapDefault c s = refuse .range s := by
  unfold mapDefault
  split
  · next k hk =>
    have := LoadClass.code_of_ofCode? hk ▸ k.code_le
    omega
  · rfl

theorem settingOr_zero (f : Nat → Bool) : settingOr f 0 = false := rfl
theorem settingOr_one (f : Nat → Bool) : settingOr f 1 = true := rfl

/-- R190: 0 and 1 give a setting byte its two values. -/
theorem settingOr_gives (f : Nat → Bool) (b : Nat) :
    (b = 0 → settingOr f b = false) ∧ (b = 1 → settingOr f b = true) := by
  constructor <;> rintro rfl
  · exact settingOr_zero f
  · exact settingOr_one f

/-- Settles O15: each command's own operands, and then the walk over the load points. -/
theorem mapCommandsResolveEveryLoadPoint : Obligations.MapCommandsResolveEveryLoadPoint := by
  refine ⟨fun t s judged => ⟨fun e c => ?_, fun w base mask c v => ⟨_, settingOr_gives Config.otherValid v, ?_⟩, fun c => ?_,
    fun a b => ⟨_, _, settingOr_gives Config.otherMapEnable a, settingOr_gives Config.otherFixedEnable b, ?_⟩,
    fun n c v w x => ⟨fun out => ?_, fun out => ?_, fun out => ?_⟩⟩, fun m s => ?_⟩
  · rw [exec_of_request (body := mapFixed e.val c.code) rfl, command_judged judged, mapFixed, index?_val,
      LoadClass.ofCode?_code]
    simp only [placeAnswer_accept, heard_map]
  · rw [exec_of_request (body := mapWindow w.val base mask c.code v) rfl, command_judged judged, mapWindow, index?_val,
      LoadClass.ofCode?_code]
    simp only [placeAnswer_acceptClamped, heard_map, Bool.decide_or]
  · rw [exec_of_request (body := mapDefault c.code) rfl, command_judged judged, mapDefault, LoadClass.ofCode?_code]
    simp only [placeAnswer_accept, heard_map]
  · rw [exec_of_request (body := mapEnable a b) rfl, command_judged judged, mapEnable]
    simp only [placeAnswer_accept, heard_map]
  · rw [exec_of_request (body := mapFixed n c) rfl, command_judged judged, mapFixed_outOfRange out, placeAnswer_refuse]
  · rw [exec_of_request (body := mapWindow n w x c v) rfl, command_judged judged, mapWindow_outOfRange out, placeAnswer_refuse]
  · rw [exec_of_request (body := mapDefault c) rfl, command_judged judged, mapDefault_outOfRange out, placeAnswer_refuse]
  · obtain ⟨u, cut, eq⟩ := changeMap_eq m s
    refine ⟨u, cut.frame, ?_, fun n => ?_⟩
    · rw [eq, ← cut.alloc]
    · rw [eq, Table.get_build, LoadPoint.resolvedBy, cut.effective]

end Sys2Proof.Machine
end

section
/-! PROOF. The allocation frame of a boundary: the grant order, the placement, and what of it the laws need (R23 to R29). -/

namespace Sys2Proof.Machine

/-! ### The grant order (R26) -/

theorem insertSorted_eq {α : Type} (before : α → α → Bool) (a : α) (l : List α) :
    insertSorted before a l = l.orderedInsert (fun x y => before x y = true) a := by
  induction l with
  | nil => rfl
  | cons b bs ih => simp only [insertSorted, List.orderedInsert_cons, ih]

theorem sortBy_eq {α : Type} (before : α → α → Bool) (l : List α) :
    sortBy before l = l.insertionSort fun x y => before x y = true := by
  induction l with
  | nil => rfl
  | cons a as ih => rw [sortBy, ih, insertSorted_eq, List.insertionSort_cons]

/-- R26: the four keys, one after the other. -/
theorem grantedBefore_iff (s : State) (a b : LoadId) : grantedBefore s a b = true ↔
    (s.loads.get a).effective.code < (s.loads.get b).effective.code ∨
      ((s.loads.get a).effective.code = (s.loads.get b).effective.code ∧ (boundLevel s b < boundLevel s a ∨
        (boundLevel s a = boundLevel s b ∧ ((s.loads.get b).deficit < (s.loads.get a).deficit ∨
          ((s.loads.get a).deficit = (s.loads.get b).deficit ∧ a.val ≤ b.val))))) := by
  unfold grantedBefore
  dsimp only
  split
  · simp; omega
  split
  · simp; omega
  split
  · simp; omega
  · simp; omega

theorem grantedBefore_total (s : State) (a b : LoadId) : grantedBefore s a b = true ∨ grantedBefore s b a = true := by
  simp only [grantedBefore_iff]
  omega

theorem grantedBefore_trans {s : State} {a b c : LoadId} (h : grantedBefore s a b = true) (k : grantedBefore s b c = true) :
    grantedBefore s a c = true := by
  rw [grantedBefore_iff] at h k ⊢
  omega

theorem grantOrder_perm (s : State) : (grantOrder s).Perm (allLoads.filter fun n => standing s n == .eligible) := by
  rw [grantOrder, sortBy_eq]
  exact List.perm_insertionSort _ _

theorem mem_grantOrder {s : State} {n : LoadId} : n ∈ grantOrder s ↔ standing s n = .eligible := by
  rw [(grantOrder_perm s).mem_iff, List.mem_filter, beq_iff_eq]
  exact and_iff_right (List.mem_finRange n)

theorem grantOrder_nodup (s : State) : (grantOrder s).Nodup :=
  (grantOrder_perm s).nodup_iff.mpr ((List.nodup_finRange 48).filter _)

theorem grantOrder_pairwise (s : State) : (grantOrder s).Pairwise fun a b => grantedBefore s a b = true := by
  rw [grantOrder, sortBy_eq]
  have total : Std.Total fun x y : LoadId => grantedBefore s x y = true := ⟨grantedBefore_total s⟩
  have transitive : IsTrans LoadId fun x y => grantedBefore s x y = true := ⟨fun _ _ _ => grantedBefore_trans⟩
  exact List.pairwise_insertionSort _ _

/-! ### Placement (R27, R28) -/

theorem scanOrder_eq (start : Fin 100) : scanOrder start = allSlices.drop start.val ++ allSlices.take start.val := by
  have hs := start.isLt
  refine List.ext_getElem (by simp [scanOrder, allSlices]) fun i h _ => Fin.ext ?_
  have hi : i < 100 := by simpa [scanOrder] using h
  rw [List.getElem_append]
  split
  · next early =>
    have : i < 100 - start.val := by simpa [allSlices] using early
    simp [scanOrder, allSlices, Fin.val_add]
    omega
  · next late =>
    have : 100 - start.val ≤ i := by simpa [allSlices] using late
    simp [scanOrder, allSlices, Fin.val_add]
    omega

/-- The slices that a load point is given over some sums, from a start pointer. -/
def takenSlices (limit placed requested : Nat) (sums : Fin 100 → Nat) (start : Fin 100) : List (Fin 100) :=
  ((allSlices.drop start.val ++ allSlices.take start.val).filter fun i => sums i + placed ≤ limit).take requested

theorem chosenSlices_eq (alloc : Allocator) (start : Fin 100) (rating requested : Nat) :
    chosenSlices alloc start rating requested = takenSlices alloc.limit rating requested alloc.sums.get start := by
  rw [chosenSlices, scanOrder_eq]
  rfl

section
variable {limit placed requested : Nat} {sums : Fin 100 → Nat} {start i : Fin 100}

theorem room_of_mem_takenSlices (h : i ∈ takenSlices limit placed requested sums start) : sums i + placed ≤ limit := by
  have := (List.take_sublist _ _).subset h
  simpa using (List.mem_filter.mp this).2

theorem takenSlices_nodup : (takenSlices limit placed requested sums start).Nodup := by
  refine List.Nodup.sublist ((List.take_sublist _ _).trans List.filter_sublist) ?_
  have parts : (allSlices.take start.val ++ allSlices.drop start.val).Nodup := by
    rw [List.take_append_drop]
    exact List.nodup_finRange 100
  exact (List.perm_append_comm.nodup_iff).mp parts

theorem length_takenSlices_le : (takenSlices limit placed requested sums start).length ≤ requested :=
  List.length_take_le _ _

/-- A load point that is given fewer slices than it requests has taken every slice with room. -/
theorem mem_takenSlices_of_short (short : (takenSlices limit placed requested sums start).length < requested)
    (room : sums i + placed ≤ limit) : i ∈ takenSlices limit placed requested sums start := by
  unfold takenSlices at short ⊢
  rw [List.length_take] at short
  rw [List.take_of_length_le (by omega), List.mem_filter]
  refine ⟨?_, by simpa using room⟩
  rw [List.mem_append, or_comm, ← List.mem_append, List.take_append_drop]
  exact List.mem_finRange i

end

/-- The members of a list of slices, in ascending order. -/
def ascending (taken : List (Fin 100)) : List Nat := (allSlices.filter fun i => i ∈ taken).map (·.val)

theorem mem_ascending {taken : List (Fin 100)} {i : Fin 100} : i.val ∈ ascending taken ↔ i ∈ taken := by
  simp only [ascending, List.mem_map, List.mem_filter, decide_eq_true_eq]
  constructor
  · rintro ⟨j, ⟨-, hj⟩, e⟩
    exact Fin.ext e ▸ hj
  · exact fun h => ⟨i, ⟨List.mem_finRange i, h⟩, rfl⟩

theorem lt_of_mem_ascending {taken : List (Fin 100)} {i : Nat} (h : i ∈ ascending taken) : i < 100 := by
  obtain ⟨j, -, rfl⟩ := List.mem_map.mp h
  exact j.isLt

theorem ascending_nodup (taken : List (Fin 100)) : (ascending taken).Nodup :=
  ((List.nodup_finRange 100).filter _).map Fin.val_injective

theorem length_ascending {taken : List (Fin 100)} (nodup : taken.Nodup) : (ascending taken).length = taken.length := by
  rw [ascending, List.length_map]
  refine List.Perm.length_eq ((List.perm_ext_iff_of_nodup ((List.nodup_finRange 100).filter _) nodup).mpr fun i => ?_)
  rw [List.mem_filter, decide_eq_true_eq]
  exact and_iff_right (List.mem_finRange i)

/-- One load point placed: its grant and on-slices, and the sums. -/
theorem placeLoad_eq (s : State) (start : Fin 100) (n : LoadId) :
    let l := s.loads.get n
    let taken := takenSlices s.alloc.limit l.placed l.requested s.alloc.sums.get start
    placeLoad (s, start) n =
      ({ s with
          loads := s.loads.set n { l with granted := taken.length, onSlices := ascending taken }
          alloc := { s.alloc with
            sums := Table.build 100 fun i => if i ∈ taken then s.alloc.sums.get i + l.placed else s.alloc.sums.get i } },
        match taken.getLast? with | some x => x + 1 | none => start) := by
  simp only [placeLoad, chosenSlices_eq]
  rfl

/-- A frame in which load points stand as a state's placement has left them. -/
structure Matches (w p : State) : Prop where
  placed : ∀ n, (w.loads.get n).placed = (p.loads.get n).placed
  requested : ∀ n, (w.loads.get n).requested = (p.loads.get n).requested
  granted : ∀ n, (w.loads.get n).granted = (p.loads.get n).granted
  onSlices : ∀ n, (w.loads.get n).onSlices = (p.loads.get n).onSlices
  limit : w.alloc.limit = p.alloc.limit
  sums : w.alloc.sums = p.alloc.sums

/-- What placing some load points keeps of the state. -/
theorem placeLoads_keeps (ns : List LoadId) (acc : State × Fin 100) :
    let w := (ns.foldl placeLoad acc).1
    (∃ lo sums, w = { acc.1 with loads := lo, alloc := { acc.1.alloc with sums := sums } }) ∧
      (∀ n, ∃ g o, w.loads.get n = { acc.1.loads.get n with granted := g, onSlices := o }) ∧
      ∀ n, n ∉ ns → w.loads.get n = acc.1.loads.get n := by
  induction ns generalizing acc with
  | nil => exact ⟨⟨_, _, rfl⟩, fun n => ⟨_, _, rfl⟩, fun n _ => rfl⟩
  | cons m ns ih =>
    obtain ⟨s, start⟩ := acc
    obtain ⟨⟨lo, sums, shape⟩, keeps, others⟩ := ih (placeLoad (s, start) m)
    rw [placeLoad_eq] at shape keeps others
    rw [List.foldl_cons, placeLoad_eq]
    refine ⟨⟨lo, sums, shape⟩, fun n => ?_, fun n hn => ?_⟩
    · obtain ⟨g, o, e⟩ := keeps n
      rw [e]
      dsimp only
      rw [Table.get_set]
      split
      · next h => exact ⟨g, o, by rw [h]⟩
      · exact ⟨g, o, rfl⟩
    · rw [List.mem_cons, not_or] at hn
      rw [others n hn.2]
      exact Table.get_set_ne _ _ hn.1

/-- R27 and R28: the placement is the manual's, load point by load point. -/
theorem placedInTurn {w : State} (ns : List LoadId) (nodup : ns.Nodup) (s : State) (start : Fin 100)
    (same : Matches w (ns.foldl placeLoad (s, start)).1) : PlacedInTurn w ns s.alloc.sums.get start := by
  induction ns generalizing s start with
  | nil => exact fun i => congrArg (Table.get · i) same.sums
  | cons n ns ih =>
    obtain ⟨fresh, rest⟩ := List.nodup_cons.mp nodup
    rw [List.foldl_cons] at same
    have first := placeLoad_eq s start n
    obtain ⟨⟨lo, sums, shape⟩, -, others⟩ := placeLoads_keeps ns (placeLoad (s, start) n)
    have load := others n fresh
    have limit := same.limit
    have placed := same.placed n
    have requested := same.requested n
    have granted := same.granted n
    have onSlices := same.onSlices n
    have tail := ih rest (placeLoad (s, start) n).1 (placeLoad (s, start) n).2 same
    rw [shape] at limit
    rw [load] at placed requested granted onSlices
    rw [first] at limit placed requested granted onSlices tail
    simp only [Table.get_set_same] at limit placed requested granted onSlices tail
    simp only [PlacedInTurn, limit, placed, requested, granted, onSlices]
    refine ⟨rfl, rfl, ?_⟩
    have sums : (Table.build 100 fun i =>
        if i ∈ takenSlices s.alloc.limit (s.loads.get n).placed (s.loads.get n).requested s.alloc.sums.get start then
          s.alloc.sums.get i + (s.loads.get n).placed else s.alloc.sums.get i).get = fun i =>
        if i ∈ takenSlices s.alloc.limit (s.loads.get n).placed (s.loads.get n).requested s.alloc.sums.get start then
          s.alloc.sums.get i + (s.loads.get n).placed else s.alloc.sums.get i := funext fun i => Table.get_build _ i
    rw [sums] at tail
    exact tail

/-! ### What a placement amounts to -/

/-- What a load point placed in a slice adds to its sum. -/
def carried (w : State) (i : Fin 100) (n : LoadId) : Nat :=
  if i.val ∈ (w.loads.get n).onSlices then (w.loads.get n).placed else 0

section
variable {w : State}

/-- The head of a placement, by the slices that it takes. -/
theorem placedInTurn_cons {n : LoadId} {ns : List LoadId} {sums : Fin 100 → Nat} {start : Fin 100}
    (h : PlacedInTurn w (n :: ns) sums start) :
    let taken := takenSlices w.alloc.limit (w.loads.get n).placed (w.loads.get n).requested sums start
    (w.loads.get n).granted = taken.length ∧ (w.loads.get n).onSlices = ascending taken ∧
      ∃ next, PlacedInTurn w ns (fun i => sums i + carried w i n) next := by
  obtain ⟨granted, onSlices, tail⟩ := h
  have on : (w.loads.get n).onSlices =
      ascending (takenSlices w.alloc.limit (w.loads.get n).placed (w.loads.get n).requested sums start) := onSlices
  have carries : (fun i => sums i + carried w i n) = fun i =>
      if i ∈ takenSlices w.alloc.limit (w.loads.get n).placed (w.loads.get n).requested sums start then
        sums i + (w.loads.get n).placed else sums i := by
    funext i
    simp only [carried, on, mem_ascending]
    split <;> rfl
  refine ⟨granted, on, ?_⟩
  rw [carries]
  exact ⟨_, tail⟩

/-- The sums after a placement are those before it and what the load points carry. -/
theorem PlacedInTurn.sums {ns : List LoadId} {sums : Fin 100 → Nat} {start : Fin 100} (h : PlacedInTurn w ns sums start)
    (i : Fin 100) : w.alloc.sums.get i = sums i + (ns.map (carried w i)).sum := by
  induction ns generalizing sums start with
  | nil => simpa using h i
  | cons n ns ih =>
    obtain ⟨-, -, _, tail⟩ := placedInTurn_cons h
    rw [ih tail, List.map_cons, List.sum_cons, Nat.add_assoc]

/-- R27: no sum that starts within the limit, or at 0, is left above it. -/
theorem PlacedInTurn.within {ns : List LoadId} {sums : Fin 100 → Nat} {start : Fin 100} (h : PlacedInTurn w ns sums start)
    {i : Fin 100} (before : sums i = 0 ∨ sums i ≤ w.alloc.limit) :
    w.alloc.sums.get i = 0 ∨ w.alloc.sums.get i ≤ w.alloc.limit := by
  induction ns generalizing sums start with
  | nil => exact h i ▸ before
  | cons n ns ih =>
    obtain ⟨-, onSlices, _, tail⟩ := placedInTurn_cons h
    refine ih tail ?_
    rw [carried, onSlices]
    split
    · next on => exact .inr (room_of_mem_takenSlices (mem_ascending.mp on))
    · exact before

/-- R27 and R28: each load point has as many slices as it is granted, within what it requests, each one of the frame. -/
theorem PlacedInTurn.load {ns : List LoadId} {sums : Fin 100 → Nat} {start : Fin 100} (h : PlacedInTurn w ns sums start)
    {n : LoadId} (hn : n ∈ ns) : (w.loads.get n).granted ≤ (w.loads.get n).requested ∧
      (w.loads.get n).onSlices.length = (w.loads.get n).granted ∧ (w.loads.get n).onSlices.Nodup ∧
      (∀ i ∈ (w.loads.get n).onSlices, i < 100) ∧
      ((w.loads.get n).granted < (w.loads.get n).requested → ∀ i : Fin 100, i.val ∉ (w.loads.get n).onSlices →
        w.alloc.limit < w.alloc.sums.get i + (w.loads.get n).placed) := by
  induction ns generalizing sums start with
  | nil => exact absurd hn List.not_mem_nil
  | cons m ns ih =>
    have final := h.sums
    obtain ⟨granted, onSlices, _, tail⟩ := placedInTurn_cons h
    rcases List.mem_cons.mp hn with rfl | hn
    · rw [granted, onSlices]
      refine ⟨length_takenSlices_le, length_ascending takenSlices_nodup, ascending_nodup _, fun i => lt_of_mem_ascending,
        fun short i off => ?_⟩
      have full := mt (mem_takenSlices_of_short short) (mt mem_ascending.mpr off)
      rw [final]
      omega
    · exact ih tail hn

end

end Sys2Proof.Machine
end

section
/-! PROOF. Notices in the order in which they are posted (R184), and what clearing events read of the state. -/

namespace Sys2Proof.Machine

/-! ### Blocks that an effect leaves -/

section
variable {bs : List Block} {s t : State} (h : Within bs s t)
include h

theorem Within.time (apart : Block.time ∉ bs) : t.time = s.time := h.same .time apart
theorem Within.loads (apart : Block.loads ∉ bs) : t.loads = s.loads := h.same .loads apart
theorem Within.map (apart : Block.map ∉ bs) : t.map = s.map := h.same .map apart
theorem Within.alloc (apart : Block.alloc ∉ bs) : t.alloc = s.alloc := h.same .alloc apart
theorem Within.feed (apart : Block.feed ∉ bs) : t.feed = s.feed := h.same .feed apart
theorem Within.scan (apart : Block.scan ∉ bs) : t.scan = s.scan := h.same .scan apart
theorem Within.zones (apart : Block.zones ∉ bs) : t.zones = s.zones := h.same .zones apart
theorem Within.permit (apart : Block.permit ∉ bs) : t.line.permit = s.line.permit := h.same .permit apart
theorem Within.racks (apart : Block.racks ∉ bs) : t.line.racks = s.line.racks := h.same .racks apart
theorem Within.lineSettings (apart : Block.lineSettings ∉ bs) : t.line.settings = s.line.settings := h.same .lineSettings apart
theorem Within.wares (apart : Block.wares ∉ bs) : t.wares = s.wares := h.same .wares apart
theorem Within.restock (apart : Block.restock ∉ bs) : t.restock = s.restock := h.same .restock apart
theorem Within.courses (apart : Block.courses ∉ bs) : t.courses = s.courses := h.same .courses apart
theorem Within.link (apart : Block.link ∉ bs) : t.link = s.link := h.same .link apart
theorem Within.ports (apart : Block.ports ∉ bs) : t.ports = s.ports := h.same .ports apart
theorem Within.desk (apart : Block.paging ∉ bs) : t.desk = s.desk := (h.same .paging apart).1
theorem Within.roster (apart : Block.paging ∉ bs) : t.roster = s.roster := (h.same .paging apart).2

end

/-! ### Notices -/

/-- What posting leaves of a port: its role and its slot, its notices and its overflow mark, and a queue of at most 16 (R184). -/
structure PortGrown (a b : Port) : Prop where
  role : b.role = a.role
  slot : b.slot = a.slot
  keeps : ∀ n ∈ a.notices, n ∈ b.notices
  longer : a.notices.length ≤ b.notices.length
  mark : a.overflow = true → b.overflow = true
  bounded : a.notices.length ≤ 16 → b.notices.length ≤ 16

theorem PortGrown.refl (a : Port) : PortGrown a a := ⟨rfl, rfl, fun _ h => h, le_rfl, id, id⟩

theorem PortGrown.trans {a b c : Port} (h : PortGrown a b) (k : PortGrown b c) : PortGrown a c :=
  ⟨k.role.trans h.role, k.slot.trans h.slot, fun n hn => k.keeps n (h.keeps n hn), h.longer.trans k.longer, k.mark ∘ h.mark,
    k.bounded ∘ h.bounded⟩

theorem Port.offer_grown (a : Port) (n : Notice) : PortGrown a (a.offer n) := by
  unfold Port.offer
  split
  · next room =>
    exact ⟨rfl, rfl, fun n hn => List.mem_append_left _ hn, by simp, id, fun _ => by
      rw [List.length_append]
      exact room⟩
  · exact ⟨rfl, rfl, fun _ hn => hn, le_rfl, fun _ => rfl, id⟩

/-- Nothing has left a notice queue or a slot, no overflow mark is cleared and no role changes. -/
def Grown (s w : State) : Prop := ∀ p : PortId, PortGrown (s.ports.get p) (w.ports.get p)

theorem Grown.refl (s : State) : Grown s s := fun _ => PortGrown.refl _

theorem Grown.trans {s t u : State} (h : Grown s t) (k : Grown t u) : Grown s u := fun p => (h p).trans (k p)

theorem Grown.of_ports {s w : State} (h : w.ports = s.ports) : Grown s w := fun p => by
  rw [h]
  exact PortGrown.refl _

theorem post_grown (k : NoticeKind) (o v : Nat) (s : State) : Grown s (post k o v s) := fun p => by
  rw [post_port]
  split
  · exact Port.offer_grown _ _
  · exact PortGrown.refl _

/-- R184: a notice that is posted stands in the queues of its subscribers or was dropped there. -/
theorem noticed_post (k : NoticeKind) (o v : Nat) {s u : State} (role : ∀ p, (u.ports.get p).role = (s.ports.get p).role)
    (clock : u.time.clock = s.time.clock) : Noticed k o v s (post k o v u) := fun p subscribed => by
  rw [post_port, role p, if_pos subscribed, clock]
  unfold Port.offer
  split
  · exact .inl (List.mem_append_right _ List.mem_cons_self)
  · next full => exact .inr ⟨Nat.not_lt.mp full, rfl⟩

theorem Noticed.grown {k : NoticeKind} {o v : Nat} {s u w : State} (h : Noticed k o v s u) (g : Grown u w) : Noticed k o v s w :=
  fun p subscribed => (h p subscribed).imp (fun mem => (g p).keeps _ mem) fun ⟨full, mark⟩ => ⟨full.trans (g p).longer, (g p).mark mark⟩

/-- A notice that stands in a later state was posted by a clock and to ports of the roles of the state before. -/
theorem Noticed.from {k : NoticeKind} {o v : Nat} {s t w : State} (h : Noticed k o v t w)
    (role : ∀ p, (t.ports.get p).role = (s.ports.get p).role) (clock : t.time.clock = s.time.clock) : Noticed k o v s w :=
  fun p subscribed => by
    have := h p (by rwa [role p])
    rwa [clock] at this

/-! ### What the paging operations read -/

/-- The page queue and the roster are the same. -/
def SameDesk (s t : State) : Prop := t.desk = s.desk ∧ t.roster = s.roster

section
variable {s t : State}

theorem SameDesk.refl (s : State) : SameDesk s s := ⟨rfl, rfl⟩
theorem SameDesk.symm (h : SameDesk s t) : SameDesk t s := ⟨h.1.symm, h.2.symm⟩
theorem SameDesk.trans {u : State} (h : SameDesk s t) (k : SameDesk t u) : SameDesk s u := ⟨k.1.trans h.1, k.2.trans h.2⟩

theorem SameDesk.of_within {bs : List Block} (h : Within bs s t) (apart : Block.paging ∉ bs) : SameDesk s t := h.same .paging apart

theorem SameDesk.staff (h : SameDesk s t) (e : EntryId) : t.staff e = s.staff e := by rw [State.staff, h.2]; rfl

theorem SameDesk.page? (h : SameDesk s t) (i : PageId) : t.page? i = s.page? i := by rw [State.page?, h.1]; rfl

theorem SameDesk.freeList (h : SameDesk s t) (r : StaffRole) : t.freeList r = s.freeList r := by rw [State.freeList, h.2]; rfl

theorem SameDesk.post (h : SameDesk s t) (k l : NoticeKind) (o v x y : Nat) :
    SameDesk (post k o v s) (post l x y t) := h

theorem SameDesk.posted (h : SameDesk s t) (k : NoticeKind) (o v : Nat) : SameDesk s (Machine.post k o v t) := h

theorem SameDesk.pushCancel (h : SameDesk s t) (r : CancelRequest) : SameDesk (pushCancel r s) (pushCancel r t) :=
  ⟨by simp only [Machine.pushCancel, h.1], h.2⟩

theorem SameDesk.closePage (h : SameDesk s t) (p : Page) (o : Outcome) : SameDesk (closePage p o s) (closePage p o t) :=
  ⟨by simp only [Machine.closePage, post_desk, dropReoffer, removePage, h.1], h.2⟩

theorem SameDesk.setStaff (h : SameDesk s t) (e : EntryId) (m : Staff) : SameDesk (s.setStaff e m) (t.setStaff e m) :=
  ⟨h.1, by simp only [State.setStaff, h.2]⟩

theorem SameDesk.setFree (h : SameDesk s t) (r : StaffRole) (l : List EntryId) : SameDesk (s.setFree r l) (t.setFree r l) :=
  ⟨h.1, by simp only [State.setFree, h.2]⟩

theorem SameDesk.updatePage (h : SameDesk s t) (i : PageId) (f : Page → Page) :
    SameDesk (updatePage i f s) (updatePage i f t) := ⟨by simp only [Machine.updatePage, h.1], h.2⟩

theorem SameDesk.becomeFree (h : SameDesk s t) (e : EntryId) : SameDesk (becomeFree e s) (becomeFree e t) := by
  unfold Machine.becomeFree
  dsimp only
  rw [h.staff, h.freeList]
  exact (h.setStaff _ _).setFree _ _

theorem SameDesk.becomeAssigned (h : SameDesk s t) (e : EntryId) (i : PageId) (q : Option PageId) :
    SameDesk (becomeAssigned e i q s) (becomeAssigned e i q t) :=
  ⟨h.1, by simp only [Machine.becomeAssigned, State.setStaff, h.staff, h.2]⟩

theorem SameDesk.release (h : SameDesk s t) (e : EntryId) : SameDesk (release e s) (release e t) := by
  unfold Machine.release
  rw [h.staff]
  split
  · exact (h.becomeAssigned _ _ _).updatePage _ _
  · exact h.becomeFree e

theorem SameDesk.retirePage (h : SameDesk s t) (p : Page) (o : Outcome) : SameDesk (retirePage p o s) (retirePage p o t) := by
  unfold Machine.retirePage
  split
  · rw [h.staff]
    exact ((h.pushCancel _).closePage p o).release _
  · exact (h.closePage p o).release _
  · dsimp only
    rw [(h.closePage p o).staff]
    exact (h.closePage p o).setStaff _ _
  · exact h.closePage p o

/-- A clearing event reads nothing of the state but the page queue and the roster. -/
theorem SameDesk.clearEvent (h : SameDesk s t) (c : Cause) (o : Nat) : SameDesk (clearEvent c o s) (clearEvent c o t) := by
  unfold Machine.clearEvent
  rw [h.1]
  split
  · exact h.retirePage _ _
  · exact h

end

/-- What a clearing event does to the ports is to post. -/
theorem release_ports (e : EntryId) (s : State) : (release e s).ports = s.ports := by
  unfold release
  split <;> rfl

theorem retirePage_grown (p : Page) (o : Outcome) (s : State) : Grown s (retirePage p o s) := by
  have closed : ∀ u : State, u.ports = s.ports → Grown s (closePage p o u) := fun u h =>
    (Grown.of_ports h).trans (post_grown _ _ _ _)
  unfold retirePage
  split
  · exact (closed _ rfl).trans (Grown.of_ports (release_ports _ _))
  · exact (closed _ rfl).trans (Grown.of_ports (release_ports _ _))
  · exact closed _ rfl
  · exact closed _ rfl

theorem clearEvent_grown (c : Cause) (o : Nat) (s : State) : Grown s (clearEvent c o s) := by
  unfold clearEvent
  split
  · exact retirePage_grown _ _ _
  · exact Grown.refl s

theorem raise_grown (c : Cause) (g : PageGroup) (o : Nat) (s : State) : Grown s (raise c g o s) := by
  simp only [raise]
  split
  · exact Grown.refl s
  split
  · exact Grown.of_ports rfl
  split
  · exact (post_grown _ _ _ _).trans (Grown.of_ports rfl)
  · exact post_grown _ _ _ _

theorem testPermit_grown (s : State) : Grown s (testPermit s) := by
  unfold testPermit
  split
  · exact Grown.refl s
  · exact (Grown.of_ports rfl).trans (post_grown _ _ _ _)

/-! ### A raised cause stands in the queue -/

theorem PagedOrFull.of_desk {cause object : Nat} {s t : State} (h : PagedOrFull cause object s) (same : t.desk = s.desk) :
    PagedOrFull cause object t := by
  unfold PagedOrFull at h ⊢
  rwa [same]

theorem addPage_paged (g : Fin 6) (c o : Nat) (r : StaffRole) (p : PageGroup) (k : Closure) (s : State) :
    PagedOrFull c o (addPage g c o r p k s) :=
  .inl ⟨_, List.mem_append_right _ List.mem_cons_self, rfl, rfl⟩

/-- R156 and R157: behind a raise its cause has a live page, or the queue is full. -/
theorem raise_paged (c : Cause) (g : PageGroup) (o : Nat) (s : State) : PagedOrFull c.code o (raise c g o s) := by
  simp only [raise]
  split
  · next live =>
    obtain ⟨p, hp, same⟩ := List.any_eq_true.mp live
    simp only [Bool.and_eq_true, beq_iff_eq] at same
    exact .inl ⟨p, hp, same⟩
  split
  · exact addPage_paged _ _ _ _ _ _ _
  · next full =>
    split
    · exact addPage_paged _ _ _ _ _ _ _
    · exact .inr (Nat.not_lt.mp full)

end Sys2Proof.Machine
end

section
/-! PROOF. Changes of the feed state: the staged move of a boundary, and the conversions of the feed channel (03). -/

namespace Sys2Proof.Machine

/-! ### A change of the feed state -/

section
variable {st : FeedState} {f : State → State} {s : State}

theorem testPermit_feed (s : State) : (testPermit s).feed = s.feed := by
  obtain ⟨⟨_, _, _, _, _, _, h⟩, -⟩ := testPermit_touches s
  rw [h]

theorem testPermit_time (s : State) : (testPermit s).time = s.time := by
  obtain ⟨⟨_, _, _, _, _, _, h⟩, -⟩ := testPermit_touches s
  rw [h]

theorem PagingOnly.feed {s t : State} (h : PagingOnly s t) : t.feed = s.feed := by
  obtain ⟨⟨_, _, _, rfl⟩, -⟩ := h
  rfl

theorem PagingOnly.time {s t : State} (h : PagingOnly s t) : t.time = s.time := by
  obtain ⟨⟨_, _, _, rfl⟩, -⟩ := h
  rfl

theorem PagingOnly.zones {s t : State} (h : PagingOnly s t) : t.zones = s.zones := by
  obtain ⟨⟨_, _, _, rfl⟩, -⟩ := h
  rfl

theorem enterFeedState_stock (hf : ∀ u, PagingOnly u (f u)) :
    StockOnly { s with feed := { s.feed with state := st } } (enterFeedState st f s) :=
  ((testPermit_touches _).trans (hf _).stock).trans (post_touches _ _ _ _).stock

theorem enterFeedState_feed (hf : ∀ u, PagingOnly u (f u)) : (enterFeedState st f s).feed = { s.feed with state := st } := by
  simp only [enterFeedState, post_feed, (hf _).feed, testPermit_feed]

/-- R50: a change of the feed state posts it with the reading. -/
theorem enterFeedState_noticed (hf : ∀ u, PagingOnly u (f u)) (grown : ∀ u, Grown u (f u)) :
    Noticed .feedState st.code s.feed.reading s (enterFeedState st f s) := by
  have before := (testPermit_grown { s with feed := { s.feed with state := st } }).trans (grown _)
  simp only [enterFeedState, (hf _).feed, testPermit_feed]
  exact noticed_post _ _ _ (fun p => (before p).1) (by rw [(hf _).time, testPermit_time])

theorem enterFeedState_grown (grown : ∀ u, Grown u (f u)) : Grown s (enterFeedState st f s) :=
  (((Grown.of_ports rfl).trans (testPermit_grown { s with feed := { s.feed with state := st } })).trans (grown _)).trans (post_grown _ _ _ _)

theorem enterFeedState_desk (hf : ∀ {t u}, SameDesk t u → SameDesk (f t) (f u)) : SameDesk (f s) (enterFeedState st f s) := by
  have tested : SameDesk s (testPermit { s with feed := { s.feed with state := st } }) :=
    SameDesk.of_within (s := { s with feed := { s.feed with state := st } }) (testPermit_within _) (by simp)
  exact (hf tested).posted _ _ _

end

/-! ### The staged move (R48, R49) -/

/-- The feed state after the staged move of a boundary. -/
def stagedState (f : Feed) : FeedState :=
  match f.state with
  | .restoreWait => if f.restoreDue then .stage1 else .restoreWait
  | .stage1 => .stage2
  | .stage2 | .normal => .normal
  | .sag => .sag

theorem id_paging (u : State) : PagingOnly u (id u) := PagingOnly.refl u

theorem Feed.eq_of_stays {f : Feed} {st : FeedState} {due : Bool} (state : f.state = st) (restoreDue : f.restoreDue = due) :
    f = { f with state := st, restoreDue := due } := by
  subst state restoreDue
  rfl

theorem stagedMove_feed (s : State) : (stagedMove s).feed = { s.feed with
    state := stagedState s.feed
    restoreDue := if s.feed.state = .restoreWait then false else s.feed.restoreDue } := by
  unfold stagedMove stagedState
  cases h : s.feed.state <;> dsimp only
  case sag => exact Feed.eq_of_stays h (by simp)
  case restoreWait =>
    split
    · rw [enterFeedState_feed id_paging]
      simp
    · next due => exact Feed.eq_of_stays h (by simpa using due)
  case stage1 =>
    rw [enterFeedState_feed id_paging]
    simp
  case stage2 =>
    rw [enterFeedState_feed fun u => clearEvent_touches _ _ u]
    simp
  case normal => exact Feed.eq_of_stays h (by simp)

/-- The staged move but for the feed state, which it may change on the way. -/
theorem stagedMove_stock (s : State) : ∃ f, StockOnly { s with feed := f } (stagedMove s) := by
  unfold stagedMove
  split
  · split
    · exact ⟨_, enterFeedState_stock id_paging⟩
    · exact ⟨_, StockOnly.refl s⟩
  · exact ⟨_, enterFeedState_stock id_paging⟩
  · exact ⟨_, enterFeedState_stock fun u => clearEvent_touches _ _ u⟩
  all_goals exact ⟨_, StockOnly.refl s⟩

theorem stagedMove_grown (s : State) : Grown s (stagedMove s) := by
  unfold stagedMove
  split
  · split
    · exact Grown.trans (t := { s with feed := { s.feed with restoreDue := false } }) (Grown.of_ports rfl)
        (enterFeedState_grown (f := id) Grown.refl)
    · exact Grown.refl s
  · exact enterFeedState_grown (f := id) Grown.refl
  · exact enterFeedState_grown (clearEvent_grown _ _)
  all_goals exact Grown.refl s

/-- Where the staged move leaves the feed state, it leaves everything. -/
theorem stagedMove_of_stays {s : State} (stays : stagedState s.feed = s.feed.state) : stagedMove s = s := by
  unfold stagedMove
  unfold stagedState at stays
  cases h : s.feed.state <;> simp only [h] at stays ⊢
  case restoreWait =>
    split
    · next due => simp [due] at stays
    · rfl
  all_goals cases stays

/-- R50: a staged move posts the feed state that it reaches. -/
theorem stagedMove_noticed {s : State} (moves : stagedState s.feed ≠ s.feed.state) :
    Noticed .feedState (stagedState s.feed).code s.feed.reading s (stagedMove s) := by
  unfold stagedState at moves ⊢
  unfold stagedMove
  cases h : s.feed.state <;> simp only [h] at moves ⊢
  case restoreWait =>
    cases due : s.feed.restoreDue with
    | false => simp [due] at moves
    | true =>
      simp only [if_true]
      exact (enterFeedState_noticed (s := { s with feed := { s.feed with restoreDue := false } }) id_paging Grown.refl).from
        (fun _ => rfl) rfl
  case stage1 => exact enterFeedState_noticed id_paging Grown.refl
  case stage2 => exact enterFeedState_noticed (fun u => clearEvent_touches _ _ u) (clearEvent_grown _ _)
  all_goals exact absurd rfl moves

/-- R49: only the entry into NORMAL does something to the pages: it sends the clearing event of FEED_SAG. -/
theorem stagedMove_desk (s : State) :
    SameDesk (if s.feed.state = .stage2 then clearEvent .feedSag 0 s else s) (stagedMove s) := by
  have same : ∀ {t u : State}, SameDesk t u → SameDesk (id t) (id u) := id
  unfold stagedMove
  cases h : s.feed.state <;> dsimp only <;> simp only [reduceCtorEq, if_false, if_true]
  case restoreWait =>
    split
    · exact enterFeedState_desk (s := { s with feed := { s.feed with restoreDue := false } }) (f := id) same
    · exact SameDesk.refl s
  case stage1 => exact enterFeedState_desk (f := id) same
  case stage2 => exact enterFeedState_desk fun k => k.clearEvent _ _
  all_goals exact SameDesk.refl s

/-! ### The feed channel (R43 to R47) -/

/-- What a conversion stores first (R43). -/
def converted (code : BitVec 12) (s : State) : State :=
  { s with feed := { s.feed with code := code, reading := feedPercent code } }

/-- The feed record of an entry into SAG (R45). -/
def Feed.sagged (f : Feed) : Feed :=
  { f with state := .sag, sagCount := 0, restoreCount := 0, waitTimer := none, restoreDue := false }

/-- R45: entry into SAG. -/
theorem enterSag_eq (s : State) : enterSag s = post .feedState 0 s.feed.reading (raise .feedSag .any 0 (testPermit
    (discardFrame { s with feed := s.feed.sagged }))) := by
  have reading : ∀ u, (raise .feedSag .any 0 (testPermit u)).feed.reading = u.feed.reading := fun u => by
    rw [(raise_touches _ _ _ _).feed, testPermit_feed]
  simp only [enterSag, reading, (discardFrame_touches _).feed, Feed.sagged, FeedState.code]

theorem permitCondition_of_dark {s : State} (dark : s.feed.state.inService = false) : permitCondition s = false := by
  simp [permitCondition, dark]

/-- What entry into SAG does behind the frame that it discards. -/
theorem enterSag_stock (s : State) : StockOnly (discardFrame { s with feed := s.feed.sagged }) (enterSag s) := by
  rw [enterSag_eq]
  exact ((testPermit_touches _).trans (raise_touches _ _ _ _).stock).trans (post_touches _ _ _ _).stock

theorem StockOnly.loads {s w : State} (h : StockOnly s w) : w.loads = s.loads := by
  obtain ⟨⟨_, _, _, _, _, _, rfl⟩, -⟩ := h
  rfl

theorem StockOnly.alloc {s w : State} (h : StockOnly s w) : w.alloc = s.alloc := by
  obtain ⟨⟨_, _, _, _, _, _, rfl⟩, -⟩ := h
  rfl

theorem StockOnly.feed {s w : State} (h : StockOnly s w) : w.feed = s.feed := by
  obtain ⟨⟨_, _, _, _, _, _, rfl⟩, -⟩ := h
  rfl

theorem StockOnly.time {s w : State} (h : StockOnly s w) : w.time = s.time := by
  obtain ⟨⟨_, _, _, _, _, _, rfl⟩, -⟩ := h
  rfl

theorem enterSag_loads (s : State) : (enterSag s).loads = (cutLoads allLoads { s with feed := s.feed.sagged }).loads := by
  rw [(enterSag_stock s).loads, discardFrame_loads]

theorem enterSag_alloc (s : State) : (enterSag s).alloc = (discardFrame { s with feed := s.feed.sagged }).alloc :=
  (enterSag_stock s).alloc

/-- R39 and R45: nothing is to come of the frame, and every sum to come is 0. -/
theorem enterSag_sums (s : State) (i : Fin 100) :
    (enterSag s).alloc.sums.get i = if s.time.slice ≤ i.val then 0 else s.alloc.sums.get i := by
  rw [enterSag_alloc, discardFrame_sums]

theorem enterSag_alloc_eq (s : State) : (enterSag s).alloc = { s.alloc with sums := (enterSag s).alloc.sums } := by
  rw [enterSag_alloc, discardFrame_alloc]

theorem enterSag_cut (s : State) : ∃ u, FrameCut (fun _ => True) s u ∧ (enterSag s).loads = u.loads := by
  refine ⟨_, ?_, enterSag_loads s⟩
  have frame := (discardFrame_cut { s with feed := s.feed.sagged }).frame
  generalize cutLoads allLoads { s with feed := s.feed.sagged } = u at frame ⊢
  exact frame

theorem enterSag_state (s : State) :
    StockOnly { s with loads := (enterSag s).loads, alloc := (enterSag s).alloc, feed := s.feed.sagged } (enterSag s) := by
  have touched := enterSag_stock s
  obtain ⟨lo, a, shape⟩ := discardFrame_touches { s with feed := s.feed.sagged }
  rw [shape] at touched
  have loads : (enterSag s).loads = lo := touched.loads
  have alloc : (enterSag s).alloc = a := touched.alloc
  rw [loads, alloc]
  exact touched

theorem enterSag_feed (s : State) : (enterSag s).feed = s.feed.sagged := (enterSag_state s).feed

theorem enterSag_permit (s : State) : (enterSag s).line.permit = false := by
  rw [enterSag_eq]
  have dark : (discardFrame { s with feed := s.feed.sagged }).feed.state.inService = false := by
    rw [(discardFrame_touches _).feed]
    rfl
  generalize discardFrame { s with feed := s.feed.sagged } = u at dark ⊢
  have kept := ((raise_touches .feedSag .any 0 (testPermit u)).trans
    (post_touches .feedState 0 s.feed.reading _)).within.same .permit (by simp)
  exact Eq.trans kept ((testPermit_permit u).trans (permitCondition_of_dark dark))

theorem enterSag_paged (s : State) : PagedOrFull 1 0 (enterSag s) := by
  rw [enterSag_eq]
  generalize testPermit (discardFrame { s with feed := s.feed.sagged }) = u
  exact PagedOrFull.of_desk (raise_paged .feedSag .any 0 u) (post_desk _ _ _ _)

theorem enterSag_noticed (s : State) : Noticed .feedState 0 s.feed.reading s (enterSag s) := by
  have placement := discardFrame_touches { s with feed := s.feed.sagged }
  have ports : (discardFrame { s with feed := s.feed.sagged }).ports = s.ports := by
    obtain ⟨_, _, shape⟩ := placement
    rw [shape]
  have grown : Grown s (raise .feedSag .any 0 (testPermit (discardFrame { s with feed := s.feed.sagged }))) :=
    (Grown.of_ports ports).trans ((testPermit_grown _).trans (raise_grown _ _ _ _))
  rw [enterSag_eq]
  refine noticed_post _ _ _ (fun p => (grown p).role) ?_
  rw [(raise_touches _ _ _ _).time, testPermit_time, placement.time]

/-- R46: entry into RESTORE_WAIT. -/
theorem enterRestoreWait_stock (s : State) : StockOnly { s with feed := { s.feed with
    state := .restoreWait, restoreCount := 0, waitTimer := some (100 * s.feed.restoreWait), waitLength := s.feed.restoreWait } }
    (enterRestoreWait s) :=
  enterFeedState_stock (s := { s with feed := { s.feed with
    restoreCount := 0, waitTimer := some (100 * s.feed.restoreWait), waitLength := s.feed.restoreWait } }) id_paging

theorem enterRestoreWait_noticed (s : State) : Noticed .feedState 1 s.feed.reading s (enterRestoreWait s) :=
  (enterFeedState_noticed (st := .restoreWait) (s := { s with feed := { s.feed with
    restoreCount := 0, waitTimer := some (100 * s.feed.restoreWait), waitLength := s.feed.restoreWait } })
    id_paging Grown.refl).from (fun _ => rfl) rfl

theorem enterRestoreWait_desk (s : State) : SameDesk s (enterRestoreWait s) :=
  enterFeedState_desk (f := id) (s := { s with feed := { s.feed with
    restoreCount := 0, waitTimer := some (100 * s.feed.restoreWait), waitLength := s.feed.restoreWait } }) fun h => h

/-- Cuts are told from the load points, the slice and the sums of the state before them. -/
theorem FrameCut.from {which : LoadId → Prop} {s t w : State} (h : FrameCut which t w) (loads : t.loads = s.loads)
    (time : t.time = s.time) (alloc : t.alloc = s.alloc) : FrameCut which s w := by
  unfold FrameCut at h ⊢
  rwa [loads, time, alloc] at h

/-- Settles O19: in SAG the count toward RESTORE_WAIT, in the other states the count toward SAG. -/
theorem feedConversionDebouncesAndWaits : Obligations.FeedConversionDebouncesAndWaits := by
  refine ⟨fun code s quiet => ?_, fun s quiet => ?_⟩
  · rw [exec_quiet (f := feedConversion code) rfl quiet]
    dsimp only
    refine ⟨fun sag low => ?_, fun sag high few => ?_, fun sag high enough => ?_, fun out high => ?_, fun out low few => ?_,
      fun out low enough => ?_⟩
    · have below : ¬ s.feed.restoreThreshold ≤ feedPercent code := Nat.not_le.mpr low
      rw [feedConversion, testFeed, if_pos sag, if_neg below]
      rfl
    · simp only [feedConversion, testFeed, feedPercent, if_pos sag, if_pos high, if_neg (Nat.not_le.mpr few)]
    · simp only [feedConversion, testFeed, feedPercent, if_pos sag, if_pos high, if_pos enough]
      refine ⟨_, rfl, enterRestoreWait_stock _, ?_, ?_, ?_, ?_, ?_⟩
      · exact (enterRestoreWait_within _).zones (by simp)
      · exact (enterRestoreWait_within _).restock (by simp)
      · exact (enterRestoreWait_desk _).1
      · exact (enterRestoreWait_desk _).2
      · exact (enterRestoreWait_noticed _).from (fun _ => rfl) rfl
    · have above : ¬ feedPercent code < s.feed.sagThreshold := Nat.not_lt.mpr high
      rw [feedConversion, testFeed, if_neg out, if_neg above]
      rfl
    · simp only [feedConversion, testFeed, feedPercent, if_neg out, if_pos low, if_neg (Nat.not_le.mpr few)]
    · have entry : feedConversion code s = enterSag { s with feed := { s.feed with
          code := code, reading := feedPercent code, sagCount := s.feed.sagCount + 1 } } := by
        simp only [feedConversion, testFeed, feedPercent, if_neg out, if_pos low, if_pos enough]
      generalize counted : { s with feed := { s.feed with
          code := code, reading := feedPercent code, sagCount := s.feed.sagCount + 1 } } = u at entry
      have within := enterSag_within u
      have sums := enterSag_sums u
      have alloc := enterSag_alloc_eq u
      have state := enterSag_state u
      have noticed := (enterSag_noticed u).from (s := s) (fun _ => by rw [← counted]) (by rw [← counted])
      have permit := enterSag_permit u
      have paged := enterSag_paged u
      obtain ⟨v, frame, loads⟩ := enterSag_cut u
      rw [entry]
      generalize enterSag u = w at within sums alloc state noticed permit paged loads ⊢
      subst counted
      exact ⟨w, rfl, ⟨v, frame.from rfl rfl rfl, loads⟩, sums, alloc, state, within.zones (by simp), within.restock (by simp),
        permit, paged, noticed⟩
  · rw [exec_quiet (f := waitExpiry) rfl quiet, waitExpiry]
    cases s.feed.waitTimer <;> rfl

end Sys2Proof.Machine
end

section
/-! PROOF. The frame boundary (R19 to R30), and the power law: the sums to come are what the load points carry and within the
limit in force (R32). -/

namespace Sys2Proof.Machine

/-! ### The frame built from its inputs -/

theorem updateDeficit_eq (st : Standing) (l : LoadPoint) : updateDeficit st l = { l with deficit := (updateDeficit st l).deficit } := by
  cases st <;> rfl

/-- The load points placed, before their deficits. -/
def placement (s : State) : State := ((grantOrder s).foldl placeLoad (s, 0)).1

theorem buildFrame_eq (s : State) : buildFrame s = { s with
    loads := Table.build 48 fun n => updateDeficit (standing s n) ((placement s).loads.get n)
    alloc := { s.alloc with
      sums := (placement s).alloc.sums, order := grantOrder s, peak := largestSum (placement s).alloc.sums } } := by
  obtain ⟨⟨lo, sums, shape⟩, -⟩ := placeLoads_keeps (grantOrder s) (s, 0)
  have eq : placement s = { s with loads := lo, alloc := { s.alloc with sums := sums } } := shape
  simp only [buildFrame, shape, eq]

theorem buildFrame_load (s : State) (n : LoadId) :
    (buildFrame s).loads.get n = updateDeficit (standing s n) ((placement s).loads.get n) := by
  rw [buildFrame_eq, Table.get_build]

/-- A load point of the frame keeps all but its grant, its on-slices and its deficit. -/
theorem buildFrame_keeps (s : State) (n : LoadId) : ∃ g o d,
    (buildFrame s).loads.get n = { s.loads.get n with granted := g, onSlices := o, deficit := d } := by
  obtain ⟨-, keeps, -⟩ := placeLoads_keeps (grantOrder s) (s, 0)
  obtain ⟨g, o, e⟩ := keeps n
  rw [buildFrame_load, placement, updateDeficit_eq, e]
  exact ⟨g, o, _, rfl⟩

theorem buildFrame_matches (s : State) : Matches (buildFrame s) (placement s) := by
  have load := buildFrame_load s
  have fields : ∀ (st : Standing) (l : LoadPoint), (updateDeficit st l).placed = l.placed ∧
      (updateDeficit st l).requested = l.requested ∧ (updateDeficit st l).granted = l.granted ∧
      (updateDeficit st l).onSlices = l.onSlices := fun st l => by
    cases st <;> exact ⟨rfl, rfl, rfl, rfl⟩
  obtain ⟨⟨lo, sums, shape⟩, -⟩ := placeLoads_keeps (grantOrder s) (s, 0)
  refine ⟨fun n => ?_, fun n => ?_, fun n => ?_, fun n => ?_, ?_, by rw [buildFrame_eq]⟩
  · rw [load, (fields _ _).1]
  · rw [load, (fields _ _).2.1]
  · rw [load, (fields _ _).2.2.1]
  · rw [load, (fields _ _).2.2.2]
  · rw [buildFrame_eq, placement, shape]

/-- The inputs of a frame: no load point is placed yet and every sum is 0 (R21). -/
structure Blank (s : State) : Prop where
  granted : ∀ n, (s.loads.get n).granted = 0
  onSlices : ∀ n, (s.loads.get n).onSlices = []
  sums : ∀ i, s.alloc.sums.get i = 0

section
variable {s : State} (blank : Blank s)
include blank

theorem Blank.placedInTurn : PlacedInTurn (buildFrame s) (grantOrder s) (fun _ => 0) 0 := by
  have zero : s.alloc.sums.get = fun _ => 0 := funext blank.sums
  rw [← zero]
  exact Machine.placedInTurn (grantOrder s) (grantOrder_nodup s) s 0 (buildFrame_matches s)

/-- A load point that is not eligible gets nothing. -/
theorem Blank.of_not_mem {n : LoadId} (h : n ∉ grantOrder s) :
    ((buildFrame s).loads.get n).granted = 0 ∧ ((buildFrame s).loads.get n).onSlices = [] := by
  obtain ⟨-, -, others⟩ := placeLoads_keeps (grantOrder s) (s, 0)
  have same : (placement s).loads.get n = s.loads.get n := others n h
  have m := buildFrame_matches s
  rw [m.granted, m.onSlices, same]
  exact ⟨blank.granted n, blank.onSlices n⟩

theorem Blank.load (n : LoadId) : let k := (buildFrame s).loads.get n
    k.granted ≤ k.requested ∧ k.onSlices.length = k.granted ∧ k.onSlices.Nodup ∧ (∀ i ∈ k.onSlices, i < 100) := by
  dsimp only
  by_cases h : n ∈ grantOrder s
  · obtain ⟨a, b, c, d, -⟩ := blank.placedInTurn.load h
    exact ⟨a, b, c, d⟩
  · obtain ⟨granted, onSlices⟩ := blank.of_not_mem h
    rw [granted, onSlices]
    exact ⟨Nat.zero_le _, rfl, List.nodup_nil, by simp⟩

/-- Every sum is what the load points carry. -/
theorem Blank.slicePower (i : Fin 100) : slicePower (buildFrame s) i.val = (buildFrame s).alloc.sums.get i := by
  have off : ∀ n, n ∉ (grantOrder s).toFinset → carried (buildFrame s) i n = 0 := fun n hn => by
    rw [List.mem_toFinset] at hn
    rw [carried, (blank.of_not_mem hn).2]
    rfl
  rw [blank.placedInTurn.sums i, Nat.zero_add, slicePower_eq_sum, ← List.sum_toFinset _ (grantOrder_nodup s)]
  exact (Finset.sum_subset (Finset.subset_univ _) fun n _ => off n).symm

theorem Blank.within (i : Fin 100) : (buildFrame s).alloc.sums.get i = 0 ∨
    (buildFrame s).alloc.sums.get i ≤ (buildFrame s).alloc.limit := blank.placedInTurn.within (.inl rfl)

end

/-- The largest sum is one of them (R28). -/
theorem foldl_max_le (l : List Nat) (m : Nat) : m ≤ l.foldl max m ∧ (∀ x ∈ l, x ≤ l.foldl max m) ∧
    (l.foldl max m = m ∨ l.foldl max m ∈ l) := by
  induction l generalizing m with
  | nil => simp
  | cons a l ih =>
    obtain ⟨low, all, attained⟩ := ih (max m a)
    rw [List.foldl_cons]
    refine ⟨(le_max_left _ _).trans low, fun x hx => ?_, ?_⟩
    · rcases List.mem_cons.mp hx with rfl | hx
      · exact (le_max_right _ _).trans low
      · exact all x hx
    · rcases attained with start | mem
      · rcases max_choice m a with h | h <;> rw [h] at start ⊢
        · exact .inl start
        · rw [start]
          exact .inr List.mem_cons_self
      · exact .inr (List.mem_cons_of_mem _ mem)

theorem Table.mem_items {α : Type} {n : Nat} {t : Table n α} {a : α} (h : a ∈ t.items) : ∃ i, t.get i = a := by
  obtain ⟨i, hi, e⟩ := List.mem_iff_getElem.mp h
  exact ⟨⟨i, t.size ▸ hi⟩, e⟩

theorem largestSum_spec (t : Table 100 Nat) : (∀ i, t.get i ≤ largestSum t) ∧ ∃ i, t.get i = largestSum t := by
  obtain ⟨-, all, attained⟩ := foldl_max_le t.items 0
  refine ⟨fun i => all _ (t.get_mem i), ?_⟩
  rcases attained with zero | mem
  · exact ⟨0, Nat.le_antisymm (all _ (t.get_mem 0)) (zero.le.trans (Nat.zero_le _))⟩
  · exact Table.mem_items mem

/-! ### The inputs (R21, R65) -/

/-- The state behind the counters and the staged move of a boundary. -/
def boundaryMoved (s : State) : State := stagedMove { s with time := newFrameTime s.time }

/-- The inputs of the frame that a boundary builds. -/
def boundaryInputs (s : State) : State := takeInputs (computeRequests (boundaryMoved s))

theorem frameBoundary_eq (s : State) : frameBoundary s = allLoads.foldl postClipped (buildFrame (boundaryInputs s)) := rfl

theorem boundaryInputs_blank (s : State) : Blank (boundaryInputs s) := by
  refine ⟨fun n => ?_, fun n => ?_, fun i => ?_⟩
  · simp only [boundaryInputs, takeInputs, Table.get_map, takeLoadInputs]
  · simp only [boundaryInputs, takeInputs, Table.get_map, takeLoadInputs]
  · simp only [boundaryInputs, takeInputs, Table.get_fill]

/-- CLIPPED touches the ports alone. -/
theorem postClippeds_eq (ns : List LoadId) (s : State) :
    ns.foldl postClipped s = { s with ports := (ns.foldl postClipped s).ports } := by
  induction ns generalizing s with
  | nil => rfl
  | cons n ns ih =>
    have one : ∃ p, postClipped s n = { s with ports := p } := by
      unfold postClipped
      dsimp only
      split
      · exact ⟨_, rfl⟩
      · exact ⟨s.ports, rfl⟩
    obtain ⟨p, hp⟩ := one
    rw [List.foldl_cons, ih (postClipped s n), hp]

/-- A frame boundary but for the notices of clipped load points. -/
theorem frameBoundary_shape (s : State) :
    ∃ p, frameBoundary s = { buildFrame (boundaryInputs s) with ports := p } :=
  ⟨_, frameBoundary_eq s ▸ postClippeds_eq _ _⟩

/-! ### The power law -/

/-- A power law of a state that differs from one with it in no block that it speaks of. -/
theorem powerLaw.depends : DependsOn powerLaw [.time, .loads, .alloc, .feed] := by
  intro s t same h
  have time : t.time = s.time := same .time (by simp)
  have loads : t.loads = s.loads := same .loads (by simp)
  have alloc : t.alloc = s.alloc := same .alloc (by simp)
  have feed : t.feed = s.feed := same .feed (by simp)
  have power : ∀ i, Machine.slicePower t i = Machine.slicePower s i := fun i => by rw [Machine.slicePower, loads]; rfl
  unfold powerLaw at h ⊢
  simpa only [power, time, loads, alloc, feed] using h

section
variable {s w : State}

/-- A cut keeps the power law. -/
theorem Cut.powerLaw {which : LoadId → Prop} (h : Cut which s w) (law : powerLaw s) : powerLaw w := by
  obtain ⟨sums, ordered, small, nodup⟩ := law
  refine ⟨fun i hi => ⟨h.sumsAgree (fun j hj => (sums j hj).1) i hi, ?_⟩, fun n some => ?_, fun n i hi => ?_, fun n => ?_⟩
  · rw [h.time] at hi
    rw [h.limit]
    exact (h.sums_le i).trans (sums i hi).2
  · rw [h.order, h.placement.feed]
    exact ordered n (h.remaining_ne_nil some)
  · exact small n i ((h.onSlices_sublist n).subset hi)
  · exact (nodup n).sublist (h.onSlices_sublist n)

/-- So does what changes the load points in nothing that the law speaks of. -/
theorem powerLaw.of_loads (law : powerLaw s) (time : w.time = s.time) (alloc : w.alloc = s.alloc) (feed : w.feed = s.feed)
    (loads : ∀ n, (w.loads.get n).onSlices = (s.loads.get n).onSlices ∧ (w.loads.get n).placed = (s.loads.get n).placed) :
    powerLaw w := by
  have power : ∀ i, slicePower w i = slicePower s i := fun i => by
    simp only [slicePower, (loads _).1, (loads _).2]
  have rest : ∀ k n, remaining k (w.loads.get n) = remaining k (s.loads.get n) := fun k n => by
    simp only [remaining, (loads n).1]
  unfold Machine.powerLaw at law ⊢
  simpa only [power, rest, time, alloc, feed, (loads _).1] using law

end

/-- Where nothing is to come and the sums to come are 0, the power law holds. -/
theorem powerLaw_of_dark {s : State} (none : ∀ n, remaining s.time.slice (s.loads.get n) = [])
    (sums : ∀ i : Fin 100, s.time.slice ≤ i.val → s.alloc.sums.get i = 0) (small : ∀ n, ∀ i ∈ (s.loads.get n).onSlices, i < 100)
    (nodup : ∀ n, (s.loads.get n).onSlices.Nodup) : powerLaw s := by
  refine ⟨fun i hi => ?_, fun n some => absurd (none n) some, small, nodup⟩
  rw [sums i hi]
  refine ⟨?_, Nat.zero_le _⟩
  rw [slicePower_eq_sum]
  refine Finset.sum_eq_zero fun n _ => if_neg fun on => ?_
  have mem : i.val ∈ remaining s.time.slice (s.loads.get n) := mem_remaining.mpr ⟨on, hi⟩
  rw [none n] at mem
  exact List.not_mem_nil mem

/-- Nothing is eligible while the feed state keeps every line off (R25). -/
theorem standing_ne_of_dark {s : State} (dark : s.feed.state.dark = true) (n : LoadId) : standing s n ≠ .eligible := by
  have excluded : ∀ c, feedExcludes s.feed.state c = true := fun c => by
    revert dark
    cases s.feed.state <;> simp [FeedState.dark, feedExcludes]
  unfold standing
  split
  · simp
  · simp [excluded]

/-- A frame that is built from blank inputs has the power law. -/
theorem Blank.powerLaw {s : State} (blank : Blank s) : powerLaw (buildFrame s) := by
  refine ⟨fun i _ => ⟨blank.slicePower i, ?_⟩, fun n some => ?_, fun n => (blank.load n).2.2.2, fun n => (blank.load n).2.2.1⟩
  · rcases blank.within i with zero | within
    · exact zero.le.trans (Nat.zero_le _)
    · exact within
  · have mem : n ∈ grantOrder s := by
      by_contra h
      exact some (by rw [remaining, (blank.of_not_mem h).2]; rfl)
    refine ⟨by rw [buildFrame_eq]; exact mem, ?_⟩
    rw [(buildFrame_touches s).feed, ← Bool.not_eq_true]
    exact fun dark => standing_ne_of_dark dark n (mem_grantOrder.mp mem)

theorem frameBoundary_power (s : State) : powerLaw (frameBoundary s) := by
  obtain ⟨p, shape⟩ := frameBoundary_shape s
  rw [shape]
  exact powerLaw.depends.within (within_ports _ p) (by simp) (boundaryInputs_blank s).powerLaw

end Sys2Proof.Machine
end

section
/-! PROOF. Closure of a relation between states under the operations of the restock list and of the Course Table: where their
parts are in it, so is each of them. Every fact that these operations keep is proved by way of their parts. -/

namespace Sys2Proof.Machine

/-- A relation that the parts of the restock list's operations are in. -/
structure StockOps (R : State → State → Prop) : Prop where
  refl : ∀ s, R s s
  trans : ∀ {s t u}, R s t → R t u → R s u
  post : ∀ k o v s, R s (post k o v s)
  raise : ∀ c g o s, R s (raise c g o s)
  clear : ∀ c o s, R s (clearEvent c o s)
  opened : ∀ z (t : RestockTask) s, s.task? z = none → t.cabinet = z → R s { s with restock := s.restock ++ [t] }
  closed : ∀ z s, R s { s with restock := s.restock.filter fun t => t.cabinet ≠ z }
  woken : ∀ z s, R s { s with restock := s.restock.map fun t => if t.cabinet = z then { t with paged := true } else t }
  refresh : ∀ z s, R s (refreshStandby z s)
  wake : ∀ z s, s.zoneState z = .standby → R s (moveZone z .preheat s)

/-- What is done to the courses (R137 to R145). -/
inductive CourseEdit (s : State) : State → Prop
  | entry (c : CourseId) (r : Course) (z : ZoneId) (n : Nat) : s.course? c = some r →
    r.entries.any (fun e => e.1 == z) = true ∨ r.entries.length < 6 →
    CourseEdit s (s.setCourse c (some { r with entries := addEntry z n r.entries }))
  | short (c : CourseId) (r : Course) (b : Bool) : s.course? c = some r →
    CourseEdit s (s.setCourse c (some { r with short := b }))
  | removed (c : CourseId) (r : Course) (z : ZoneId) : s.course? c = some r →
    CourseEdit s (s.setCourse c (some { r with entries := r.entries.filter fun e => e.1 ≠ z }))
  | drawn (c : CourseId) (r : Course) : s.course? c = some r →
    CourseEdit s (s.setCourse c (some { r with entries := takeFromHead r.entries }))
  | plated (c : CourseId) (r : Course) (n : Nat) : s.course? c = some r →
    CourseEdit s (s.setCourse c (some { r with plated := n }))
  | seated (c : CourseId) (r : Course) : r.entries = [] → r.cabinets.length ≤ 6 → CourseEdit s (seatCourse c r s)
  | freed (c : CourseId) : CourseEdit s (freeCourse c s)

theorem CourseEdit.shape {s t : State} (h : CourseEdit s t) : ∃ c, t = { s with courses := c } := by
  cases h <;> exact ⟨_, rfl⟩

theorem CourseEdit.zones {s t : State} (h : CourseEdit s t) : t.zones = s.zones := by
  obtain ⟨_, rfl⟩ := h.shape
  rfl

theorem CourseEdit.ports {s t : State} (h : CourseEdit s t) : t.ports = s.ports := by
  obtain ⟨_, rfl⟩ := h.shape
  rfl

/-- A relation that the parts of the Course Table's operations are in, too. -/
structure ServiceOps (R : State → State → Prop) : Prop extends StockOps R where
  reserve : ∀ z c n s, s.cabinet? z = some c → R s (s.setCabinet z { c with reserved := n })
  courses : ∀ {s t}, CourseEdit s t → R s t

section
variable {R : State → State → Prop}

namespace StockOps

variable (k : StockOps R)
include k

theorem fold {α : Type} (f : State → α → State) (h : ∀ s a, R s (f s a)) (l : List α) (s : State) : R s (l.foldl f s) :=
  foldl_related k.refl k.trans f h l s

theorem wakeStandby (z : ZoneId) (s : State) : R s (wakeStandby z s) := by
  unfold Machine.wakeStandby
  split
  · next h => exact k.wake z s h
  · exact k.refl s

theorem report (z : ZoneId) (wakes : Bool) (s : State) : R s (report z wakes s) := by
  unfold Machine.report
  dsimp only
  split
  · exact k.trans (k.refresh z s) (k.wakeStandby z _)
  · exact k.refresh z s

theorem testRestock (z : ZoneId) (s : State) : R s (testRestock z s) := by
  unfold Machine.testRestock
  split
  · exact k.refl s
  · next due =>
    have free : s.task? z = none := by
      unfold taskDue at due
      split at due <;> simp_all
    split
    · split
      · dsimp only
        refine k.trans (k.trans ?_ (k.post _ _ _ _)) (k.report _ _ _)
        split
        · exact k.trans (k.opened z _ s free rfl) (k.raise _ _ _ _)
        · exact k.opened z _ s free rfl
      · exact k.refl s
    · exact k.refl s

theorem closeTask (z : ZoneId) (how : TaskClosing) (s : State) : R s (closeTask z how s) := by
  unfold Machine.closeTask
  split
  · dsimp only
    refine k.trans ?_ (k.report _ _ _)
    split
    · exact k.trans (k.trans (k.closed z s) (k.post _ _ _ _)) (k.clear _ _ _)
    · exact k.trans (k.closed z s) (k.post _ _ _ _)
  · exact k.refl s

theorem wakeTask (w : WareId) (s : State) (z : ZoneId) : R s (wakeTask w s z) := by
  unfold Machine.wakeTask
  split
  · split
    · exact k.trans (k.trans (k.trans (k.woken z s) (k.raise _ _ _ _)) (k.post _ _ _ _)) (k.report _ _ _)
    · exact k.refl s
  · exact k.refl s

theorem wakeTasks (w : WareId) (s : State) : R s (wakeTasks w s) := k.fold _ (k.wakeTask w) _ s

theorem wakeListed (s : State) (z : ZoneId) : R s (wakeListed s z) := by
  unfold Machine.wakeListed
  split
  · exact k.trans (k.wakeStandby _ _) (k.testRestock _ _)
  · exact k.refl s

end StockOps

namespace ServiceOps

variable (k : ServiceOps R)
include k

theorem reservePlates (z : ZoneId) (n : Nat) (s : State) : R s (reservePlates z n s) := by
  unfold Machine.reservePlates
  split
  · next c hc => exact k.trans (k.reserve z c _ s hc) (k.report _ _ _)
  · exact k.refl s

theorem releasePlates (z : ZoneId) (n : Nat) (s : State) : R s (releasePlates z n s) := by
  unfold Machine.releasePlates
  split
  · next c hc => exact k.trans (k.reserve z c _ s hc) (k.report _ _ _)
  · exact k.refl s

theorem changeCourse {c : CourseId} {f : Course → Course} {s : State}
    (h : ∀ r, s.course? c = some r → CourseEdit s (s.setCourse c (some (f r)))) : R s (changeCourse c f s) := by
  unfold Machine.changeCourse
  split
  · next r live => exact k.courses (h r live)
  · exact k.refl s

theorem passAt (c : CourseId) (d : Option ZoneId) (s : State) (z : ZoneId) : R s (passAt c d s z) := by
  unfold Machine.passAt
  split
  · next r b live cabinet =>
    split
    · next can =>
      have room : r.entries.any (fun e => e.1 == z) = true ∨ r.entries.length < 6 := by
        simp only [canReserve, cabinet, Bool.and_eq_true, Bool.or_eq_true, decide_eq_true_eq] at can
        exact can.2
      have entered : ∀ u : State, u.courses = s.courses → R u (Machine.changeCourse c (fun q =>
          { q with entries := addEntry z (min b.available r.need) q.entries }) u) := fun u same =>
        k.changeCourse fun q hq => by
          have here : s.course? c = some q := by rw [← hq, State.course?, State.course?, same]
          cases live.symm.trans here
          exact .entry c r z _ hq room
      dsimp only
      split
      · exact k.trans (k.reservePlates _ _ _) (entered _ ((reservePlates_touches _ _ _).within.courses (by simp)))
      · exact k.trans (k.trans (k.reservePlates _ _ _) (k.testRestock _ _))
          (entered _ (((reservePlates_touches _ _ _).trans (testRestock_touches _ _)).within.courses (by simp)))
    · exact k.refl s
  · exact k.refl s

theorem settleCourse (c : CourseId) (fired : Bool) (s : State) : R s (settleCourse c fired s) := by
  unfold Machine.settleCourse
  split
  · next r live =>
    have settled := fun b => k.courses (.short c r b live)
    dsimp only
    split
    · split
      · exact k.trans (settled _) (k.post _ _ _ _)
      split
      · exact k.trans (k.trans (settled _) (k.clear _ _ _)) (k.post _ _ _ _)
      · exact settled _
    · refine k.trans ?_ (k.fold _ k.wakeListed _ _)
      split
      · exact k.trans (k.trans (settled _) (k.raise _ _ _ _)) (k.post _ _ _ _)
      · exact settled _
  · exact k.refl s

theorem runPass (c : CourseId) (d : Option ZoneId) (fired : Bool) (s : State) : R s (runPass c d fired s) := by
  unfold Machine.runPass
  split
  · exact k.trans (k.fold _ (k.passAt c d) _ s) (k.settleCourse _ _ _)
  · exact k.refl s

theorem rerunCourse (z : ZoneId) (s : State) (c : CourseId) : R s (rerunCourse z s c) := by
  unfold Machine.rerunCourse
  split
  · split
    · exact k.runPass _ _ _ _
    · exact k.refl s
  · exact k.refl s

theorem rerunCourses (z : ZoneId) (s : State) : R s (rerunCourses z s) := k.fold _ (k.rerunCourse z) _ s

theorem releaseCabinet (z : ZoneId) (s : State) : R s (releaseCabinet z s) := by
  unfold Machine.releaseCabinet
  split
  · next b hb =>
    dsimp only
    have held : ∀ (cs : List CourseId) (u : State), u.zones = s.zones → R s u → (cs.foldl (removeEntry z) u).zones = s.zones ∧
        R s (cs.foldl (removeEntry z) u) := by
      intro cs
      induction cs with
      | nil => exact fun u same h => ⟨same, h⟩
      | cons c cs ih =>
        intro u same h
        refine ih _ ?_ (k.trans h (k.changeCourse fun r live => .removed c r z live))
        unfold removeEntry Machine.changeCourse
        split
        · exact same
        · exact same
    obtain ⟨zones, removed⟩ := held (s.courses.order.filter (holdsEntry s z)) s rfl (k.refl s)
    have cabinet : (List.foldl (removeEntry z) s (s.courses.order.filter (holdsEntry s z))).cabinet? z = some b := by
      rw [State.cabinet?, zones]
      exact hb
    exact k.trans (k.trans (k.trans removed (k.reserve z b 0 _ cabinet)) (k.report _ _ _))
      (k.fold _ (fun s c => k.runPass c _ _ s) _ _)
  · exact k.refl s

theorem freeCourse (c : CourseId) (s : State) : R s (freeCourse c s) := k.courses (.freed c)

end ServiceOps

end

/-! ### Notices only grow -/

theorem moveZone_grown (z : ZoneId) (st : ZoneState) (s : State) : Grown s (moveZone z st s) :=
  (Grown.of_ports (by simp)).trans (testPermit_grown _)

theorem grown_ops : ServiceOps Grown where
  refl := Grown.refl
  trans := Grown.trans
  post := post_grown
  raise := raise_grown
  clear := clearEvent_grown
  opened _ _ _ _ _ := Grown.of_ports rfl
  closed _ _ := Grown.of_ports rfl
  woken _ _ := Grown.of_ports rfl
  refresh z s := by
    refine Grown.of_ports ?_
    unfold refreshStandby
    split
    · split
      · split
        · split <;> rfl
        · rfl
      · rfl
    · rfl
  wake z s _ := moveZone_grown _ _ _
  reserve z c n s _ := Grown.of_ports (State.changeZone_ports _ _ _)
  courses h := Grown.of_ports h.ports

end Sys2Proof.Machine
end

section
/-! PROOF. Every step keeps the power law (R32): what each command does to the frame is a cut, a discarded frame, a boundary,
or nothing that the law speaks of. -/

namespace Sys2Proof.Machine

/-! ### Cuts among other changes -/

/-- As far as the frame goes, some load points were cut and nothing else was done. -/
structure FrameCutOnly (s w : State) : Prop where
  time : w.time = s.time
  feed : w.feed = s.feed
  cut : ∃ which, Cut which s { s with loads := w.loads, alloc := w.alloc }

section
variable {s t u w : State}

theorem Cut.from {which : LoadId → Prop} (h : Cut which t u) (loads : t.loads = s.loads) (time : t.time = s.time)
    (alloc : t.alloc = s.alloc) : Cut which s { s with loads := u.loads, alloc := u.alloc } := by
  refine ⟨⟨_, _, rfl⟩, by rw [← alloc]; exact h.alloc, ?_⟩
  have frame := h.frame.from loads time alloc
  unfold FrameCut at frame ⊢
  exact frame

theorem FrameCutOnly.of_same (time : w.time = s.time) (feed : w.feed = s.feed) (loads : w.loads = s.loads)
    (alloc : w.alloc = s.alloc) : FrameCutOnly s w :=
  ⟨time, feed, _, by rw [loads, alloc]; exact Cut.none s⟩

theorem FrameCutOnly.refl (s : State) : FrameCutOnly s s := .of_same rfl rfl rfl rfl

theorem FrameCutOnly.trans (h : FrameCutOnly s t) (k : FrameCutOnly t u) : FrameCutOnly s u := by
  obtain ⟨_, first⟩ := h.cut
  obtain ⟨_, second⟩ := k.cut
  exact ⟨k.time.trans h.time, k.feed.trans h.feed, _,
    first.trans (second.from (s := { s with loads := t.loads, alloc := t.alloc }) rfl h.time rfl)⟩

theorem FrameCutOnly.of_within {bs : List Block} (h : Within bs s w)
    (apart : ∀ b ∈ [Block.time, .feed, .loads, .alloc], b ∉ bs) : FrameCutOnly s w :=
  .of_same (h.time (apart _ (by simp))) (h.feed (apart _ (by simp))) (h.loads (apart _ (by simp))) (h.alloc (apart _ (by simp)))

theorem FrameCutOnly.of_service (h : ServiceOnly s w) : FrameCutOnly s w := .of_within h.within (by simp)

theorem FrameCutOnly.of_cut {which : LoadId → Prop} (h : Cut which s w) : FrameCutOnly s w :=
  ⟨h.time, h.placement.feed, _, h.from rfl rfl rfl⟩

end

theorem changeRacks_within (st : Stage) (f : Rack → Rack) (s : State) : Within [.racks] s (changeRacks st f s) := within_racks s _

theorem Within.ite {c : Prop} [Decidable c] {bs : List Block} {s t : State} (h : Within bs s t) :
    Within bs s (if c then t else s) := by
  split
  · exact h
  · exact Within.refl bs s

theorem zeroMinimums_within (z : ZoneId) (s : State) : Within [.racks] s (zeroMinimums z s) :=
  (Within.ite (changeRacks_within _ _ s)).trans (Within.ite (changeRacks_within _ _ _))

theorem lowerMinimums_within (c : ChannelId) (v : Nat) (s : State) : Within [.racks] s (lowerMinimums c v s) :=
  (Within.ite (changeRacks_within _ _ s)).trans (Within.ite (changeRacks_within _ _ _))

theorem zeroMinimums_frame (z : ZoneId) (s : State) : FrameCutOnly s (zeroMinimums z s) :=
  .of_within (zeroMinimums_within z s) (by simp)

theorem leaveService_frame (z : ZoneId) (st : ZoneState) {f : State → State} (hf : ∀ s, StockOnly s (f s)) (s : State) :
    FrameCutOnly s (leaveService z st f s) := by
  unfold leaveService
  dsimp only
  have moved := (FrameCutOnly.of_service (moveZone_touches z st s).service).trans (zeroMinimums_frame z _)
  have cut := moved.trans (FrameCutOnly.of_cut (cutLoads_cut (zoneLoads (zeroMinimums z (moveZone z st s)) z) _))
  exact (cut.trans (.of_service (hf _).service)).trans
    ((FrameCutOnly.of_service (releaseCabinet_touches z _)).trans (.of_service (closeTask_touches _ _ _).service))

theorem enterOff_frame (z : ZoneId) {f : State → State} (hf : ∀ s, PagingOnly s (f s)) (s : State) :
    FrameCutOnly s (enterOff z f s) :=
  ((leaveService_frame z .off (endProgramOff_touches z) s).trans (.of_service (hf _).stock.service)).trans
    (.of_service (post_touches _ _ _ _).stock.service)

theorem enterFault_frame (z : ZoneId) (c : FaultCause) (s : State) : FrameCutOnly s (enterFault z c s) :=
  ((leaveService_frame z .fault (endProgramFault_touches z) s).trans (.of_service (changeZone_touches _ _ _).service)).trans
    (.of_service ((raise_touches _ _ _ _).trans (post_touches _ _ _ _)).stock.service)

theorem takeReading_frame (z : ZoneId) (r : Zone) (v : Nat) (s : State) : FrameCutOnly s (takeReading z r v s) := by
  have stored := FrameCutOnly.of_service (setZone_touches z (r.overTest v) s).service
  unfold takeReading
  split
  · exact enterFault_frame _ _ _
  split
  · exact FrameCutOnly.refl s
  dsimp only
  split
  · exact stored.trans (enterFault_frame _ _ _)
  · exact stored.trans (.of_service (followReading_touches _ _ _ _))

theorem handZone_frame (c : ChannelId) (v : Option Nat) (failed : Bool) (s : State) (z : ZoneId) :
    FrameCutOnly s (handZone c v failed s z) := by
  unfold handZone
  split
  · split
    · exact FrameCutOnly.refl s
    split
    · exact .of_service (setZone_touches _ _ _).service
    split
    · exact takeReading_frame _ _ _ _
    split
    · exact enterFault_frame _ _ _
    · exact FrameCutOnly.refl s
  · exact FrameCutOnly.refl s

theorem lowerMinimums_frame (c : ChannelId) (v : Nat) (s : State) : FrameCutOnly s (lowerMinimums c v s) :=
  .of_within (lowerMinimums_within c v s) (by simp)

theorem sensorConversion_frame (code : BitVec 12) (s : State) : FrameCutOnly s (sensorConversion code s) := by
  have handed : ∀ c v failed (t : State), FrameCutOnly t (allZones.foldl (handZone c v failed) t) := fun c v failed t =>
    foldl_related FrameCutOnly.refl FrameCutOnly.trans _ (handZone_frame c v failed) allZones t
  have scanned : ∀ scan, FrameCutOnly s { s with scan := scan } := fun _ => .of_same rfl rfl rfl rfl
  unfold sensorConversion
  dsimp only
  split
  · exact ((scanned _).trans (handed _ _ _ _)).trans (lowerMinimums_frame _ _ _)
  · exact (scanned _).trans (handed _ _ _ _)

/-! ### What one tick counts -/

/-- The line's record once its levels have been sampled (R97). -/
def DishLine.firstSampled (line : DishLine) (pins : Pins) : DishLine :=
  if line.sampled then line
  else { line with sampled := true, enterLevel := pins.enterLine, exitLevel := pins.exitLine, outLevel := pins.outLine }

/-- The link's record once the first PROBE has been sent where it is still to come (R170). -/
def Link.firstProbed (link : Link) : Link :=
  if link.probeDue then
    if link.up then { link with probeDue := false }
    else { link with probeDue := false, outstanding := .probe, transmitting := probeFrame, responseTimer := none, probeTimer := some 1000 }
  else link

theorem firstSample_eq (s : State) : firstSample s = { s with line := s.line.firstSampled s.pins } := by
  unfold firstSample DishLine.firstSampled
  split
  · rfl
  · rfl

theorem firstProbe_eq (s : State) : firstProbe s = { s with link := s.link.firstProbed } := by
  unfold firstProbe Link.firstProbed
  split
  · dsimp only
    split
    · rfl
    · rfl
  · rfl

theorem countTick_eq (s : State) : countTick s =
    { s with
      time := { s.time with clockTicks := s.time.clockTicks + 1, sliceTicks := s.time.sliceTicks + 1 }
      feed := { s.feed with waitTimer := countDown s.feed.waitTimer }
      zones := s.zones.map (Option.map Zone.tick)
      line := s.line.firstSampled s.pins
      desk := { s.desk with pages := s.desk.pages.map fun p => { p with ackTimer := countDown p.ackTimer } }
      link := s.link.tick.firstProbed
      ports := s.ports.map fun p => { p with timer := countDown p.timer } } := by
  rw [countTick, firstProbe_eq, firstSample_eq]

/-! ### What keeps the power law -/

section
variable {s w : State}

/-- What the power law speaks of, where it is the same or has come to be lit. -/
theorem powerLaw.of_same (law : powerLaw s) (slice : w.time.slice = s.time.slice) (sums : w.alloc.sums = s.alloc.sums)
    (limit : w.alloc.limit = s.alloc.limit) (order : w.alloc.order = s.alloc.order)
    (feed : s.feed.state.dark = false → w.feed.state.dark = false)
    (loads : ∀ n, (w.loads.get n).onSlices = (s.loads.get n).onSlices ∧ (w.loads.get n).placed = (s.loads.get n).placed) :
    powerLaw w := by
  have power : ∀ i, slicePower w i = slicePower s i := fun i => by simp only [slicePower, (loads _).1, (loads _).2]
  have rest : ∀ k n, remaining k (w.loads.get n) = remaining k (s.loads.get n) := fun k n => by
    simp only [remaining, (loads n).1]
  obtain ⟨agree, ordered, small, nodup⟩ := law
  refine ⟨fun i hi => ?_, fun n some => ?_, fun n => ?_, fun n => ?_⟩
  · rw [power, sums, limit]
    exact agree i (slice ▸ hi)
  · rw [slice, rest] at some
    rw [order]
    exact ⟨(ordered n some).1, feed (ordered n some).2⟩
  · rw [(loads n).1]
    exact small n
  · rw [(loads n).1]
    exact nodup n

theorem powerLaw.of_frameCut (h : FrameCutOnly s w) (law : powerLaw s) : powerLaw w := by
  obtain ⟨_, cut⟩ := h.cut
  exact (cut.powerLaw law).of_same (congrArg TimeBase.slice h.time) rfl rfl rfl (by rw [h.feed]; exact id)
    fun n => ⟨rfl, rfl⟩

/-- A slice that gives way to the next takes its own sums out of the law. -/
theorem powerLaw.next_slice (law : powerLaw s) (slice : w.time.slice = s.time.slice + 1) (loads : w.loads = s.loads)
    (alloc : w.alloc = s.alloc) (feed : w.feed = s.feed) : powerLaw w := by
  obtain ⟨agree, ordered, small, nodup⟩ := law
  have power : ∀ i, slicePower w i = slicePower s i := fun i => by rw [slicePower, loads]; rfl
  refine ⟨fun i hi => ?_, fun n some => ?_, by rwa [loads], by rwa [loads]⟩
  · rw [power, alloc]
    exact agree i (by omega)
  · obtain ⟨i, hi⟩ := List.exists_mem_of_ne_nil _ some
    rw [mem_remaining, loads] at hi
    rw [alloc, feed]
    exact ordered n (List.ne_nil_of_mem (mem_remaining.mpr ⟨hi.1, by omega⟩))

end

theorem changeMap_power (m : ClassMap) {s : State} (law : powerLaw s) : powerLaw (changeMap m s) := by
  obtain ⟨u, cut, eq⟩ := changeMap_eq m s
  rw [eq]
  exact (cut.powerLaw law).of_same (congrArg TimeBase.slice cut.time.symm) rfl rfl rfl
    (by rw [cut.placement.feed]; exact id) fun n => by rw [Table.get_build]; exact ⟨rfl, rfl⟩

theorem resetBlocks_power (s : State) (chip : Chip) (ports : Table 4 Port) : powerLaw (s.resetBlocks chip ports) := by
  have load : ∀ n, (s.resetBlocks chip ports).loads.get n = LoadPoint.reset := fun n => Table.get_fill _ n
  refine powerLaw_of_dark (fun n => ?_) (fun i _ => Table.get_fill _ i) (fun n => ?_) fun n => ?_
  · rw [load]; rfl
  · rw [load]; simp [LoadPoint.reset]
  · rw [load]; exact List.nodup_nil

theorem enterSag_power {s : State} (law : powerLaw s) : powerLaw (enterSag s) := by
  have time : (enterSag s).time = s.time := (enterSag_state s).time
  have cut := discardFrame_cut { s with feed := s.feed.sagged }
  refine powerLaw_of_dark (fun n => ?_) (fun i hi => ?_) (fun n i hi => ?_) fun n => ?_
  · rw [time, enterSag_loads, ← discardFrame_loads]
    exact remaining_discardFrame { s with feed := s.feed.sagged } n
  · rw [enterSag_sums, if_pos (time ▸ hi)]
  · rw [enterSag_loads] at hi
    exact law.2.2.1 n i ((cut.onSlices_sublist n).subset hi)
  · rw [enterSag_loads]
    exact (law.2.2.2 n).sublist (cut.onSlices_sublist n)

theorem enterRestoreWait_power {s : State} (law : powerLaw s) (sag : s.feed.state = .sag) : powerLaw (enterRestoreWait s) := by
  have alloc : (enterRestoreWait s).alloc = s.alloc := (enterRestoreWait_stock s).alloc
  have loads : (enterRestoreWait s).loads = s.loads := (enterRestoreWait_stock s).loads
  refine law.of_same (congrArg TimeBase.slice (enterRestoreWait_stock s).time) (by rw [alloc]) (by rw [alloc]) (by rw [alloc]) ?_
    fun n => by rw [loads]; exact ⟨rfl, rfl⟩
  simp [sag, FeedState.dark]

theorem feedConversion_power (code : BitVec 12) {s : State} (law : powerLaw s) : powerLaw (feedConversion code s) := by
  have counted : ∀ f : Feed, f.state = s.feed.state → powerLaw { s with feed := f } := fun f same =>
    law.of_same rfl rfl rfl rfl (by rw [same]; exact id) fun n => ⟨rfl, rfl⟩
  unfold feedConversion testFeed
  dsimp only
  split
  · next sag =>
    split
    · split
      · exact enterRestoreWait_power (counted _ rfl) sag
      · exact counted _ rfl
    · exact counted _ rfl
  · split
    · split
      · exact enterSag_power (counted _ rfl)
      · exact counted _ rfl
    · exact counted _ rfl

theorem feedLimit_power {v : Nat} {s : State} (law : powerLaw s) : powerLaw (feedLimit v s).state := by
  refine feedLimit_cases (motive := fun a => powerLaw a.state) (fun _ => law) (fun _ _ => ?_) fun _ _ => ?_
  · exact law.of_same rfl rfl rfl rfl id fun n => ⟨rfl, rfl⟩
  · rw [accept_state]
    obtain ⟨_, cut⟩ := walk_cut s.alloc.order.reverse { s with alloc := { s.alloc with limitSetting := v, limit := v } }
    have power := reverseWalk_power (v := v) law
      (t := { s with alloc := { s.alloc with limitSetting := v, limit := v } }) rfl rfl rfl
    change Cut _ _ (reverseWalk { s with alloc := { s.alloc with limitSetting := v, limit := v } }) at cut
    generalize reverseWalk { s with alloc := { s.alloc with limitSetting := v, limit := v } } = w at cut power ⊢
    obtain ⟨-, ordered, small, nodup⟩ := law
    refine ⟨fun i hi => ?_, fun n some => ?_, fun n i hi => small n i ((cut.onSlices_sublist n).subset hi), fun n => ?_⟩
    · obtain ⟨within, agree⟩ := power i (by rw [cut.time] at hi; exact hi)
      rw [cut.limit]
      exact ⟨agree, within⟩
    · rw [cut.order, cut.placement.feed]
      exact ordered n (cut.remaining_ne_nil some)
    · exact (nodup n).sublist (cut.onSlices_sublist n)

theorem shedLevel_power {v : Nat} {s : State} (law : powerLaw s) : powerLaw (shedLevel v s).state := by
  have stored : ∀ x y, powerLaw { s with alloc := { s.alloc with shedSetting := x, shed := y } } := fun x y =>
    law.of_same rfl rfl rfl rfl id fun n => ⟨rfl, rfl⟩
  refine shedLevel_cases (motive := fun a => powerLaw a.state) (fun _ => law) (fun _ _ => stored _ _) fun _ _ => ?_
  rw [accept_state]
  have cut := shedLoads_cut s.alloc.shed v { s with alloc := { s.alloc with shedSetting := v, shed := v } }
  generalize allLoads.foldl (shedLoad s.alloc.shed v) { s with alloc := { s.alloc with shedSetting := v, shed := v } } = w at cut ⊢
  exact cut.powerLaw (stored v v)

theorem loadSet_power {n r : Nat} {s : State} (law : powerLaw s) : powerLaw (loadSet n r s).state := by
  refine loadSet_cases (motive := fun a => powerLaw a.state) (fun _ => law) fun n _ _ => ?_
  rw [accept_state]
  refine (cutLoad_cut n _).powerLaw (law.of_same rfl rfl rfl rfl id fun m => ?_)
  rw [State.setLoad_loads, Table.get_set]
  split
  · next h => subst h; exact ⟨rfl, rfl⟩
  · exact ⟨rfl, rfl⟩

theorem rebind_load (z : ZoneId) (loads : List LoadId) (s : State) (n : LoadId) :
    ∃ b, (rebind z loads s).loads.get n = { s.loads.get n with binding := b } := by
  rw [rebind, Table.get_build]
  dsimp only
  by_cases listed : n ∈ loads
  · exact ⟨some z, if_pos listed⟩
  rw [if_neg listed]
  by_cases bound : (s.loads.get n).binding = some z
  · exact ⟨none, if_pos bound⟩
  · exact ⟨_, if_neg bound⟩

theorem zoneDefine_power {p : PortId} {v : ZoneSettings} {s : State} (law : powerLaw s) : powerLaw (zoneDefine p v s).state := by
  refine zoneDefine_cases (motive := fun a => powerLaw a.state) (fun _ => law) fun n kind channel loads group _ _ _ _ _ => ?_
  rw [acceptClamped_state]
  refine powerLaw.of_frameCut (enterOff_frame n PagingOnly.refl _) (law.of_same rfl rfl rfl rfl id fun m => ?_)
  obtain ⟨b, hb⟩ := rebind_load n loads (s.setZone n (definedZone p v kind channel loads group (s.zones.get n))) m
  rw [hb, State.setZone_loads]
  exact ⟨rfl, rfl⟩

theorem sliceAdvance_power {s : State} (law : powerLaw s) : powerLaw (sliceAdvance s) := by
  unfold sliceAdvance
  split
  · exact law.next_slice rfl rfl rfl rfl
  · exact frameBoundary_power s

theorem effect_request {i : Instr} {t : Transfer} {roles : List Role} {body : State → Answer} (h : meaning i = .request t roles body)
    (s : State) : effect i s = (body s).state := by
  rw [effect, h, Meaning.effect]

theorem mapEnable_state (a b : Nat) (s : State) : (mapEnable a b s).state = changeMap { s.map with
    enabled := settingOr Config.otherMapEnable a, fixedEnabled := settingOr Config.otherFixedEnable b } s := by
  rw [mapEnable, accept_state]

/-- A block that a command does not write. -/
theorem not_writes {b : Block} {bs cs : List Block} (h : b ∈ bs) (k : b ∈ cs) (apart : (bs.all fun b => !cs.contains b) = true) :
    False := by
  rw [List.all_eq_true] at apart
  have := apart b h
  simp [k] at this

theorem effect_power (i : Instr) (s : State) (h : ∃ b ∈ [Block.time, .loads, .alloc, .feed], b ∈ writes i) (law : powerLaw s) :
    powerLaw (effect i s) := by
  obtain ⟨b, hb, hw⟩ := h
  have retimed : ∀ t : TimeBase, t.slice = s.time.slice → powerLaw { s with time := t } := fun t same =>
    law.of_same same rfl rfl rfl id fun n => ⟨rfl, rfl⟩
  have refed : ∀ f : Feed, f.state = s.feed.state → powerLaw { s with feed := f } := fun f same =>
    law.of_same rfl rfl rfl rfl (by rw [same]; exact id) fun n => ⟨rfl, rfl⟩
  have mapped : ∀ m, powerLaw (changeMap m s) := fun m => changeMap_power m law
  have off : ∀ z f, (∀ s, PagingOnly s (f s)) → powerLaw (enterOff z f s) := fun z f hf =>
    powerLaw.of_frameCut (enterOff_frame z hf s) law
  cases i
  case clockSet => exact clockSet_cases (motive := fun a => powerLaw a.state) (fun _ => law) fun _ => retimed _ rfl
  case frameSet => exact frameSet_cases (motive := fun a => powerLaw a.state) (fun _ => law) fun _ _ => retimed _ rfl
  case kitchenClockAdvance => exact retimed _ rfl
  case loadSet => exact loadSet_power law
  case feedLimit => exact feedLimit_power law
  case shedLevel => exact shedLevel_power law
  case mapFixed => exact mapFixed_cases (motive := fun a => powerLaw a.state) (fun _ => law) fun m => by rw [accept_state]; exact mapped m
  case mapWindow =>
    exact mapWindow_cases (motive := fun a => powerLaw a.state) (fun _ => law) fun m _ => by rw [acceptClamped_state]; exact mapped m
  case mapDefault => exact mapDefault_cases (motive := fun a => powerLaw a.state) (fun _ => law) fun m => by rw [accept_state]; exact mapped m
  case mapEnable => 
    rw [effect_request rfl, mapEnable_state]
    exact mapped _
  case feedConfig => exact feedConfig_cases (motive := fun a => powerLaw a.state) (fun _ => law) (refed _ rfl)
  case waitTimerExpiry =>
    rw [effect_event (f := waitExpiry) rfl, waitExpiry]
    split
    · exact refed _ rfl
    · exact law
  case feedConversion code => rw [effect_event (f := feedConversion code) rfl]; exact feedConversion_power code law
  case sliceAdvance => rw [effect_event (f := sliceAdvance) rfl]; exact sliceAdvance_power law
  case frameBoundary => rw [effect_event (f := frameBoundary) rfl]; exact frameBoundary_power s
  case zoneDefine => exact zoneDefine_power law
  case zoneStop =>
    exact zoneStop_cases (motive := fun a => powerLaw a.state) (fun _ => law) law fun z _ _ _ _ => off z _ PagingOnly.refl
  case zoneClear =>
    exact zoneClear_cases (motive := fun a => powerLaw a.state) (fun _ => law) fun z _ _ _ _ _ => off z _ (clearEvent_touches _ _)
  case sensorConversion code =>
    rw [effect_event (f := sensorConversion code) rfl]
    exact powerLaw.of_frameCut (sensorConversion_frame code s) law
  all_goals exact (not_writes hb hw rfl).elim

theorem countTick_power {s : State} (law : powerLaw s) : powerLaw (countTick s) := by
  rw [countTick_eq]
  exact law.of_same rfl rfl rfl rfl id fun n => ⟨rfl, rfl⟩

/-- Settles O56. -/
theorem everyStepKeepsThePowerLaw : Obligations.EveryStepKeepsThePowerLaw := fun _ _ law stepped =>
  (keptBy_of_blocks powerLaw.depends (by simp) effect_power resetBlocks_power fun _ => countTick_power).step law stepped

end Sys2Proof.Machine
end

section
/-! PROOF. The load lines of a lawful state (O55), and the laws right after a reset (O6). -/

namespace Sys2Proof.Machine

theorem loadLine_iff (s : State) (n : LoadId) :
    loadLine s n = true ↔ s.running = true ∧ s.time.slice ∈ (s.loads.get n).onSlices := by
  simp [loadLine, LoadPoint.isOn]

/-- Settles O55. -/
theorem loadLinesStayWithinTheLimit : Obligations.LoadLinesStayWithinTheLimit := by
  intro s power heat inFrame
  obtain ⟨sums, lit, -, -⟩ := power
  have here : ∀ n, loadLine s n = true → remaining s.time.slice (s.loads.get n) ≠ [] := fun n on =>
    List.ne_nil_of_mem (mem_remaining.mpr ⟨((loadLine_iff s n).mp on).2, le_refl s.time.slice⟩)
  refine ⟨?_, fun n on => ?_⟩
  · obtain ⟨agree, within⟩ := sums ⟨s.time.slice, inFrame⟩ (le_refl s.time.slice)
    calc (allLoads.map fun n => if loadLine s n then (s.loads.get n).placed else 0).sum
        ≤ slicePower s s.time.slice := List.sum_le_sum fun n _ => by
          split
          · next on => rw [if_pos ((loadLine_iff s n).mp on).2]
          · exact Nat.zero_le _
      _ ≤ s.alloc.limit := agree.trans_le within
  · obtain ⟨unlocked, r, bound, notOff, notFault⟩ := heat.1 n (here n on)
    obtain ⟨z, binding, zone⟩ := Option.bind_eq_some_iff.mp bound
    exact ⟨((loadLine_iff s n).mp on).1, (lit n (here n on)).2, unlocked, z, r, binding, zone, notOff, notFault⟩

/-! ### The laws right after a reset -/

section
variable (s : State) (chip : Chip) (ports : Table 4 Port)

theorem resetBlocks_load (n : LoadId) : (s.resetBlocks chip ports).loads.get n = LoadPoint.reset := Table.get_fill _ n

theorem resetBlocks_zone (z : ZoneId) : (s.resetBlocks chip ports).zones.get z = none := Table.get_fill _ z

theorem resetBlocks_cabinet? (z : ZoneId) : (s.resetBlocks chip ports).cabinet? z = none := by
  rw [State.cabinet?, resetBlocks_zone]

theorem resetBlocks_ware (k : WareId) : (s.resetBlocks chip ports).wares.get k = Ware.reset := Table.get_fill _ k

theorem resetBlocks_course? (c : CourseId) : (s.resetBlocks chip ports).course? c = none := Table.get_fill _ c

theorem resetBlocks_staff (e : EntryId) : (s.resetBlocks chip ports).staff e = Staff.reset := Table.get_fill _ e

theorem resetBlocks_heat : heatLaw (s.resetBlocks chip ports) := by
  refine ⟨fun n some => ?_, fun n z bound => ?_⟩
  · rw [resetBlocks_load] at some
    cases some rfl
  · rw [resetBlocks_load] at bound
    cases bound

theorem resetBlocks_duty : dutyLaw (s.resetBlocks chip ports) := fun n => by
  rw [resetBlocks_load]; decide

theorem resetBlocks_lockout : lockoutLaw (s.resetBlocks chip ports) := fun n => by
  rw [resetBlocks_load]; decide

theorem resetBlocks_setpoint : setpointLaw (s.resetBlocks chip ports) := fun z r h => by
  rw [resetBlocks_zone] at h; cases h

theorem resetBlocks_rack : rackLaw (s.resetBlocks chip ports) :=
  ⟨Nat.zero_le _, List.nodup_nil, List.Pairwise.nil, fun _ h => nomatch h⟩

theorem resetBlocks_permit : permitLaw (s.resetBlocks chip ports) := rfl

theorem resetBlocks_heldOn (z : ZoneId) : heldOn (s.resetBlocks chip ports) z = 0 :=
  List.sum_eq_zero fun n h => by
    obtain ⟨c, -, rfl⟩ := List.mem_map.mp h
    rw [resetBlocks_course?]

theorem resetBlocks_plate : plateLaw (s.resetBlocks chip ports) := fun k => by
  have none : cabinetsOf (s.resetBlocks chip ports) k = [] := List.filter_eq_nil_iff.mpr fun z _ => by
    simp [resetBlocks_cabinet?]
  rw [resetBlocks_ware, inCabinets, none]
  exact ⟨rfl, fun _ => rfl⟩

theorem resetBlocks_cabinet : cabinetLaw (s.resetBlocks chip ports) := by
  refine ⟨fun z c h => ?_, fun z _ => resetBlocks_heldOn s chip ports z, fun z r h => ?_, fun c r h => ?_⟩
  · rw [resetBlocks_cabinet?] at h; cases h
  · rw [resetBlocks_zone] at h; cases h
  · rw [resetBlocks_course?] at h; cases h

theorem resetBlocks_task : taskLaw (s.resetBlocks chip ports) := List.nodup_nil

theorem resetBlocks_course : courseLaw (s.resetBlocks chip ports) := by
  refine ⟨List.nodup_nil, fun c => ?_, fun c r h => ?_⟩
  · rw [resetBlocks_course?]; exact ⟨nofun, nofun⟩
  · rw [resetBlocks_course?] at h; cases h

theorem resetBlocks_page : pageLaw (s.resetBlocks chip ports) := ⟨Nat.zero_le _, List.nodup_nil, Nat.zero_le _⟩

theorem resetBlocks_staffLaw : staffLaw (s.resetBlocks chip ports) := by
  refine ⟨fun e => ?_, fun _ h => (List.not_mem_nil h).elim, fun i => ?_, fun e i => ?_⟩
  · rw [resetBlocks_staff]
    exact ⟨fun _ => ⟨rfl, rfl⟩, nofun, nofun, nofun, .inl rfl⟩
  · rw [show (s.resetBlocks chip ports).roster.free.get i = [] from Table.get_fill _ i]
    exact List.nodup_nil
  · rw [show (s.resetBlocks chip ports).roster.free.get i = [] from Table.get_fill _ i, resetBlocks_staff]
    exact ⟨nofun, nofun⟩

theorem resetBlocks_link : linkLaw (s.resetBlocks chip ports) :=
  ⟨nofun, fun _ => .inl rfl, fun _ => ⟨rfl, rfl⟩, fun _ => rfl, Nat.zero_le _⟩

theorem resetBlocks_time : timeLaw (s.resetBlocks chip ports) := by
  change TimeBase.reset.slice < 100 ∧ TimeBase.reset.frame < 65536 ∧ TimeBase.reset.clock ≤ 86399 ∧
    (1 ≤ TimeBase.reset.sliceLength ∧ TimeBase.reset.sliceLength ≤ 10) ∧
    1 ≤ TimeBase.reset.slicePending ∧ TimeBase.reset.slicePending ≤ 10
  decide

theorem resetBlocks_notice (h : ∀ p, (ports.get p).notices = []) : noticeLaw (s.resetBlocks chip ports) := fun p => by
  rw [show (s.resetBlocks chip ports).ports.get p = ports.get p from rfl, h]
  exact Nat.zero_le _

theorem resetBlocks_reply (h : ∀ p, (ports.get p).slot = none) : replyLaw (s.resetBlocks chip ports) := by
  refine ⟨fun z r k => ?_, Nat.zero_le _, fun c r k => ?_, fun p r k => ?_⟩
  · rw [resetBlocks_zone] at k; cases k
  · rw [resetBlocks_course?] at k; cases k
  · rw [show (s.resetBlocks chip ports).ports.get p = ports.get p from rfl, h] at k; cases k

end

/-- Settles O6. -/
theorem resetStateIsLawful : Obligations.ResetStateIsLawful := by
  have ports : ∀ p, State.reset.ports.get p = Port.reset (Role.ofStraps p) false := Table.get_build _
  change lawful (State.reset.resetBlocks State.reset.chip State.reset.ports)
  exact ⟨⟨resetBlocks_power _ _ _, resetBlocks_heat _ _ _, resetBlocks_duty _ _ _, resetBlocks_lockout _ _ _⟩,
    resetBlocks_setpoint _ _ _, ⟨resetBlocks_rack _ _ _, resetBlocks_permit _ _ _⟩,
    ⟨resetBlocks_plate _ _ _, resetBlocks_cabinet _ _ _, resetBlocks_task _ _ _, resetBlocks_course _ _ _⟩,
    ⟨resetBlocks_page _ _ _, resetBlocks_staffLaw _ _ _⟩, resetBlocks_link _ _ _,
    resetBlocks_notice _ _ _ fun p => by rw [ports]; rfl, resetBlocks_reply _ _ _ fun p => by rw [ports]; rfl,
    resetBlocks_time _ _ _⟩

end Sys2Proof.Machine
end

section
/-! PROOF. Laws on each load point by itself: which records the commands and the boundary give a load point, and that the third
law of R32 and the law of LOCKOUT are kept by every step. -/

namespace Sys2Proof.Machine

/-- A law on a load point's record that everything done to one keeps. -/
structure PointLaw (P : LoadPoint → Prop) : Prop where
  fresh : P LoadPoint.reset
  cut : ∀ l slice, P l → P (l.cutFrom slice)
  rated : ∀ l v, P l → P { l with rating := v }
  bound : ∀ l b, P l → P { l with binding := b }
  resolved : ∀ l m n, P l → P (l.resolvedBy m n)
  built : ∀ l, l.granted ≤ l.requested → l.onSlices.length = l.granted → l.effective = l.resolved → P l

/-- Every load point meets a law. -/
def AllLoads (P : LoadPoint → Prop) (s : State) : Prop := ∀ n, P (s.loads.get n)

theorem AllLoads.depends (P : LoadPoint → Prop) : DependsOn (AllLoads P) [.loads] := by
  intro s t same h n
  have loads : t.loads = s.loads := same .loads (by simp)
  rw [loads]
  exact h n

/-- What the load points of a new frame are (R12, R27, R28). -/
theorem frameBoundary_point (s : State) (n : LoadId) : let k := (frameBoundary s).loads.get n
    k.granted ≤ k.requested ∧ k.onSlices.length = k.granted ∧ k.effective = k.resolved := by
  have blank := boundaryInputs_blank s
  have loads : (frameBoundary s).loads = (buildFrame (boundaryInputs s)).loads := by rw [frameBoundary_eq, postClippeds_eq]
  obtain ⟨granted, length, -, -⟩ := blank.load n
  obtain ⟨g, o, d, eq⟩ := buildFrame_keeps (boundaryInputs s) n
  have input : ((boundaryInputs s).loads.get n).effective = ((boundaryInputs s).loads.get n).resolved := by
    simp only [boundaryInputs, takeInputs, Table.get_map, takeLoadInputs]
  rw [loads]
  refine ⟨granted, length, ?_⟩
  rw [eq]
  exact input

section
variable {P : LoadPoint → Prop} (k : PointLaw P) {s w : State}
include k

theorem PointLaw.of_cut {which : LoadId → Prop} (h : Cut which s w) (all : AllLoads P s) : AllLoads P w := fun n => by
  rcases h.load n with cut | left
  · rw [cut]; exact k.cut _ _ (all n)
  · rw [left]; exact all n

theorem PointLaw.of_frameCut (h : FrameCutOnly s w) (all : AllLoads P s) : AllLoads P w := by
  obtain ⟨_, cut⟩ := h.cut
  exact fun n => k.of_cut cut all n

theorem PointLaw.changeMap (m : ClassMap) (all : AllLoads P s) : AllLoads P (changeMap m s) := fun n => by
  obtain ⟨u, cut, eq⟩ := changeMap_eq m s
  rw [eq]
  dsimp only
  rw [Table.get_build]
  exact k.resolved _ _ _ (k.of_cut cut all n)

theorem PointLaw.frameBoundary (s : State) : AllLoads P (frameBoundary s) := fun n => by
  obtain ⟨granted, length, effective⟩ := frameBoundary_point s n
  exact k.built _ granted length effective

theorem PointLaw.loadSet {n r : Nat} (all : AllLoads P s) : AllLoads P (loadSet n r s).state := by
  refine loadSet_cases (motive := fun a => AllLoads P a.state) (fun _ => all) fun n _ _ => ?_
  rw [accept_state]
  refine k.of_cut (cutLoad_cut n _) fun m => ?_
  rw [State.setLoad_loads, Table.get_set]
  split
  · next h => subst h; exact k.rated _ _ (all m)
  · exact all m

theorem PointLaw.feedLimit {v : Nat} (all : AllLoads P s) : AllLoads P (feedLimit v s).state := by
  refine feedLimit_cases (motive := fun a => AllLoads P a.state) (fun _ => all) (fun _ _ => all) fun _ _ => ?_
  rw [accept_state]
  obtain ⟨_, cut⟩ := walk_cut s.alloc.order.reverse { s with alloc := { s.alloc with limitSetting := v, limit := v } }
  change Cut _ _ (reverseWalk { s with alloc := { s.alloc with limitSetting := v, limit := v } }) at cut
  generalize reverseWalk { s with alloc := { s.alloc with limitSetting := v, limit := v } } = w at cut ⊢
  exact k.of_cut cut all

theorem PointLaw.shedLevel {v : Nat} (all : AllLoads P s) : AllLoads P (shedLevel v s).state := by
  refine shedLevel_cases (motive := fun a => AllLoads P a.state) (fun _ => all) (fun _ _ => all) fun _ _ => ?_
  rw [accept_state]
  have cut := shedLoads_cut s.alloc.shed v { s with alloc := { s.alloc with shedSetting := v, shed := v } }
  generalize allLoads.foldl (shedLoad s.alloc.shed v) { s with alloc := { s.alloc with shedSetting := v, shed := v } } = w at cut ⊢
  exact k.of_cut cut all

theorem PointLaw.zoneDefine {p : PortId} {v : ZoneSettings} (all : AllLoads P s) : AllLoads P (zoneDefine p v s).state := by
  refine zoneDefine_cases (motive := fun a => AllLoads P a.state) (fun _ => all) fun n kind channel loads group _ _ _ _ _ => ?_
  rw [acceptClamped_state]
  refine k.of_frameCut (enterOff_frame n PagingOnly.refl _) fun m => ?_
  obtain ⟨b, hb⟩ := rebind_load n loads (s.setZone n (definedZone p v kind channel loads group (s.zones.get n))) m
  rw [hb]
  exact k.bound _ _ (all m)

theorem PointLaw.feedConversion (code : BitVec 12) (all : AllLoads P s) : AllLoads P (feedConversion code s) := by
  have discarded : ∀ f, AllLoads P (enterSag { s with feed := f }) := fun f n => by
    obtain ⟨u, cut, same⟩ := enterSag_cut { s with feed := f }
    rw [same]
    by_cases h : remaining s.time.slice (s.loads.get n) = []
    · rw [(cut.1 n).2 fun some => some.2 h]
      exact all n
    · rw [(cut.1 n).1 ⟨trivial, h⟩]
      exact k.cut _ _ (all n)
  have waits : ∀ f, AllLoads P (enterRestoreWait { s with feed := f }) := fun f =>
    DependsOn.within (AllLoads.depends P) (enterRestoreWait_within { s with feed := f }) (by simp) all
  unfold Machine.feedConversion testFeed
  dsimp only
  split
  · split
    · split
      · exact waits _
      · exact all
    · exact all
  · split
    · split
      · exact discarded _
      · exact all
    · exact all

theorem PointLaw.effect (i : Instr) (s : State) (h : ∃ b ∈ [Block.loads], b ∈ writes i) (all : AllLoads P s) :
    AllLoads P (effect i s) := by
  obtain ⟨b, hb, hw⟩ := h
  have off : ∀ z f, (∀ s, PagingOnly s (f s)) → AllLoads P (enterOff z f s) := fun z f hf =>
    k.of_frameCut (enterOff_frame z hf s) all
  cases i
  case loadSet => exact k.loadSet all
  case feedLimit => exact k.feedLimit all
  case shedLevel => exact k.shedLevel all
  case mapFixed =>
    exact mapFixed_cases (motive := fun a => AllLoads P a.state) (fun _ => all) fun m => by rw [accept_state]; exact k.changeMap m all
  case mapWindow =>
    exact mapWindow_cases (motive := fun a => AllLoads P a.state) (fun _ => all) fun m _ => by
      rw [acceptClamped_state]; exact k.changeMap m all
  case mapDefault =>
    exact mapDefault_cases (motive := fun a => AllLoads P a.state) (fun _ => all) fun m => by
      rw [accept_state]; exact k.changeMap m all
  case mapEnable =>
    rw [effect_request rfl, mapEnable_state]
    exact k.changeMap _ all
  case feedConversion code => rw [effect_event (f := Machine.feedConversion code) rfl]; exact k.feedConversion code all
  case sliceAdvance =>
    rw [effect_event (f := sliceAdvance) rfl, sliceAdvance]
    split
    · exact all
    · exact k.frameBoundary s
  case frameBoundary => rw [effect_event (f := Machine.frameBoundary) rfl]; exact k.frameBoundary s
  case zoneDefine => exact k.zoneDefine all
  case zoneStop =>
    exact zoneStop_cases (motive := fun a => AllLoads P a.state) (fun _ => all) all fun z _ _ _ _ => off z _ PagingOnly.refl
  case zoneClear =>
    exact zoneClear_cases (motive := fun a => AllLoads P a.state) (fun _ => all) fun z _ _ _ _ _ => off z _ (clearEvent_touches _ _)
  case sensorConversion code =>
    rw [effect_event (f := sensorConversion code) rfl]
    exact k.of_frameCut (sensorConversion_frame code s) all
  all_goals exact (not_writes hb hw rfl).elim

/-- A law on each load point is kept by every step. -/
theorem PointLaw.kept : KeptBy (AllLoads P) :=
  keptBy_of_blocks (AllLoads.depends P) (by simp) k.effect
    (fun s chip ports n => by rw [resetBlocks_load]; exact k.fresh)
    fun s all n => by rw [countTick_eq]; exact all n

end

/-- R32, third law, of one load point. -/
def LoadPoint.WithinDuty (l : LoadPoint) : Prop := l.onSlices.length ≤ l.granted ∧ l.granted ≤ l.requested

theorem withinDuty_law : PointLaw LoadPoint.WithinDuty where
  fresh := by unfold LoadPoint.WithinDuty; decide
  cut l slice h := ⟨(List.length_filter_le _ _).trans h.1, h.2⟩
  rated _ _ h := h
  bound _ _ h := h
  resolved _ _ _ h := h
  built _ granted length _ := ⟨length.le, granted⟩

/-- R13 and R14 of one load point: LOCKOUT is in force wherever it is resolved. -/
def LoadPoint.LockedWhereResolved (l : LoadPoint) : Prop := l.resolved = .lockout → l.effective = .lockout

theorem lockedWhereResolved_law : PointLaw LoadPoint.LockedWhereResolved where
  fresh _ := rfl
  cut _ _ h := h
  rated _ _ h := h
  bound _ _ h := h
  resolved _ _ _ _ := fun locked => if_pos locked
  built _ _ _ effective := fun locked => effective.trans locked

theorem dutyLaw_step {s w : State} (h : dutyLaw s) (stepped : step s = .next w) : dutyLaw w :=
  withinDuty_law.kept.step h stepped

theorem lockoutLaw_step {s w : State} (h : lockoutLaw s) (stepped : step s = .next w) : lockoutLaw w :=
  lockedWhereResolved_law.kept.step h stepped

/-! ### The Time Base -/

theorem timeLaw.depends : DependsOn timeLaw [.time] := by
  intro s t same h
  have time : t.time = s.time := same .time (by simp)
  unfold timeLaw
  rw [time]
  exact h

theorem frameBoundary_time (s : State) : (frameBoundary s).time = newFrameTime s.time := by
  rw [frameBoundary_eq, postClippeds_eq, buildFrame_eq]
  exact (stagedMove_within { s with time := newFrameTime s.time }).time (by simp)

theorem timeLaw_effect (i : Instr) (s : State) (h : ∃ b ∈ [Block.time], b ∈ writes i) (law : timeLaw s) : timeLaw (effect i s) := by
  obtain ⟨b, hb, hw⟩ := h
  obtain ⟨slice, frame, clock, length, low, high⟩ := law
  have boundary : timeLaw (frameBoundary s) := by
    unfold timeLaw
    rw [frameBoundary_time]
    exact ⟨Nat.zero_lt_succ _, Nat.mod_lt _ (by decide), clock, ⟨low, high⟩, low, high⟩
  have law : timeLaw s := ⟨slice, frame, clock, length, low, high⟩
  cases i
  case clockSet =>
    exact clockSet_cases (motive := fun a => timeLaw a.state) (fun _ => law) fun h => ⟨slice, frame, h, length, low, high⟩
  case frameSet =>
    exact frameSet_cases (motive := fun a => timeLaw a.state) (fun _ => law) fun a b => ⟨slice, frame, clock, length, a, b⟩
  case kitchenClockAdvance =>
    refine ⟨slice, frame, ?_, length, low, high⟩
    change (if lastSecond ≤ s.time.clock then 0 else s.time.clock + 1) ≤ 86399
    unfold lastSecond
    split <;> omega
  case sliceAdvance =>
    rw [effect_event (f := sliceAdvance) rfl, sliceAdvance]
    split
    · next more => exact ⟨Nat.succ_lt_succ more, frame, clock, length, low, high⟩
    · exact boundary
  case frameBoundary => rw [effect_event (f := frameBoundary) rfl]; exact boundary
  all_goals exact (not_writes hb hw rfl).elim

theorem timeLaw_step {s w : State} (h : timeLaw s) (stepped : step s = .next w) : timeLaw w :=
  (keptBy_of_blocks timeLaw.depends (by simp) timeLaw_effect resetBlocks_time
    fun s law => by rw [countTick_eq]; exact law).step h stepped

end Sys2Proof.Machine
end

section
/-! PROOF. Closure of a relation between states under everything that is done to zones: the edits of a zone's record, the moves,
and each command that reaches the zones. A fact that these parts keep is kept by all of them. -/

namespace Sys2Proof.Machine

/-! ### Edits of a record -/

/-- A setpoint that a zone can be given: one clamped into its kind's range, or one of its program's (R61, R84, R88). -/
def Zone.Offers (r : Zone) (v : Nat) : Prop :=
  (∃ w, v = r.kind.clampSetpoint w) ∨ ∃ g, r.program = some g ∧ (v = g.hold ∨ ∃ st ∈ g.steps, v = st.setpoint)

/-- What is done to an OVEN's draft and program (R81 to R90). -/
inductive ProgramEdit (g : Program) : Program → Prop
  | run (state : ProgramState) (current timer last : Nat) :
    ProgramEdit g { g with state := state, current := current, timer := timer, lastRun := last }
  | draft (i : Fin 8) (w soak duration : Nat) (act : EndAction) :
    ProgramEdit g { g with draft := g.draft.set i (some
      { setpoint := ZoneKind.clampSetpoint .oven w, soakTime := soak, duration := duration, action := act }) }
  | load (count hold : Nat) (steps : List ProgramStep) : count ≤ 8 → g.draftSteps? count = some steps →
    ProgramEdit g { g with
      state := .loaded, steps := steps, hold := ZoneKind.clampSetpoint .oven hold, current := 0, timer := 0, lastRun := 0 }

/-- What is done to a zone's record apart from its entries into states and its cabinet. -/
inductive ZoneEdit : Zone → Zone → Prop
  | tally {r : Zone} (recover : Option Nat) (slow : Bool) (count : Nat) (armed : Bool) (cause : FaultCause) (clean : Nat) :
    ZoneEdit r { r with
      recoverTimer := recover, slowRaised := slow, overCount := count, overArmed := armed, faultCause := cause
      cleanCount := clean }
  | point {r : Zone} (v : Nat) : r.Offers v → ZoneEdit r { r with setpoint := v }
  | follow {r : Zone} : ZoneEdit r (r.setActive (r.setpointFor r.state))
  | bounds {r : Zone} (fallback standby : Nat) : ZoneEdit r { r with
      fallback := r.kind.clampSetpoint fallback
      standby := if r.kind = ZoneKind.warmer then some (ZoneKind.clampSetpoint .warmer standby) else none }
  | program {r : Zone} (g g' : Program) (soak : Nat) : r.program = some g → ProgramEdit g g' →
    ZoneEdit r { r with soakTime := soak, program := some g' }
  | trans {r a b : Zone} : ZoneEdit r a → ZoneEdit a b → ZoneEdit r b

theorem Zone.overTest_edit (r : Zone) (v : Nat) : ZoneEdit r (r.overTest v) := by
  unfold Zone.overTest
  split
  · exact .tally r.recoverTimer r.slowRaised _ _ r.faultCause r.cleanCount
  split
  · exact .tally r.recoverTimer r.slowRaised _ r.overArmed r.faultCause r.cleanCount
  · exact .tally r.recoverTimer r.slowRaised r.overCount r.overArmed r.faultCause r.cleanCount

theorem Zone.countClean_edit (r : Zone) (v : Option Nat) : ZoneEdit r (r.countClean v) := by
  have counted : ∀ n, ZoneEdit r { r with cleanCount := n } := fun n =>
    .tally r.recoverTimer r.slowRaised r.overCount r.overArmed r.faultCause n
  unfold Zone.countClean
  split
  · split
    · exact counted _
    · exact counted _
  · exact counted _

theorem Zone.overTest_state (r : Zone) (v : Nat) : (r.overTest v).state = r.state := by
  unfold Zone.overTest
  split
  · rfl
  split
  · rfl
  · rfl

theorem Zone.setActive_state (r : Zone) (v : Nat) : (r.setActive v).state = r.state := by
  unfold Zone.setActive
  split
  · rfl
  · rfl

theorem Zone.setActive_kind (r : Zone) (v : Nat) : (r.setActive v).kind = r.kind := by
  unfold Zone.setActive
  split
  · rfl
  · rfl

theorem setZone_same (z : ZoneId) (r : Zone) (s : State) : (s.setZone z r).zones.get z = some r := by simp

/-- R84: a step applied to a zone that is OFF leaves it OFF. -/
theorem applyStep_of_off {z : ZoneId} (n : Nat) {r : Zone} {s : State} (zone : s.zones.get z = some r) (off : r.state = .off) :
    ∃ q, (applyStep z n s).zones.get z = some q ∧ q.state = .off := by
  unfold applyStep
  rw [zone]
  dsimp only
  split
  · split
    · unfold changeSetpoint
      rw [setZone_same]
      dsimp only
      rw [off]
      split
      · exact ⟨_, setZone_same _ _ _, rfl⟩
      · exact ⟨_, setZone_same _ _ _, by rw [Zone.setActive_state]⟩
    · exact ⟨r, zone, off⟩
  · exact ⟨r, zone, off⟩

/-- A list mapped whole has the images of its elements in order. -/
theorem forall₂_of_mapM {α β : Type} {f : α → Option β} {l : List α} {r : List β} (h : l.mapM f = some r) :
    List.Forall₂ (fun a b => f a = some b) l r := by
  induction l generalizing r with
  | nil =>
    rw [List.mapM_nil] at h
    cases h
    exact .nil
  | cons a l ih =>
    rw [List.mapM_cons] at h
    obtain ⟨b, hb, rest⟩ := Option.bind_eq_some_iff.mp h
    obtain ⟨bs, hbs, e⟩ := Option.bind_eq_some_iff.mp rest
    cases e
    exact .cons hb (ih hbs)

theorem length_of_cabinetList? {ns : List Nat} {cs : List ZoneId} (h : cabinetList? ns = some cs) : cs.length ≤ 6 := by
  unfold cabinetList? at h
  split at h
  · cases h
  · next short =>
    rw [← (forall₂_of_mapM h).length_eq]
    omega

/-! ### The relation's parts -/

/-- The first part of an entry into OFF or FAULT: the record, the permit, the minimums and the cuts (R38, R66, R76). -/
def leaving (z : ZoneId) (st : ZoneState) (s : State) : State :=
  cutLoads (zoneLoads (zeroMinimums z (moveZone z st s)) z) (zeroMinimums z (moveZone z st s))

/-- R60: a ZONE_DEFINE that passes its checks finds the zone OFF, a WARMER that is to be one no longer without plates, and its load
points bound to none other. -/
theorem free_of_defineConflict {s : State} {n : ZoneId} {kind : ZoneKind} {loads : List LoadId}
    (free : defineConflict s n kind loads = none) :
    (∀ r, s.zones.get n = some r → r.state = .off) ∧
      (∀ c, s.cabinet? n = some c → kind ≠ .warmer → c.stock = 0) ∧
      ∀ m ∈ loads, (s.loads.get m).binding = none ∨ (s.loads.get m).binding = some n := by
  unfold defineConflict at free
  split at free
  · cases free
  next off =>
  split at free
  · cases free
  next vacant =>
  split at free
  · cases free
  next unbound =>
  refine ⟨fun r zone => ?_, fun c cabinet other => ?_, fun m mem => ?_⟩
  · by_contra on
    exact off (by simp [zone, on])
  · unfold State.cabinet? at cabinet
    split at cabinet
    · next r zone =>
      split at cabinet
      · next warmer =>
        by_contra some
        exact vacant (by simp [zone, warmer, other, cabinet, Nat.pos_of_ne_zero some])
      · cases cabinet
    · cases cabinet
  · by_contra taken
    rw [not_or] at taken
    exact unbound (List.any_eq_true.mpr ⟨m, mem, by simpa using taken⟩)

/-- The commands that move plates or change what courses hold of them, or a cabinet. -/
def movesPlates : Instr → Bool
  | .cabinetSet .. | .wareAdjust .. | .restockConfirm .. | .courseFire .. | .coursePlated .. | .courseClose .. | .rackOut => true
  | _ => false

/-- A relation that the parts of what is done to zones alone are in, with the reruns and the release as they come. -/
structure ServedOps (R : State → State → Prop) : Prop extends StockOps R where
  rerunCourses : ∀ z s, R s (rerunCourses z s)
  releaseCabinet : ∀ z s, R s (releaseCabinet z s)
  move : ∀ z st r s, s.zones.get z = some r → r.state ≠ .fault → st ≠ .off → st ≠ .fault → R s (moveZone z st s)
  leave : ∀ z st r s, s.zones.get z = some r → r.state ≠ .fault → st = .off ∨ st = .fault → R s (leaving z st s)
  edit : ∀ z r r' s, s.zones.get z = some r → ZoneEdit r r' → R s (s.setZone z r')
  define : ∀ n kind channel loads group p v s, loadList? v.loads = some loads → defineConflict s n kind loads = none →
    R s (rebind n loads (s.setZone n (definedZone p v kind channel loads group (s.zones.get n))))
  scan : ∀ c s, R s { s with scan := c }
  lower : ∀ c v s, R s (lowerMinimums c v s)
  port : ∀ p t s, R s (s.setPort p { s.ports.get p with silent := true, timer := t })

/-- A relation that the parts of everything done to zones, cabinets and courses are in. -/
structure ZoneOps (R : State → State → Prop) : Prop extends ServiceOps R where
  move : ∀ z st r s, s.zones.get z = some r → r.state ≠ .fault → st ≠ .off → st ≠ .fault → R s (moveZone z st s)
  leave : ∀ z st r s, s.zones.get z = some r → r.state ≠ .fault → st = .off ∨ st = .fault → R s (leaving z st s)
  edit : ∀ z r r' s, s.zones.get z = some r → ZoneEdit r r' → R s (s.setZone z r')
  cabinet : ∀ z c c' s, s.cabinet? z = some c → R s (s.setCabinet z c')
  define : ∀ n kind channel loads group p v s, loadList? v.loads = some loads → defineConflict s n kind loads = none →
    R s (rebind n loads (s.setZone n (definedZone p v kind channel loads group (s.zones.get n))))
  ware : ∀ w v s, R s (s.setWare w v)
  scan : ∀ c s, R s { s with scan := c }
  line : ∀ (l : DishLine) s, l.settings = s.line.settings → l.permit = s.line.permit → l.racks = s.line.racks →
    R s { s with line := l }
  lower : ∀ c v s, R s (lowerMinimums c v s)
  head : ∀ s, R s (dropHead s)
  port : ∀ p t s, R s (s.setPort p { s.ports.get p with silent := true, timer := t })

theorem ZoneOps.served {R : State → State → Prop} (k : ZoneOps R) : ServedOps R where
  toStockOps := k.toStockOps
  rerunCourses := k.toServiceOps.rerunCourses
  releaseCabinet := k.toServiceOps.releaseCabinet
  move := k.move
  leave := k.leave
  edit := k.edit
  define := k.define
  scan := k.scan
  lower := k.lower
  port := k.port

namespace ServedOps

variable {R : State → State → Prop} (k : ServedOps R)
include k

/-! ### Entries -/

theorem postZoneState (z : ZoneId) (st : ZoneState) (s : State) : R s (postZoneState z st s) := k.post _ _ _ _

theorem enterQuietly {z : ZoneId} {st : ZoneState} {r : Zone} {s : State} (zone : s.zones.get z = some r) (from_ : r.state ≠ .fault)
    (notOff : st ≠ .off) (notFault : st ≠ .fault) : R s (enterQuietly z st s) :=
  k.trans (k.move z st r s zone from_ notOff notFault) (k.testRestock _ _)

theorem enterReady {z : ZoneId} {r : Zone} {s : State} (zone : s.zones.get z = some r) (from_ : r.state ≠ .fault) :
    R s (enterReady z s) := by
  have moved : R s (refreshStandby z (Machine.postZoneState z .ready (moveZone z .ready s))) :=
    k.trans (k.trans (k.move z .ready r s zone from_ (by decide) (by decide)) (k.postZoneState _ _ _)) (k.refresh _ _)
  unfold Machine.enterReady
  dsimp only
  split
  · exact k.trans moved (k.trans (k.rerunCourses _ _) (k.testRestock _ _))
  · exact moved

theorem enterPaused {z : ZoneId} {r : Zone} {s : State} (zone : s.zones.get z = some r) (from_ : r.state ≠ .fault) :
    R s (enterPaused z s) :=
  k.trans (k.trans (k.move z .paused r s zone from_ (by decide) (by decide)) (k.postZoneState _ _ _)) (k.testRestock _ _)

/-! ### Programs -/

theorem changeZone {z : ZoneId} {f : Zone → Zone} {s : State} (h : ∀ r, s.zones.get z = some r → ZoneEdit r (f r)) :
    R s (s.changeZone z f) := by
  unfold State.changeZone
  split
  · next r zone => exact k.edit z r _ s zone (h r zone)
  · exact k.refl s

theorem runProgram {z : ZoneId} {g : Program} {s : State} (program : (s.zones.get z).bind (·.program) = some g)
    (state : ProgramState) (current timer last : Nat) :
    R s (s.changeZone z fun r => { r with program := some { g with
      state := state, current := current, timer := timer, lastRun := last } }) :=
  k.changeZone fun r zone =>
    .program g _ r.soakTime (by rw [zone] at program; exact program) (.run state current timer last)

theorem abortProgram (z : ZoneId) (s : State) : R s (abortProgram z s) := by
  unfold Machine.abortProgram
  split
  · next g program =>
    have aborted := k.runProgram program .aborted g.current 0 g.current
    dsimp only
    split
    · exact k.trans (k.trans aborted (k.clear _ _ _)) (k.post _ _ _ _)
    · exact k.trans aborted (k.post _ _ _ _)
  · exact k.refl s

theorem endProgramOff (z : ZoneId) (s : State) : R s (endProgramOff z s) := by
  unfold Machine.endProgramOff
  split
  · exact k.abortProgram z s
  · exact k.abortProgram z s
  all_goals exact k.refl s

theorem endProgramFault (z : ZoneId) (s : State) : R s (endProgramFault z s) := by
  unfold Machine.endProgramFault
  split
  · exact k.abortProgram z s
  · exact k.abortProgram z s
  · exact k.abortProgram z s
  all_goals exact k.refl s

theorem holdProgram (z : ZoneId) (s : State) : R s (holdProgram z s) := by
  unfold Machine.holdProgram
  split
  · next g program =>
    exact k.trans (k.trans (k.runProgram program .held g.current 0 g.lastRun) (k.raise _ _ _ _)) (k.post _ _ _ _)
  · exact k.refl s

/-! ### Entries into OFF and FAULT -/

theorem leaveService {z : ZoneId} {st : ZoneState} {f : State → State} {s : State} (left : R s (leaving z st s))
    (ended : ∀ s, R s (f s)) : R s (leaveService z st f s) :=
  k.trans (k.trans (k.trans left (ended _)) (k.releaseCabinet _ _)) (k.closeTask _ _ _)

theorem enterOff {z : ZoneId} {f : State → State} {s : State} (left : R s (leaving z .off s)) (done : ∀ s, R s (f s)) :
    R s (enterOff z f s) :=
  k.trans (k.trans (k.leaveService left (k.endProgramOff z)) (done _)) (k.postZoneState _ _ _)

theorem enterFault {z : ZoneId} {cause : FaultCause} {r : Zone} {s : State} (zone : s.zones.get z = some r)
    (from_ : r.state ≠ .fault) : R s (enterFault z cause s) :=
  k.trans (k.trans (k.trans (k.leaveService (k.leave z .fault r s zone from_ (.inr rfl)) (k.endProgramFault z))
    (k.changeZone fun r _ => .tally r.recoverTimer r.slowRaised r.overCount r.overArmed cause r.cleanCount))
    (k.raise _ _ _ _)) (k.postZoneState _ _ _)

/-! ### Setpoints and steps -/

theorem changeSetpoint {z : ZoneId} {v : Nat} {r : Zone} {s : State} (zone : s.zones.get z = some r) (offers : r.Offers v) :
    R s (changeSetpoint z v s) := by
  have pointed : R s (s.setZone z { r with setpoint := v }) := k.edit z r _ s zone (.point v offers)
  have followed : R s (s.setZone z (({ r with setpoint := v } : Zone).setActive
      (({ r with setpoint := v } : Zone).setpointFor r.state))) :=
    k.edit z r _ s zone (.trans (.point v offers) .follow)
  have moved : r.state ≠ .fault → R s (Machine.enterQuietly z .preheat (s.setZone z { r with setpoint := v })) := fun from_ =>
    k.trans pointed (k.enterQuietly (r := { r with setpoint := v }) (by simp) from_ (by decide) (by decide))
  unfold Machine.changeSetpoint
  rw [zone]
  dsimp only
  split
  · exact k.refl s
  split
  · next state => exact moved (by rw [state]; decide)
  · next state => exact moved (by rw [state]; decide)
  · next state => exact moved (by rw [state]; decide)
  all_goals exact followed

theorem applyStep (z : ZoneId) (n : Nat) (s : State) : R s (applyStep z n s) := by
  unfold Machine.applyStep
  split
  · next r zone =>
    split
    · next g program =>
      split
      · next st step =>
        have listed : st ∈ g.steps := by
          unfold Program.step? at step
          split at step
          · cases step
          · exact List.mem_of_getElem? step
        have now := setZone_same z { r with
          soakTime := st.soakTime
          program := some { g with state := .running, current := n, timer := stepTicks st.duration } } s
        refine k.trans (k.edit z r _ s zone (.program g _ st.soakTime program (.run .running n (stepTicks st.duration) g.lastRun))) ?_
        exact k.changeSetpoint now (.inr ⟨_, rfl, .inr ⟨st, listed, rfl⟩⟩)
      · exact k.refl s
    · exact k.refl s
  · exact k.refl s

theorem finishProgram (z : ZoneId) (s : State) : R s (finishProgram z s) := by
  unfold Machine.finishProgram
  split
  · next g program =>
    obtain ⟨r, zone, hg⟩ := Option.bind_eq_some_iff.mp program
    have ran : (s.changeZone z fun r => { r with program := some { g with
        state := .done, lastRun := g.current, timer := 0 } }).zones.get z = some { r with program := some { g with
        state := .done, lastRun := g.current, timer := 0 } } := by
      simp [State.changeZone, zone]
    refine k.trans (k.trans (k.trans (k.runProgram program .done g.current 0 g.current) ?_) (k.raise _ _ _ _)) (k.post _ _ _ _)
    exact k.changeSetpoint ran (.inr ⟨_, rfl, .inl rfl⟩)
  · exact k.refl s

/-! ### Conversions and timers -/

theorem followReading {z : ZoneId} {r : Zone} {v : Nat} {s : State} (zone : s.zones.get z = some r) :
    R s (followReading z r v s) := by
  unfold Machine.followReading
  split
  · next state =>
    have from_ : r.state ≠ .fault := by rw [state]; decide
    split
    · split
      · exact k.enterReady zone from_
      · exact k.enterQuietly zone from_ (by decide) (by decide)
    · exact k.refl s
  · next state =>
    split
    · exact k.refl s
    · exact k.enterQuietly zone (by rw [state]; decide) (by decide) (by decide)
  · next state =>
    split
    · exact k.refl s
    · exact k.enterQuietly zone (by rw [state]; decide) (by decide) (by decide)
  · next state =>
    split
    · exact k.enterReady zone (by rw [state]; decide)
    · exact k.refl s
  all_goals exact k.refl s

theorem takeReading {z : ZoneId} {r : Zone} {v : Nat} {s : State} (zone : s.zones.get z = some r) (from_ : r.state ≠ .fault) :
    R s (takeReading z r v s) := by
  unfold Machine.takeReading
  split
  · exact k.enterFault zone from_
  split
  · exact k.refl s
  have tested : R s (s.setZone z (r.overTest v)) := k.edit z r _ s zone (r.overTest_edit v)
  have now : (s.setZone z (r.overTest v)).zones.get z = some (r.overTest v) := setZone_same _ _ _
  dsimp only
  split
  · exact k.trans tested (k.enterFault now (by rw [r.overTest_state]; exact from_))
  · exact k.trans tested (k.followReading now)

theorem handZone (c : ChannelId) (v : Option Nat) (failed : Bool) (s : State) (z : ZoneId) : R s (handZone c v failed s z) := by
  unfold Machine.handZone
  split
  · next r zone =>
    split
    · exact k.refl s
    split
    · exact k.edit z r _ s zone (r.countClean_edit v)
    · next from_ =>
      split
      · exact k.takeReading zone from_
      split
      · exact k.enterFault zone from_
      · exact k.refl s
  · exact k.refl s

theorem sensorConversion (code : BitVec 12) (s : State) : R s (sensorConversion code s) := by
  unfold Machine.sensorConversion
  dsimp only
  split
  · exact k.trans (k.trans (k.scan _ s) (k.fold _ (k.handZone _ _ _) _ _)) (k.lower _ _ _)
  · exact k.trans (k.scan _ s) (k.fold _ (k.handZone _ _ _) _ _)

theorem soakExpiry (z : ZoneId) (s : State) : R s (soakExpiry z s) := by
  unfold Machine.soakExpiry
  split
  · next r zone =>
    split
    · next h => exact k.enterReady zone (by rw [h.1]; decide)
    · exact k.refl s
  · exact k.refl s

theorem standbyExpiry (z : ZoneId) (s : State) : R s (standbyExpiry z s) := by
  unfold Machine.standbyExpiry
  split
  · next r zone =>
    split
    · next h => exact k.enterQuietly zone (by rw [h.1]; decide) (by decide) (by decide)
    · exact k.refl s
  · exact k.refl s

theorem recoverLimitReached (z : ZoneId) (s : State) : R s (recoverLimitReached z s) := by
  unfold Machine.recoverLimitReached
  split
  · next r zone =>
    split
    · exact k.trans (k.edit z r _ s zone (.tally _ _ r.overCount r.overArmed r.faultCause r.cleanCount)) (k.raise _ _ _ _)
    · exact k.refl s
  · exact k.refl s

theorem stepExpiry (z : ZoneId) (s : State) : R s (stepExpiry z s) := by
  unfold Machine.stepExpiry
  split
  · split
    · split
      · exact k.refl s
      split
      · split
        · exact k.holdProgram z s
        · split
          · exact k.applyStep _ _ _
          · exact k.finishProgram _ _
        · split
          · exact k.trans (k.applyStep _ _ _) (k.raise _ _ _ _)
          · exact k.finishProgram _ _
      · exact k.refl s
    · exact k.refl s
  · exact k.refl s

theorem pauseOwned (p : PortId) (s : State) (z : ZoneId) : R s (pauseOwned p s z) := by
  unfold Machine.pauseOwned
  split
  · next r zone =>
    split
    · next h => exact k.enterPaused zone (by intro e; rw [e] at h; cases h.2)
    · exact k.refl s
  · exact k.refl s

theorem supervisionExpiry (p : PortId) (s : State) : R s (supervisionExpiry p s) := by
  unfold Machine.supervisionExpiry
  split
  · unfold enterSilent
    exact k.trans (k.trans (k.trans (k.port p none s) (k.fold _ (k.pauseOwned p) _ _)) (k.raise _ _ _ _)) (k.post _ _ _ _)
  · exact k.refl s

/-! ### Every command that reaches the zones -/

theorem zoneDefine {p : PortId} {v : ZoneSettings} (s : State) : R s (zoneDefine p v s).state := by
  refine zoneDefine_cases (motive := fun a => R s a.state) (fun _ => k.refl s) fun n kind channel loads group _ listed _ _ free => ?_
  rw [acceptClamped_state]
  have defined := k.define n kind channel loads group p v s listed free
  have zone : (rebind n loads (s.setZone n (definedZone p v kind channel loads group (s.zones.get n)))).zones.get n =
      some (definedZone p v kind channel loads group (s.zones.get n)) := setZone_same n _ s
  exact k.trans defined (k.enterOff (k.leave n .off _ _ zone nofun (.inl rfl)) k.refl)

theorem zoneSetpoint {p : PortId} {zone a b c : Nat} (s : State) : R s (zoneSetpoint p zone a b c s).state := by
  refine zoneSetpoint_cases (motive := fun a => R s a.state) (fun _ => k.refl s) fun z r _ hr => ?_
  dsimp only
  rw [acceptClamped_state]
  refine k.trans (k.edit z r _ s hr (.trans (.bounds b c) .follow)) (k.changeSetpoint (setZone_same _ _ _) (.inl ⟨a, ?_⟩))
  rw [Zone.setActive_kind]

theorem effect (i : Instr) (s : State) (zones : Block.zones ∈ writes i) (sliced : Block.time ∉ writes i)
    (cleared : ∀ t zone, i = .zoneClear t zone → ∀ z r, zone = z.val → s.zones.get z = some r → r.state = .fault →
      R s (leaving z .off s))
    (plates : movesPlates i = true → R s (effect i s)) : R s (effect i s) := by
  have left : ∀ why, R s (refuse why s).state := fun _ => k.refl s
  cases i
  case zoneDefine => exact k.zoneDefine s
  case zoneSetpoint => exact k.zoneSetpoint s
  case zoneStart =>
    exact zoneStart_cases (motive := fun a => R s a.state) left fun z r hr off =>
      k.enterQuietly hr (by rw [off]; decide) (by decide) (by decide)
  case zoneResume =>
    exact zoneResume_cases (motive := fun a => R s a.state) left fun z r hr paused =>
      k.enterQuietly hr (by rw [paused]; decide) (by decide) (by decide)
  case zoneStop =>
    exact zoneStop_cases (motive := fun a => R s a.state) left (k.refl s) fun z r hr _ notFault =>
      k.enterOff (k.leave z .off r s hr notFault (.inl rfl)) k.refl
  case zonePause =>
    exact zonePause_cases (motive := fun a => R s a.state) left (k.refl s) fun z r hr heats =>
      k.enterPaused hr (by intro e; rw [e] at heats; cases heats)
  case zoneClear t zone =>
    exact zoneClear_cases (motive := fun a => R s a.state) left fun z r hr hz fault _ =>
      k.enterOff (cleared t zone rfl z r hz hr fault) (k.clear _ _)
  case programStep =>
    refine programStep_cases (motive := fun a => R s a.state) left fun z r g i act _ hr hk hg => ?_
    exact k.edit z r _ s hr (.program g _ r.soakTime hg (.draft i _ _ _ act))
  case programLoad =>
    refine programLoad_cases (motive := fun a => R s a.state) left fun z r g steps _ hr hk hg few hs => ?_
    exact k.edit z r _ s hr (.program g _ r.soakTime hg (.load _ _ steps few hs))
  case programRun =>
    refine programRun_cases (motive := fun a => R s a.state) left fun z r g hr hk hg off => ?_
    have applied := k.applyStep z 1 s
    rw [accept_state]
    obtain ⟨q, hq, state⟩ := applyStep_of_off 1 hr off
    exact k.trans applied (k.enterQuietly hq (by rw [state]; decide) (by decide) (by decide))
  case programAdvance =>
    exact programAdvance_cases (motive := fun a => R s a.state) left
      (fun z r g _ _ _ => k.trans (k.applyStep _ _ s) (k.clear _ _ _))
      (fun z r g _ _ _ => k.trans (k.finishProgram _ s) (k.clear _ _ _))
  case programAbort =>
    exact programAbort_cases (motive := fun a => R s a.state) left (k.refl s) fun z r g _ _ _ => k.abortProgram z s
  case sensorConversion code => rw [effect_event (f := Machine.sensorConversion code) rfl]; exact k.sensorConversion code s
  case soakTimerExpiry z => rw [effect_event (f := Machine.soakExpiry z) rfl]; exact k.soakExpiry z s
  case recoverTimerLimit z => rw [effect_event (f := Machine.recoverLimitReached z) rfl]; exact k.recoverLimitReached z s
  case standbyTimerExpiry z => rw [effect_event (f := Machine.standbyExpiry z) rfl]; exact k.standbyExpiry z s
  case stepTimerExpiry z => rw [effect_event (f := Machine.stepExpiry z) rfl]; exact k.stepExpiry z s
  case supervisionTimerExpiry p => rw [effect_event (f := Machine.supervisionExpiry p) rfl]; exact k.supervisionExpiry p s
  case sliceAdvance => exact (sliced List.mem_cons_self).elim
  case frameBoundary => exact (sliced List.mem_cons_self).elim
  all_goals first
    | exact plates rfl
    | exact (not_writes (List.mem_singleton_self _) zones rfl).elim

end ServedOps

namespace ZoneOps

variable {R : State → State → Prop} (k : ZoneOps R)
include k

/-! ### The line, the wares and the courses -/

theorem condemn (r : Rack) (s : State) : R s (condemn r s) := k.trans (k.ware _ _ s) (k.raise _ _ _ _)

theorem lineFault (f : LineFault) (s : State) : R s (lineFault f s) :=
  k.trans (k.line { s.line with faults := saturate 65535 s.line.faults } s rfl rfl rfl) (k.post _ _ _ _)

theorem unloadRack (s : State) : R s (unloadRack s) := by
  unfold Machine.unloadRack
  split
  · exact k.lineFault _ s
  dsimp only
  split
  · exact k.trans (k.trans (k.head s) (k.lineFault _ _)) (k.condemn _ _)
  · exact k.trans (k.trans (k.head s) (k.lineFault _ _)) (k.condemn _ _)
  · split
    · exact k.trans (k.trans (k.head s) (k.ware _ _ _)) (k.wakeTasks _ _)
    · exact k.trans (k.head s) (k.condemn _ _)
    · exact k.trans (k.head s) (k.condemn _ _)

theorem rackOut (s : State) : R s (rackOut s) :=
  k.trans (k.line (flipLevel s.line .rackOut) s rfl rfl rfl) (k.unloadRack _)

theorem purchase (w : WareId) (n : Nat) (s : State) (l : Location) : R s (purchase w n s l) := by
  cases l with
  | soiled => exact k.ware _ _ s
  | clean => exact k.trans (k.ware _ _ s) (k.wakeTasks _ _)
  | out => exact k.refl s
  | cabinet z => exact k.refl s

theorem removal (w : WareId) (n : Nat) (s : State) (l : Location) : R s (removal w n s l) := by
  cases l with
  | soiled => exact k.ware _ _ s
  | clean => exact k.ware _ _ s
  | out => exact k.ware _ _ s
  | cabinet z =>
    unfold Machine.removal
    dsimp only
    split
    · next c cabinet =>
      have bought := k.ware w { s.wares.get w with total := (s.wares.get w).total - n } s
      exact k.trans (k.trans (k.trans bought (k.cabinet z c { c with stock := c.stock - n } _ cabinet)) (k.report _ _ _))
        (k.testRestock _ _)
    · exact k.refl s

theorem confirmRestock {z : ZoneId} {w : WareId} {c : Cabinet} (m : Nat) {s : State} (cabinet : s.cabinet? z = some c) :
    R s (confirmRestock z w c m s) :=
  k.trans (k.trans (k.trans (k.trans (k.trans (k.ware _ _ s) (k.cabinet z c _ _ cabinet)) (k.closeTask _ _ _)) (k.report _ _ _))
    (k.rerunCourses _ _)) (k.testRestock _ _)

theorem drawPlate (z : ZoneId) (s : State) : R s (drawPlate z s) := by
  unfold Machine.drawPlate
  split
  · next c cabinet =>
    dsimp only
    have drawn := k.cabinet z c { c with stock := c.stock - 1, reserved := c.reserved - 1 } s cabinet
    split
    · exact k.trans (k.trans (k.trans drawn (k.ware _ _ _)) (k.report _ _ _)) (k.testRestock _ _)
    · exact k.trans (k.trans drawn (k.report _ _ _)) (k.testRestock _ _)
  · exact k.refl s

theorem plateOne (c : CourseId) (s : State) : R s (plateOne c s) := by
  unfold Machine.plateOne
  split
  · exact k.trans (k.changeCourse fun r live => .drawn c r live) (k.drawPlate _ _)
  · exact k.refl s

theorem platePlates (c : CourseId) (n : Nat) (s : State) : R s (platePlates c n s) := by
  induction n generalizing s with
  | zero => exact k.refl s
  | succ n ih => exact k.trans (k.plateOne c s) (ih _)

theorem refill (s : State) (z : ZoneId) : R s (refill s z) := k.trans (k.rerunCourses _ _) (k.testRestock _ _)

theorem closeCourse (c : CourseId) (r : Course) (s : State) : R s (closeCourse c r s) := by
  unfold Machine.closeCourse
  dsimp only
  refine k.trans (k.trans (k.trans ?_ (k.freeCourse _ _)) (k.post _ _ _ _)) (k.fold _ k.refill _ _)
  have released := k.fold (fun s (e : ZoneId × Nat) => Machine.releasePlates e.1 e.2 s)
    (fun s e => k.releasePlates e.1 e.2 s) r.entries s
  split
  · exact k.trans released (k.clear _ _ _)
  · exact released

theorem effect (i : Instr) (s : State) (zones : Block.zones ∈ writes i) (sliced : Block.time ∉ writes i)
    (cleared : ∀ t zone, i = .zoneClear t zone → ∀ z r, zone = z.val → s.zones.get z = some r → r.state = .fault →
      R s (leaving z .off s)) : R s (effect i s) := by
  refine k.served.effect i s zones sliced cleared fun plates => ?_
  have left : ∀ why, R s (refuse why s).state := fun _ => k.refl s
  cases i
  case cabinetSet =>
    exact cabinetSet_cases (motive := fun a => R s a.state) left (k.refl s) fun z c w hc _ _ =>
      k.trans (k.trans (k.trans (k.cabinet z c _ s hc) (k.closeTask _ _ _)) (k.report _ _ _)) (k.testRestock _ _)
  case wareAdjust =>
    exact wareAdjust_cases (motive := fun a => R s a.state) left (k.refl s) (fun w l _ _ _ _ _ => k.purchase _ _ s l)
      fun w l _ _ _ _ _ _ => k.removal _ _ s l
  case restockConfirm =>
    exact restockConfirm_cases (motive := fun a => R s a.state) left fun z c w _ hc _ => k.confirmRestock _ hc
  case courseFire =>
    exact courseFire_cases (motive := fun a => R s a.state) left fun w g cs c listed _ _ =>
      k.trans (k.courses (.seated c _ rfl (length_of_cabinetList? listed))) (k.runPass _ _ _ _)
  case coursePlated =>
    refine coursePlated_cases (motive := fun a => R s a.state) left fun c r _ _ => ?_
    have plated := fun n (m : Nat) =>
      k.trans (k.platePlates c n s) (k.changeCourse (f := fun q => { q with plated := m }) fun q live => .plated c q m live)
    dsimp only
    rw [acceptClamped_state]
    split
    · exact k.trans (k.trans (plated _ _) (k.post _ _ _ _)) (k.freeCourse _ _)
    · exact plated _ _
  case courseClose => exact courseClose_cases (motive := fun a => R s a.state) left fun c r _ => k.closeCourse c r s
  case rackOut => rw [effect_event (f := Machine.rackOut) rfl]; exact k.rackOut s
  all_goals exact Bool.noConfusion plates

end ZoneOps

end Sys2Proof.Machine
end

section
/-! PROOF. Relations on each zone's record by itself, and laws on it: what every record edit keeps, every command keeps. -/

namespace Sys2Proof.Machine

/-! ### What the moves leave of the zone table -/

theorem moveZone_zones (z : ZoneId) (st : ZoneState) (s : State) :
    (moveZone z st s).zones = (s.changeZone z fun r => r.enter st).zones := (testPermit_within _).zones (by simp)

theorem leaving_zones (z : ZoneId) (st : ZoneState) (s : State) :
    (leaving z st s).zones = (s.changeZone z fun r => r.enter st).zones := by
  have cut := (cutLoads_cut (zoneLoads (zeroMinimums z (moveZone z st s)) z) (zeroMinimums z (moveZone z st s))).placement.zones
  rw [leaving, cut, (zeroMinimums_within z _).zones (by simp), moveZone_zones]

/-- What a refresh of the standby timer does to the records (R71). -/
theorem refreshStandby_eq (z : ZoneId) (s : State) :
    refreshStandby z s = s ∨ ∃ r t, s.zones.get z = some r ∧ refreshStandby z s = s.setZone z { r with standbyTimer := t } := by
  unfold refreshStandby
  split
  · next r zone =>
    split
    · split
      · split
        · exact .inl rfl
        · exact .inr ⟨r, _, zone, rfl⟩
      · exact .inr ⟨r, _, zone, rfl⟩
    · exact .inl rfl
  · exact .inl rfl

/-- A cabinet stands in a WARMER's record. -/
theorem cabinet?_eq_some {s : State} {z : ZoneId} {c : Cabinet} :
    s.cabinet? z = some c ↔ ∃ r, s.zones.get z = some r ∧ r.kind = .warmer ∧ r.cabinet = some c := by
  unfold State.cabinet?
  split
  · next r zone =>
    split
    · next warmer => simp [zone, warmer]
    · next other => simp [zone, other]
  · next none => simp [none]

theorem setCabinet_eq {s : State} {z : ZoneId} {c : Cabinet} {r : Zone} (zone : s.zones.get z = some r) :
    s.setCabinet z c = s.setZone z { r with cabinet := some c } := by
  rw [State.setCabinet, State.changeZone, zone]

/-! ### Relations on a record -/

/-- A relation on the records of one zone, with what is asked of a zone that comes to be defined. -/
def RecordsRelated (Q : Zone → Zone → Prop) (N : Zone → Prop) : Option Zone → Option Zone → Prop
  | none, none => True
  | none, some r => N r
  | some r, some r' => Q r r'
  | some _, none => False

/-- Every zone's records before and after are related. -/
def ZonesRelated (Q : Zone → Zone → Prop) (N : Zone → Prop) (s t : State) : Prop :=
  ∀ z, RecordsRelated Q N (s.zones.get z) (t.zones.get z)

/-- A relation that the parts of what is done to a record are in. -/
structure RecordOps (Q : Zone → Zone → Prop) (N : Zone → Prop) : Prop where
  refl : ∀ r, Q r r
  trans : ∀ {a b c}, Q a b → Q b c → Q a c
  started : ∀ {a b}, N a → Q a b → N b
  enter : ∀ r st, r.state ≠ .fault → Q r (r.enter st)
  edit : ∀ {a b}, ZoneEdit a b → Q a b
  standby : ∀ (r : Zone) t, Q r { r with standbyTimer := t }
  cabinet : ∀ (r : Zone) c, r.kind = .warmer → Q r { r with cabinet := some c }
  defined : ∀ p v kind channel loads group, loadList? v.loads = some loads → N (definedZone p v kind channel loads group none)
  again : ∀ p v kind channel loads group r, loadList? v.loads = some loads → r.state = .off →
    Q r (definedZone p v kind channel loads group (some r))

section
variable {Q : Zone → Zone → Prop} {N : Zone → Prop} (k : RecordOps Q N)
include k

theorem RecordOps.of_zones {s t : State} (h : t.zones = s.zones) : ZonesRelated Q N s t := fun z => by
  rw [h]
  cases s.zones.get z with
  | none => trivial
  | some r => exact k.refl r

theorem RecordOps.setZone {z : ZoneId} {r r' : Zone} {s : State} (zone : s.zones.get z = some r) (h : Q r r') :
    ZonesRelated Q N s (s.setZone z r') := fun y => by
  rw [State.setZone_zones, Table.get_set]
  split
  · next same =>
    subst same
    rw [zone]
    exact h
  · cases s.zones.get y with
    | none => trivial
    | some q => exact k.refl q

theorem RecordOps.transitive {s t u : State} (h : ZonesRelated Q N s t) (g : ZonesRelated Q N t u) : ZonesRelated Q N s u := fun z => by
  have first := h z
  have second := g z
  revert first second
  cases s.zones.get z <;> cases t.zones.get z <;> cases u.zones.get z <;> intro first second
  case none.none.none => trivial
  case none.none.some => exact second
  case none.some.some => exact k.started first second
  case some.some.some => exact k.trans first second
  all_goals first | exact first.elim | exact second.elim

theorem RecordOps.moved {z : ZoneId} {st : ZoneState} {r : Zone} {s t : State} (zone : s.zones.get z = some r)
    (same : t.zones = (s.changeZone z fun r => r.enter st).zones) (h : Q r (r.enter st)) : ZonesRelated Q N s t := by
  have set : s.changeZone z (fun r => r.enter st) = s.setZone z (r.enter st) := by rw [State.changeZone, zone]
  rw [set] at same
  exact k.transitive (k.setZone zone h) (k.of_zones same)

theorem RecordOps.wake {z : ZoneId} {s : State} (state : s.zoneState z = .standby) : ZonesRelated Q N s (moveZone z .preheat s) := by
  unfold State.zoneState at state
  split at state
  · next r zone => exact k.moved zone (moveZone_zones _ _ _) (k.enter r _ (by rw [state]; decide))
  · cases state

theorem RecordOps.refresh (z : ZoneId) (s : State) : ZonesRelated Q N s (refreshStandby z s) := by
  rcases refreshStandby_eq z s with same | ⟨r, t, zone, set⟩
  · rw [same]; exact k.of_zones rfl
  · rw [set]; exact k.setZone zone (k.standby r t)

theorem RecordOps.setCabinet {z : ZoneId} {c d : Cabinet} {s : State} (h : s.cabinet? z = some c) :
    ZonesRelated Q N s (s.setCabinet z d) := by
  obtain ⟨r, zone, warmer, -⟩ := cabinet?_eq_some.mp h
  rw [setCabinet_eq zone]
  exact k.setZone zone (k.cabinet r d warmer)

theorem RecordOps.zoneOps : ZoneOps (ZonesRelated Q N) where
  refl s := k.of_zones rfl
  trans := k.transitive
  post _ _ _ _ := k.of_zones rfl
  raise _ _ _ _ := k.of_zones ((raise_touches _ _ _ _).within.zones (by simp))
  clear _ _ _ := k.of_zones ((clearEvent_touches _ _ _).within.zones (by simp))
  opened _ _ _ _ _ := k.of_zones rfl
  closed _ _ := k.of_zones rfl
  woken _ _ := k.of_zones rfl
  refresh := k.refresh
  wake _ _ := k.wake
  reserve _ _ _ _ := k.setCabinet
  courses h := k.of_zones h.zones
  move z st r s zone from_ _ _ := k.moved zone (moveZone_zones _ _ _) (k.enter r st from_)
  leave z st r s zone from_ _ := k.moved zone (leaving_zones _ _ _) (k.enter r st from_)
  edit _ _ _ _ zone h := k.setZone zone (k.edit h)
  cabinet _ _ _ _ := k.setCabinet
  define n kind channel loads group p v s listed free := by
    intro z
    change RecordsRelated Q N (s.zones.get z) ((s.setZone n _).zones.get z)
    rw [State.setZone_zones, Table.get_set]
    split
    · next same =>
      subst same
      cases zone : s.zones.get z with
      | none => exact k.defined p v kind channel loads group listed
      | some r =>
        have off : r.state = .off := (free_of_defineConflict free).1 r zone
        exact k.again p v kind channel loads group r listed off
    · cases s.zones.get z with
      | none => trivial
      | some q => exact k.refl q
  ware _ _ _ := k.of_zones rfl
  scan _ _ := k.of_zones rfl
  line _ _ _ _ _ := k.of_zones rfl
  lower _ _ _ := k.of_zones ((lowerMinimums_within _ _ _).zones (by simp))
  head _ := k.of_zones rfl
  port _ _ _ := k.of_zones rfl

end

/-! ### Laws on a record -/

/-- Every defined zone's record meets a law. -/
def AllZones (P : Zone → Prop) (s : State) : Prop := ∀ z, ∀ r ∈ s.zones.get z, P r

theorem AllZones.depends (P : Zone → Prop) : DependsOn (AllZones P) [.zones] := by
  intro s t same h z
  have zones : t.zones = s.zones := same .zones (by simp)
  rw [zones]
  exact h z

theorem AllZones.of_related {P : Zone → Prop} {s t : State} (h : ZonesRelated (fun a b => P a → P b) P s t) (all : AllZones P s) :
    AllZones P t := fun z r zone => by
  have related := h z
  rw [Option.mem_def.mp zone] at related
  cases before : s.zones.get z with
  | none => rw [before] at related; exact related
  | some q => rw [before] at related; exact related (all z q before)

/-- The zones of a boundary are those before it, with their requests computed (R65). -/
theorem frameBoundary_zone (s : State) (z : ZoneId) :
    (frameBoundary s).zones.get z = (s.zones.get z).map fun r => { r with duty := r.dutyRequest (zoneReading s r) } := by
  have moved := stagedMove_within { s with time := newFrameTime s.time }
  have zones : (boundaryMoved s).zones = s.zones := moved.zones (by simp)
  have scan : (boundaryMoved s).scan = s.scan := moved.scan (by simp)
  rw [frameBoundary_eq, postClippeds_eq, buildFrame_eq]
  change (computeRequests (boundaryMoved s)).zones.get z = _
  simp only [computeRequests, Table.get_map, zones, zoneReading, scan]

/-- A law on a zone's record that everything done to one keeps. -/
structure RecordLaw (P : Zone → Prop) : Prop extends RecordOps (fun a b => P a → P b) P where
  cleared : ∀ r, P r → P (r.enter .off)
  duty : ∀ (r : Zone) d, P r → P { r with duty := d }
  tick : ∀ r, P r → P r.tick

section
variable {P : Zone → Prop} (k : RecordLaw P)
include k

theorem RecordLaw.effect (i : Instr) (s : State) (h : ∃ b ∈ [Block.zones], b ∈ writes i) (all : AllZones P s) :
    AllZones P (effect i s) := by
  obtain ⟨b, hb, hw⟩ := h
  rw [List.mem_singleton] at hb
  subst hb
  have boundary : AllZones P (frameBoundary s) := fun z r zone => by
    rw [frameBoundary_zone] at zone
    obtain ⟨q, before, rfl⟩ := Option.map_eq_some_iff.mp zone
    exact k.duty q _ (all z q before)
  by_cases sliced : Block.time ∈ writes i
  · cases i
    case sliceAdvance =>
      rw [effect_event (f := sliceAdvance) rfl, sliceAdvance]
      split
      · exact all
      · exact boundary
    case frameBoundary => rw [effect_event (f := frameBoundary) rfl]; exact boundary
    all_goals first
      | exact (not_writes (List.mem_singleton_self _) hw rfl).elim
      | exact (not_writes (List.mem_singleton_self _) sliced rfl).elim
  · refine AllZones.of_related (k.zoneOps.effect i s hw sliced fun _ _ _ z r _ zone _ => ?_) all
    exact k.moved zone (leaving_zones _ _ _) (k.cleared r)

/-- A law on each zone's record is kept by every step. -/
theorem RecordLaw.kept : KeptBy (AllZones P) :=
  keptBy_of_blocks (AllZones.depends P) (by simp) k.effect
    (fun s chip ports z r zone => by rw [resetBlocks_zone] at zone; cases zone)
    fun s all z r zone => by
      rw [countTick_eq] at zone
      rw [Option.mem_def, Table.get_map] at zone
      obtain ⟨q, before, rfl⟩ := Option.map_eq_some_iff.mp zone
      exact k.tick q (all z q before)

end

end Sys2Proof.Machine
end

section
/-! PROOF. The laws on each zone's record that every step keeps: setpoints in their kinds' ranges (R64), lists of the lengths that
a reply holds (R60, R80), and a cabinet record where the zone is a WARMER (R124). -/

namespace Sys2Proof.Machine

/-! ### What an entry does to a record -/

theorem Zone.setActive_eq (r : Zone) (v : Nat) : ∃ armed count, r.setActive v = { r with
    active := v, overArmed := armed, overCount := count } := by
  unfold Zone.setActive
  split
  · exact ⟨_, _, rfl⟩
  · exact ⟨_, _, rfl⟩

/-- R64 and R66 to R76: an entry sets the state, the active setpoint, timers and counts. -/
theorem Zone.enter_eq (r : Zone) (st : ZoneState) : ∃ soak recover slow standby armed count cause clean, r.enter st = { r with
    state := st, active := r.setpointFor st, soakTimer := soak, recoverTimer := recover, slowRaised := slow
    standbyTimer := standby, overArmed := armed, overCount := count, faultCause := cause, cleanCount := clean } := by
  have same : ∀ (a : Option Nat) b c d, ({ r with state := st, soakTimer := a, recoverTimer := b, slowRaised := c, standbyTimer := d } :
      Zone).setpointFor st = r.setpointFor st := fun a b c d => by cases st <;> rfl
  obtain ⟨armed, count, active⟩ := ({ r with
    state := st, soakTimer := none, recoverTimer := none, slowRaised := false, standbyTimer := none } : Zone).setActive_eq
      (r.setpointFor st)
  simp only [Zone.enter, same, active]
  cases st <;> exact ⟨_, _, _, _, _, _, _, _, rfl⟩

theorem Zone.enter_state (r : Zone) (st : ZoneState) : (r.enter st).state = st := by
  obtain ⟨_, _, _, _, _, _, _, _, e⟩ := r.enter_eq st
  rw [e]

theorem Zone.enter_loads (r : Zone) (st : ZoneState) : (r.enter st).loads = r.loads := by
  obtain ⟨_, _, _, _, _, _, _, _, e⟩ := r.enter_eq st
  rw [e]

theorem Zone.enter_kind (r : Zone) (st : ZoneState) : (r.enter st).kind = r.kind := by
  obtain ⟨_, _, _, _, _, _, _, _, e⟩ := r.enter_eq st
  rw [e]

theorem Zone.enter_cabinet (r : Zone) (st : ZoneState) : (r.enter st).cabinet = r.cabinet := by
  obtain ⟨_, _, _, _, _, _, _, _, e⟩ := r.enter_eq st
  rw [e]

theorem Zone.enter_program (r : Zone) (st : ZoneState) : (r.enter st).program = r.program := by
  obtain ⟨_, _, _, _, _, _, _, _, e⟩ := r.enter_eq st
  rw [e]

/-! ### Setpoints (R64) -/

theorem ZoneKind.admits_clamp (k : ZoneKind) (v : Nat) : k.admits (k.clampSetpoint v) := by
  unfold ZoneKind.admits ZoneKind.clampSetpoint clampTo
  cases k <;> simp [ZoneKind.setpointRange]

/-- An OVEN's draft and program hold setpoints of its kind's range alone (R81, R82). -/
def Program.Regulated (g : Program) : Prop :=
  ZoneKind.oven.admits g.hold ∧ (∀ st ∈ g.steps, ZoneKind.oven.admits st.setpoint) ∧
    ∀ d ∈ g.draft.items, ∀ st ∈ d, ZoneKind.oven.admits st.setpoint

theorem Table.mem_set_items {α : Type} {n : Nat} {t : Table n α} {i : Fin n} {a b : α} (h : b ∈ (t.set i a).items) :
    b = a ∨ b ∈ t.items := by
  obtain ⟨j, rfl⟩ := Table.mem_items h
  rw [Table.get_set]
  split
  · exact .inl rfl
  · exact .inr (t.get_mem j)

/-- What PROGRAM_LOAD copies stands in the draft (R82). -/
theorem mem_draft_of_draftSteps? {g : Program} {count : Nat} {steps : List ProgramStep} (h : g.draftSteps? count = some steps)
    {st : ProgramStep} (mem : st ∈ steps) : some st ∈ g.draft.items := by
  unfold Program.draftSteps? at h
  have all := forall₂_of_mapM h
  obtain ⟨i, hi, e⟩ := List.mem_iff_getElem.mp mem
  have len := all.length_eq
  have copied := (List.forall₂_iff_get.mp all).2 i (by omega) hi
  simp only [List.get_eq_getElem, id] at copied
  rw [← e, ← copied]
  exact List.mem_of_mem_take (List.getElem_mem _)

theorem length_of_draftSteps? {g : Program} {count : Nat} {steps : List ProgramStep} (h : g.draftSteps? count = some steps) :
    steps.length ≤ count := by
  unfold Program.draftSteps? at h
  rw [← (forall₂_of_mapM h).length_eq, List.length_take]
  exact Nat.min_le_left _ _

theorem Program.Regulated.edit {g g' : Program} (h : g.Regulated) (e : ProgramEdit g g') : g'.Regulated := by
  obtain ⟨hold, steps, draft⟩ := h
  cases e with
  | run => exact ⟨hold, steps, draft⟩
  | draft i w soak duration act =>
    refine ⟨hold, steps, fun d hd st hst => ?_⟩
    rcases Table.mem_set_items hd with rfl | old
    · cases hst
      exact ZoneKind.admits_clamp .oven w
    · exact draft d old st hst
  | load count _ _ _ copied =>
    exact ⟨ZoneKind.admits_clamp .oven _, fun st mem => draft _ (mem_draft_of_draftSteps? copied mem) st rfl, draft⟩

/-- R64 of one zone. -/
def Zone.Regulated (r : Zone) : Prop :=
  r.kind.admits r.active ∧ r.kind.admits r.setpoint ∧ r.kind.admits r.fallback ∧
    (r.standby.isSome ↔ r.kind = .warmer) ∧ (∀ v ∈ r.standby, r.kind.admits v) ∧
    ∀ g ∈ r.program, r.kind = .oven ∧ g.Regulated

theorem Zone.Regulated.setpointFor {r : Zone} (h : r.Regulated) (st : ZoneState) : r.kind.admits (r.setpointFor st) := by
  obtain ⟨active, setpoint, fallback, -, standby, -⟩ := h
  cases st with
  | standby =>
    unfold Zone.setpointFor
    cases e : r.standby with
    | none => exact setpoint
    | some v => exact standby v e
  | paused => exact fallback
  | fault => exact active
  | off | preheat | soak | ready | recover => exact setpoint

theorem Zone.Regulated.setActive {r : Zone} (h : r.Regulated) {v : Nat} (hv : r.kind.admits v) : (r.setActive v).Regulated := by
  obtain ⟨_, _, e⟩ := r.setActive_eq v
  rw [e]
  exact ⟨hv, h.2⟩

theorem Zone.Regulated.enter {r : Zone} (h : r.Regulated) (st : ZoneState) : (r.enter st).Regulated := by
  obtain ⟨_, _, _, _, _, _, _, _, e⟩ := r.enter_eq st
  rw [e]
  exact ⟨h.setpointFor st, h.2⟩

theorem Zone.Regulated.offers {r : Zone} (h : r.Regulated) {v : Nat} (offers : r.Offers v) : r.kind.admits v := by
  obtain ⟨-, -, -, -, -, program⟩ := h
  rcases offers with ⟨w, rfl⟩ | ⟨g, hg, rfl | ⟨st, mem, rfl⟩⟩
  · exact ZoneKind.admits_clamp _ w
  · obtain ⟨oven, hold, -, -⟩ := program g hg
    rwa [oven]
  · obtain ⟨oven, -, steps, -⟩ := program g hg
    rw [oven]
    exact steps st mem

theorem Zone.Regulated.edit {r r' : Zone} (e : ZoneEdit r r') (h : r.Regulated) : r'.Regulated := by
  induction e with
  | tally => exact h
  | point v offers =>
    have admitted := h.offers offers
    obtain ⟨active, -, rest⟩ := h
    exact ⟨active, admitted, rest⟩
  | follow => exact h.setActive (h.setpointFor _)
  | @bounds r fallback standby =>
    obtain ⟨active, setpoint, -, -, -, program⟩ := h
    refine ⟨active, setpoint, ZoneKind.admits_clamp _ _, ?_, fun v hv => ?_, program⟩
    · dsimp only
      split
      · next warmer => simp [warmer]
      · next other => simp [other]
    · dsimp only at hv ⊢
      split at hv
      · next warmer =>
        cases hv
        rw [warmer]
        exact ZoneKind.admits_clamp .warmer standby
      · cases hv
  | program g g' soak hg e =>
    obtain ⟨active, setpoint, fallback, some, standby, program⟩ := h
    obtain ⟨oven, regulated⟩ := program g hg
    refine ⟨active, setpoint, fallback, some, standby, fun q hq => ?_⟩
    cases hq
    exact ⟨oven, regulated.edit e⟩
  | trans _ _ first second => exact second (first h)

theorem Program.fresh_regulated : Program.fresh.Regulated :=
  ⟨by decide, fun _ h => (List.not_mem_nil h).elim, fun d hd st hst => by
    obtain ⟨i, rfl⟩ := Table.mem_items hd
    rw [Program.fresh, Table.get_fill] at hst
    cases hst⟩

theorem definedZone_regulated (p : PortId) (v : ZoneSettings) (kind : ZoneKind) (channel : ChannelId) (loads : List LoadId)
    (group : PageGroup) (old : Option Zone) : (definedZone p v kind channel loads group old).Regulated := by
  refine ⟨ZoneKind.admits_clamp _ _, ZoneKind.admits_clamp _ _, ZoneKind.admits_clamp _ _, ?_, fun w hw => ?_, fun g hg => ?_⟩
  · unfold definedZone
    dsimp only
    split
    · next warmer => simp [warmer]
    · next other => simp [other]
  · unfold definedZone at hw ⊢
    dsimp only at hw ⊢
    split at hw
    · next warmer =>
      cases hw
      rw [warmer]
      exact ZoneKind.admits_clamp .warmer _
    · cases hw
  · unfold definedZone at hg ⊢
    dsimp only at hg ⊢
    split at hg
    · next oven =>
      cases hg
      exact ⟨oven, Program.fresh_regulated⟩
    · cases hg

theorem regulated_law : RecordLaw Zone.Regulated where
  refl _ := id
  trans h k := k ∘ h
  started h k := k h
  enter _ st _ h := h.enter st
  edit e h := h.edit e
  standby _ _ h := h
  cabinet _ _ _ h := h
  defined p v kind channel loads group _ := definedZone_regulated p v kind channel loads group none
  again p v kind channel loads group r _ _ _ := definedZone_regulated p v kind channel loads group (some r)
  cleared _ h := h.enter .off
  duty _ _ h := h
  tick r h := by
    obtain ⟨active, setpoint, fallback, some, standby, program⟩ := h
    refine ⟨active, setpoint, fallback, some, standby, fun g hg => ?_⟩
    obtain ⟨q, hq, rfl⟩ := Option.map_eq_some_iff.mp hg
    obtain ⟨oven, regulated⟩ := program q hq
    refine ⟨oven, ?_⟩
    split
    · exact regulated
    · exact regulated

theorem setpointLaw_step {s w : State} (h : setpointLaw s) (stepped : step s = .next w) : setpointLaw w :=
  regulated_law.kept.step (P := AllZones Zone.Regulated) h stepped

/-! ### Lists of the lengths that a reply holds (R60, R80) -/

theorem length_of_loadList? {ns : List Nat} {loads : List LoadId} (h : loadList? ns = some loads) : loads.length ≤ 4 := by
  unfold loadList? at h
  split at h
  · cases h
  · next short =>
    rw [← (forall₂_of_mapM h).length_eq]
    omega

/-- The lists of a zone's record fit a reply. -/
def Zone.Listed (r : Zone) : Prop := r.loads.length ≤ 4 ∧ ∀ g ∈ r.program, g.steps.length ≤ 8

theorem Zone.Listed.edit {r r' : Zone} (e : ZoneEdit r r') (h : r.Listed) : r'.Listed := by
  induction e with
  | tally => exact h
  | point => exact h
  | follow =>
    unfold Zone.setActive
    split
    · exact h
    · exact h
  | bounds => exact h
  | program g g' soak hg e =>
    refine ⟨h.1, fun q hq => ?_⟩
    cases hq
    cases e with
    | run => exact h.2 g hg
    | draft => exact h.2 g hg
    | load count _ _ few copied => exact (length_of_draftSteps? copied).trans few
  | trans _ _ first second => exact second (first h)

theorem definedZone_listed {ns : List Nat} {loads : List LoadId} (listed : loadList? ns = some loads) (p : PortId)
    (v : ZoneSettings) (kind : ZoneKind) (channel : ChannelId) (group : PageGroup) (old : Option Zone) :
    (definedZone p v kind channel loads group old).Listed := by
  refine ⟨length_of_loadList? listed, fun g hg => ?_⟩
  unfold definedZone at hg
  dsimp only at hg
  split at hg
  · cases hg
    decide
  · cases hg

theorem listed_law : RecordLaw Zone.Listed where
  refl _ := id
  trans h k := k ∘ h
  started h k := k h
  enter r st _ h := by unfold Zone.Listed; rw [r.enter_loads, r.enter_program]; exact h
  edit e h := h.edit e
  standby _ _ h := h
  cabinet _ _ _ h := h
  defined p v kind channel loads group listed := definedZone_listed listed p v kind channel group none
  again p v kind channel loads group r listed _ _ := definedZone_listed listed p v kind channel group (some r)
  cleared r h := by unfold Zone.Listed; rw [r.enter_loads, r.enter_program]; exact h
  duty _ _ h := h
  tick r h := by
    refine ⟨h.1, fun g hg => ?_⟩
    obtain ⟨q, hq, rfl⟩ := Option.map_eq_some_iff.mp hg
    split
    · exact h.2 q hq
    · exact h.2 q hq

/-! ### Cabinets stand in WARMERs (R124) -/

/-- A zone has a cabinet record where it is a WARMER. -/
def Zone.Shelved (r : Zone) : Prop := r.cabinet.isSome ↔ r.kind = .warmer

theorem Zone.Shelved.edit {r r' : Zone} (e : ZoneEdit r r') (h : r.Shelved) : r'.Shelved := by
  induction e with
  | tally => exact h
  | point => exact h
  | follow =>
    unfold Zone.setActive
    split
    · exact h
    · exact h
  | bounds => exact h
  | program => exact h
  | trans _ _ first second => exact second (first h)

theorem definedZone_shelved (p : PortId) (v : ZoneSettings) (kind : ZoneKind) (channel : ChannelId) (loads : List LoadId)
    (group : PageGroup) (old : Option Zone) (h : ∀ r ∈ old, r.Shelved) :
    (definedZone p v kind channel loads group old).Shelved := by
  unfold Zone.Shelved definedZone cabinetAfter
  dsimp only
  split
  · next warmer =>
    split
    · next r =>
      split
      · next was => exact ⟨fun _ => warmer, fun _ => (h r rfl).mpr was⟩
      · exact ⟨fun _ => warmer, fun _ => rfl⟩
    · exact ⟨fun _ => warmer, fun _ => rfl⟩
  · next other => simp [other]

theorem Zone.Shelved.congr {r q : Zone} (h : r.Shelved) (cabinet : q.cabinet = r.cabinet) (kind : q.kind = r.kind) : q.Shelved := by
  unfold Zone.Shelved
  rw [cabinet, kind]
  exact h

theorem shelved_law : RecordLaw Zone.Shelved where
  refl _ := id
  trans h k := k ∘ h
  started h k := k h
  enter r st _ h := h.congr (r.enter_cabinet st) (r.enter_kind st)
  edit e h := h.edit e
  standby _ _ h := h.congr rfl rfl
  cabinet _ _ warmer _ := ⟨fun _ => warmer, fun _ => rfl⟩
  defined p v kind channel loads group _ := definedZone_shelved p v kind channel loads group none fun _ hq => nomatch hq
  again p v kind channel loads group r _ _ h := definedZone_shelved p v kind channel loads group (some r) fun _ hq =>
    Option.some.inj hq ▸ h
  cleared r h := h.congr (r.enter_cabinet .off) (r.enter_kind .off)
  duty _ _ h := h.congr rfl rfl
  tick _ h := h.congr rfl rfl

end Sys2Proof.Machine
end

section
/-! PROOF. The ports: apart from READ_NOTICE and SUPERVISE_SET no command does more to a port than post to it, so no queue is
longer than 16 (R184) and no reply longer than 160 bytes (R190). -/

namespace Sys2Proof.Machine

/-! ### Commands post and do no more to the ports -/

theorem leaving_grown (z : ZoneId) (st : ZoneState) (s : State) : Grown s (leaving z st s) :=
  (moveZone_grown z st s).trans (((Grown.of_ports ((zeroMinimums_within z _).ports (by simp))).trans
    (Grown.of_ports ((cutLoads_touches _ _).within.ports (by simp)))))

theorem setPort_grown {p : PortId} {v : Port} {s : State} (h : PortGrown (s.ports.get p) v) : Grown s (s.setPort p v) := fun q => by
  rw [State.setPort_ports, Table.get_set]
  split
  · next same => subst same; exact h
  · exact PortGrown.refl _

theorem grown_zoneOps : ZoneOps Grown where
  toServiceOps := grown_ops
  move z st _ s _ _ _ _ := moveZone_grown z st s
  leave z st _ s _ _ _ := leaving_grown z st s
  edit _ _ _ _ _ _ := Grown.of_ports rfl
  cabinet _ _ _ _ _ := Grown.of_ports (State.changeZone_ports _ _ _)
  define _ _ _ _ _ _ _ _ _ _ := Grown.of_ports rfl
  ware _ _ _ := Grown.of_ports rfl
  scan _ _ := Grown.of_ports rfl
  line _ _ _ _ _ := Grown.of_ports rfl
  lower _ _ _ := Grown.of_ports ((lowerMinimums_within _ _ _).ports (by simp))
  head _ := Grown.of_ports rfl
  port _ _ _ := setPort_grown ⟨rfl, rfl, fun _ h => h, le_rfl, id, id⟩

theorem closePage_grown (p : Page) (o : Outcome) (s : State) : Grown s (closePage p o s) :=
  (Grown.of_ports rfl : Grown s (dropReoffer p.id (removePage p.id s))).trans (post_grown _ _ _ _)

theorem release_grown (e : EntryId) (s : State) : Grown s (release e s) := Grown.of_ports (release_ports e s)

theorem requeuePage_grown (i : PageId) (f : Page → Page) (s : State) : Grown s (requeuePage i f s) := Grown.of_ports rfl

/-- The current page of an entry that goes off duty goes back to QUEUED, a cancel request standing for it where it was OFFERED
(R154). -/
def dropCurrent (m : Staff) (s : State) : State :=
  match m.current with
  | some id =>
    requeuePage id (fun p => p)
      (match s.page? id with
      | some p => if p.state = .offered then pushCancel { page := id, address := m.address } s else s
      | none => s)
  | none => s

/-- Its suspended page goes back to QUEUED (R154). -/
def dropSuspended (m : Staff) (s : State) : State :=
  match m.suspended with
  | some id => requeuePage id (fun p => p) s
  | none => s

theorem goOffDuty_eq (e : EntryId) (s : State) : goOffDuty e s =
    let t := dropSuspended (s.staff e) (dropCurrent (s.staff e) (leaveFree e s))
    t.setStaff e { t.staff e with duty := .offDuty, current := none, suspended := none } := rfl

theorem dropCurrent_ports (m : Staff) (s : State) : (dropCurrent m s).ports = s.ports := by
  unfold dropCurrent
  split
  · split
    · split
      · rfl
      · rfl
    · rfl
  · rfl

theorem dropSuspended_ports (m : Staff) (s : State) : (dropSuspended m s).ports = s.ports := by
  unfold dropSuspended
  split
  · rfl
  · rfl

theorem goOffDuty_ports (e : EntryId) (s : State) : (goOffDuty e s).ports = s.ports := by
  rw [goOffDuty_eq]
  dsimp only
  rw [State.setStaff_ports, dropSuspended_ports, dropCurrent_ports]
  rfl

theorem ackExpiry_grown (p : Page) (s : State) : Grown s (ackExpiry p s) := by
  unfold ackExpiry
  split
  · split
    · exact Grown.of_ports rfl
    · exact (requeuePage_grown _ _ _).trans (release_grown _ _)
    · exact (requeuePage_grown _ _ _).trans (release_grown _ _)
    · exact (closePage_grown _ _ _).trans (release_grown _ _)
  · exact Grown.refl s

theorem withdrawPage_grown (p : Page) (s : State) : Grown s (withdrawPage p s) := by
  unfold withdrawPage
  split
  · exact (requeuePage_grown _ _ _).trans (release_grown _ _)
  · exact Grown.refl s

theorem takeAnswer_grown (x : PagerAnswer) (p : Page) (e : EntryId) (s : State) : Grown s (takeAnswer x p e s) := by
  cases x with
  | accept =>
    unfold takeAnswer answerAccept
    dsimp only
    split
    · exact (closePage_grown _ _ _).trans (release_grown _ _)
    · exact Grown.of_ports rfl
    · exact Grown.of_ports rfl
  | decline => exact (requeuePage_grown _ _ _).trans (release_grown _ _)
  | done => exact (closePage_grown _ _ _).trans (release_grown _ _)

theorem enterSag_grown (s : State) : Grown s (enterSag s) := by
  have ports : (discardFrame { s with feed := s.feed.sagged }).ports = s.ports :=
    (discardFrame_touches { s with feed := s.feed.sagged }).within.ports (by simp)
  rw [enterSag_eq]
  generalize discardFrame { s with feed := s.feed.sagged } = t at ports ⊢
  exact (((Grown.of_ports ports).trans (testPermit_grown t)).trans (raise_grown _ _ _ _)).trans (post_grown _ _ _ _)

theorem feedConversion_grown (code : BitVec 12) (s : State) : Grown s (feedConversion code s) := by
  have stored : ∀ f, Grown s { s with feed := f } := fun _ => Grown.of_ports rfl
  unfold feedConversion testFeed
  dsimp only
  split
  · split
    · split
      · exact ((stored _).trans (Grown.of_ports rfl)).trans (enterFeedState_grown (f := id) Grown.refl)
      · exact stored _
    · exact stored _
  · split
    · split
      · exact (stored _).trans (enterSag_grown _)
      · exact stored _
    · exact stored _

theorem frameBoundary_grown (s : State) : Grown s (frameBoundary s) := by
  have built : Grown s (buildFrame (boundaryInputs s)) := by
    have ports : (buildFrame (boundaryInputs s)).ports = (boundaryMoved s).ports := by rw [buildFrame_eq]; rfl
    exact ((Grown.of_ports rfl).trans (stagedMove_grown { s with time := newFrameTime s.time })).trans (Grown.of_ports ports)
  rw [frameBoundary_eq]
  refine built.trans (foldl_related Grown.refl Grown.trans _ (fun s n => ?_) _ _)
  unfold postClipped
  dsimp only
  split
  · exact post_grown _ _ _ _
  · exact Grown.refl s

theorem lineFault_grown (f : LineFault) (s : State) : Grown s (lineFault f s) :=
  (Grown.of_ports rfl).trans (post_grown _ _ _ { s with line := { s.line with faults := saturate 65535 s.line.faults } })

theorem enterRinse_grown (s : State) : Grown s (enterRinse s) := by
  unfold enterRinse
  dsimp only
  split
  · exact Grown.of_ports rfl
  · exact lineFault_grown _ s

theorem leaveRinse_grown (s : State) : Grown s (leaveRinse s) := by
  unfold leaveRinse
  split
  · exact (Grown.of_ports rfl).trans (post_grown _ _ _ _)
  · exact lineFault_grown _ s

theorem ackMessage_grown (i : PageId) (a x : Nat) (s : State) : Grown s (ackMessage i a x s) := by
  have late : Grown s (countLate i a s) :=
    (Grown.of_ports rfl).trans (post_grown _ _ _ { s with link := { s.link with late := saturate 65535 s.link.late } })
  unfold ackMessage
  split
  · split
    · split
      · exact takeAnswer_grown _ _ _ _
      · exact late
    · exact late
  · exact Grown.of_ports rfl

theorem unreachableMessage_grown (i : PageId) (s : State) : Grown s (unreachableMessage i s) := by
  unfold unreachableMessage
  dsimp only
  split
  · split
    · split
      · exact (Grown.of_ports rfl : Grown s (endMessage s)).trans (ackExpiry_grown _ _)
      · exact Grown.of_ports rfl
    · exact Grown.of_ports rfl
  all_goals exact Grown.of_ports rfl

theorem sentMessage_grown (i : PageId) (s : State) : Grown s (sentMessage i s) := by
  refine Grown.of_ports ?_
  unfold sentMessage
  dsimp only
  split
  · split
    · split
      · rfl
      · rfl
    · rfl
  · split
    · rfl
    · rfl
  all_goals rfl

theorem timeOutMessage_grown (o : Outstanding) (s : State) : Grown s (timeOutMessage o s) := by
  unfold timeOutMessage
  split
  · split
    · exact withdrawPage_grown _ _
    · exact Grown.refl s
  · split
    · exact Grown.of_ports rfl
    · exact Grown.refl s
  all_goals exact Grown.refl s

theorem enterDown_grown (s : State) : Grown s (enterDown s) :=
  (Grown.of_ports rfl).trans (post_grown _ _ _ { s with link := { s.link with up := false } })

theorem responseExpiry_grown (s : State) : Grown s (responseExpiry s) := by
  have linked : ∀ l, Grown s { s with link := l } := fun _ => Grown.of_ports rfl
  unfold responseExpiry
  split
  · exact Grown.refl s
  dsimp only
  split
  · split
    · exact ((linked _).trans (timeOutMessage_grown _ _)).trans (enterDown_grown _)
    · exact (linked _).trans (timeOutMessage_grown _ _)
  · exact linked _

theorem aliveMessage_grown (s : State) : Grown s (aliveMessage s) := by
  unfold aliveMessage
  split
  · exact Grown.of_ports rfl
  · exact (Grown.of_ports rfl).trans (post_grown _ _ _ _)

/-- What no command but READ_NOTICE, SUPERVISE_SET and the resets goes beyond. -/
theorem effect_grown {i : Instr} (s : State) (running : isReset i = false) (own : ∀ t, i ≠ .readNotice t)
    (set : ∀ t v, i ≠ .superviseSet t v) : Grown s (effect i s) := by
  by_cases quiet : Block.ports ∉ writes i
  · exact Grown.of_ports ((effect_within running s).ports quiet)
  rw [not_not] at quiet
  have left : ∀ why, Grown s (refuse why s).state := fun _ => Grown.refl s
  by_cases zones : ((writes i).contains .zones && !(writes i).contains .time) = true
  · simp only [Bool.and_eq_true, Bool.not_eq_true', List.contains_iff_mem, Bool.eq_false_iff, ne_eq] at zones
    exact grown_zoneOps.effect i s zones.1 zones.2 fun _ _ _ _ _ _ _ _ => leaving_grown _ _ _
  cases i
  case readNotice t => exact (own t rfl).elim
  case superviseSet t v => exact (set t v rfl).elim
  case lineConfig =>
    exact lineConfig_cases (motive := fun a => Grown s a.state) left fun _ _ _ _ _ _ _ => by
      rw [accept_state]
      refine Grown.trans ?_ (testPermit_grown _)
      exact Grown.of_ports rfl
  case linePurge =>
    exact foldl_related Grown.refl Grown.trans (fun s r => condemn r (dropHead s))
      (fun s r => (grown_zoneOps.head s).trans (grown_zoneOps.condemn r _)) s.line.racks s
  case staffSet => exact staffSet_cases (motive := fun a => Grown s a.state) left fun _ _ _ _ => Grown.of_ports rfl
  case staffDuty =>
    exact staffDuty_cases (motive := fun a => Grown s a.state) left (Grown.refl s) (fun _ _ _ => Grown.of_ports rfl)
      fun e _ => Grown.of_ports (goOffDuty_ports e s)
  case pageSend => exact pageSend_cases (motive := fun a => Grown s a.state) left fun _ _ _ _ => Grown.of_ports rfl
  case pageDone => exact pageDone_cases (motive := fun a => Grown s a.state) left fun p _ _ => retirePage_grown _ _ s
  case pageLevels => exact pageLevels_cases (motive := fun a => Grown s a.state) left fun _ => Grown.of_ports rfl
  case pageTiming => exact pageTiming_cases (motive := fun a => Grown s a.state) left (Grown.of_ports rfl)
  case ackTimerExpiry i =>
    rw [effect_event (f := ackTimerExpiry i) rfl, ackTimerExpiry]
    split
    · split
      · exact ackExpiry_grown _ _
      · exact Grown.refl s
    · exact Grown.refl s
  case sliceAdvance =>
    rw [effect_event (f := sliceAdvance) rfl, sliceAdvance]
    split
    · exact Grown.of_ports rfl
    · exact frameBoundary_grown s
  case frameBoundary => rw [effect_event (f := frameBoundary) rfl]; exact frameBoundary_grown s
  case feedConversion code => rw [effect_event (f := feedConversion code) rfl]; exact feedConversion_grown code s
  case rinseEnter =>
    rw [effect_event (f := rinseEnter) rfl]
    exact (Grown.of_ports rfl : Grown s (seeTransition .rinseEnter s)).trans (enterRinse_grown _)
  case rinseExit =>
    rw [effect_event (f := rinseExit) rfl]
    exact (Grown.of_ports rfl : Grown s (seeTransition .rinseExit s)).trans (leaveRinse_grown _)
  case sent i => rw [effect_event (f := sentMessage i) rfl]; exact sentMessage_grown i s
  case unreachable i => rw [effect_event (f := unreachableMessage i) rfl]; exact unreachableMessage_grown i s
  case ack i a x => rw [effect_event (f := ackMessage i a x) rfl]; exact ackMessage_grown i a x s
  case responseTimerExpiry => rw [effect_event (f := responseExpiry) rfl]; exact responseExpiry_grown s
  case alive => rw [effect_event (f := aliveMessage) rfl]; exact aliveMessage_grown s
  all_goals first
    | exact (not_writes (List.mem_singleton_self _) quiet rfl).elim
    | exact (zones rfl).elim

end Sys2Proof.Machine
end

section
/-! PROOF. The sizes that bound a reply, and the reply law: no reply's data is longer than 160 bytes (R60, R80, R101, R138, R139,
R190); and the law of the notice queues (R184). -/

namespace Sys2Proof.Machine

/-! ### A relation on one block that zones' commands may write -/

/-- Commands that write a block of the service side are among those that reach the zones. -/
theorem serves_of_writes {b : Block} {i : Instr} (h : b ∈ writes i) (side : b = .courses ∨ b = .restock) :
    Block.zones ∈ writes i ∧ Block.time ∉ writes i := by
  cases i
  all_goals first
    | exact ⟨List.contains_iff_mem.mp rfl, fun h => Bool.noConfusion (List.contains_iff_mem.mpr h)⟩
    | (rcases side with rfl | rfl <;> exact Bool.noConfusion (List.contains_iff_mem.mpr h))

/-! ### Laws on a course's record -/

/-- A law on a course's record that everything done to one keeps. -/
structure CourseRecordLaw (P : Course → Prop) : Prop where
  entry : ∀ r z n, r.entries.any (fun e => e.1 == z) = true ∨ r.entries.length < 6 → P r →
    P { r with entries := addEntry z n r.entries }
  short : ∀ r b, P r → P { r with short := b }
  removed : ∀ (r : Course) (z : ZoneId), P r → P { r with entries := r.entries.filter fun e => e.1 ≠ z }
  drawn : ∀ r, P r → P { r with entries := takeFromHead r.entries }
  plated : ∀ (r : Course) n, P r → P { r with plated := n }
  seated : ∀ r, r.entries = [] → r.cabinets.length ≤ 6 → P r

/-- Every live course meets a law. -/
def AllCourses (P : Course → Prop) (s : State) : Prop := ∀ c, ∀ r ∈ s.course? c, P r

theorem AllCourses.depends (P : Course → Prop) : DependsOn (AllCourses P) [.courses] := by
  intro s t same h c
  have courses : t.courses = s.courses := same .courses (by simp)
  rw [State.course?, courses]
  exact h c

theorem AllCourses.setCourse {P : Course → Prop} {s : State} (all : AllCourses P s) {c : CourseId} {v : Option Course}
    (h : ∀ r ∈ v, P r) : AllCourses P (s.setCourse c v) := fun d r hr => by
  rw [State.course?, State.setCourse_slots, Table.get_set] at hr
  split at hr
  · exact h r hr
  · exact all d r hr

section
variable {P : Course → Prop} (k : CourseRecordLaw P)
include k

theorem CourseRecordLaw.edit {s t : State} (e : CourseEdit s t) (all : AllCourses P s) : AllCourses P t := by
  cases e with
  | entry c r z n live room => exact all.setCourse fun q hq => Option.some.inj hq ▸ k.entry r z n room (all c r live)
  | short c r b live => exact all.setCourse fun q hq => Option.some.inj hq ▸ k.short r b (all c r live)
  | removed c r z live => exact all.setCourse fun q hq => Option.some.inj hq ▸ k.removed r z (all c r live)
  | drawn c r live => exact all.setCourse fun q hq => Option.some.inj hq ▸ k.drawn r (all c r live)
  | plated c r n live => exact all.setCourse fun q hq => Option.some.inj hq ▸ k.plated r n (all c r live)
  | seated c r empty few => exact all.setCourse (c := c) fun q hq => Option.some.inj hq ▸ k.seated r empty few
  | freed c => exact all.setCourse (c := c) fun q hq => nomatch hq

theorem CourseRecordLaw.zoneOps : ZoneOps fun s t => AllCourses P s → AllCourses P t := by
  have same : ∀ {s t : State}, t.courses = s.courses → AllCourses P s → AllCourses P t := fun h all c => by
    rw [State.course?, h]
    exact all c
  exact {
    refl := fun _ => id
    trans := fun h g => g ∘ h
    post := fun _ _ _ _ => same rfl
    raise := fun _ _ _ _ => same ((raise_touches _ _ _ _).within.courses (by simp))
    clear := fun _ _ _ => same ((clearEvent_touches _ _ _).within.courses (by simp))
    opened := fun _ _ _ _ _ => same rfl
    closed := fun _ _ => same rfl
    woken := fun _ _ => same rfl
    refresh := fun _ _ => same ((refreshStandby_touches _ _).within.courses (by simp))
    wake := fun _ _ _ => same ((moveZone_touches _ _ _).within.courses (by simp))
    reserve := fun _ _ _ _ _ => same (State.changeZone_courses _ _ _)
    courses := k.edit
    move := fun _ _ _ _ _ _ _ _ => same ((moveZone_touches _ _ _).within.courses (by simp))
    leave := fun z st _ s _ _ _ => same (by
      rw [leaving, (cutLoads_touches _ _).within.courses (by simp), (zeroMinimums_within _ _).courses (by simp),
        (moveZone_touches _ _ _).within.courses (by simp)])
    edit := fun _ _ _ _ _ _ => same rfl
    cabinet := fun _ _ _ _ _ => same (State.changeZone_courses _ _ _)
    define := fun _ _ _ _ _ _ _ _ _ _ => same rfl
    ware := fun _ _ _ => same rfl
    scan := fun _ _ => same rfl
    line := fun _ _ _ _ _ => same rfl
    lower := fun _ _ _ => same ((lowerMinimums_within _ _ _).courses (by simp))
    head := fun _ => same rfl
    port := fun _ _ _ => same rfl }

/-- A law on each course's record is kept by every step. -/
theorem CourseRecordLaw.kept : KeptBy (AllCourses P) :=
  keptBy_of_blocks (AllCourses.depends P) (by simp)
    (fun i s h => by
      obtain ⟨b, hb, hw⟩ := h
      obtain ⟨zones, sliced⟩ := serves_of_writes hw (.inl (List.mem_singleton.mp hb))
      refine k.zoneOps.effect i s zones sliced fun _ _ _ z _ _ _ _ => ?_
      exact fun all c => by
        have courses : (leaving z .off s).courses = s.courses := by
          rw [leaving, (cutLoads_touches _ _).within.courses (by simp), (zeroMinimums_within _ _).courses (by simp),
            (moveZone_touches _ _ _).within.courses (by simp)]
        rw [State.course?, courses]
        exact all c)
    (fun s chip ports c r h => by rw [resetBlocks_course?] at h; cases h)
    fun s all c => by rw [countTick_eq]; exact all c

end

/-- The lists of a course fit a reply. -/
def Course.Sized (r : Course) : Prop := r.cabinets.length ≤ 6 ∧ r.entries.length ≤ 6

theorem length_addEntry {z : ZoneId} {n : Nat} {entries : List (ZoneId × Nat)}
    (room : entries.any (fun e => e.1 == z) = true ∨ entries.length < 6) (fits : entries.length ≤ 6) :
    (addEntry z n entries).length ≤ 6 := by
  unfold addEntry
  split
  · rw [List.length_map]; exact fits
  · next fresh =>
    rw [List.length_append]
    exact room.resolve_left fresh

theorem length_takeFromHead (entries : List (ZoneId × Nat)) : (takeFromHead entries).length ≤ entries.length := by
  unfold takeFromHead
  split
  · exact le_rfl
  · split
    · exact Nat.le_succ _
    · exact le_rfl

theorem sized_law : CourseRecordLaw Course.Sized where
  entry _ _ _ room h := ⟨h.1, length_addEntry room h.2⟩
  short _ _ h := h
  removed _ _ h := ⟨h.1, (List.length_filter_le _ _).trans h.2⟩
  drawn r h := ⟨h.1, (length_takeFromHead r.entries).trans h.2⟩
  plated _ _ h := h
  seated r empty few := ⟨few, by rw [empty]; exact Nat.zero_le _⟩

end Sys2Proof.Machine
end

section
/-! PROOF. The rack queue: what moves its oldest racks, and the law of racks, kept by every step (R101 to R111). -/

namespace Sys2Proof.Machine

/-! ### The oldest rack of a stage -/

/-- R106 and R107: the first rack of a stage is changed and every other one left. -/
theorem advanceRack_eq_some {st : Stage} {f : Rack → Rack} {l l' : List Rack} :
    advanceRack st f l = some l' ↔
      ∃ before r after, l = before ++ r :: after ∧ (∀ x ∈ before, x.stage ≠ st) ∧ r.stage = st ∧ l' = before ++ f r :: after := by
  induction l generalizing l' with
  | nil => simp [advanceRack]
  | cons a l ih =>
    unfold advanceRack
    split
    · next here =>
      constructor
      · intro h
        cases h
        exact ⟨[], a, l, rfl, nofun, here, rfl⟩
      · rintro ⟨before, r, after, eq, others, stage, rfl⟩
        cases before with
        | nil =>
          obtain ⟨rfl, rfl⟩ := List.cons.inj eq
          rfl
        | cons x before =>
          obtain ⟨rfl, -⟩ := List.cons.inj eq
          exact (others a List.mem_cons_self here).elim
    · next other =>
      rw [Option.map_eq_some_iff]
      constructor
      · rintro ⟨m, hm, rfl⟩
        obtain ⟨before, r, after, rfl, others, stage, rfl⟩ := ih.mp hm
        exact ⟨a :: before, r, after, rfl, List.forall_mem_cons.mpr ⟨other, others⟩, stage, rfl⟩
      · rintro ⟨before, r, after, eq, others, stage, rfl⟩
        cases before with
        | nil =>
          obtain ⟨rfl, rfl⟩ := List.cons.inj eq
          exact (other stage).elim
        | cons x before =>
          obtain ⟨rfl, rfl⟩ := List.cons.inj eq
          exact ⟨_, ih.mpr ⟨before, r, after, rfl, (List.forall_mem_cons.mp others).2, stage, rfl⟩, rfl⟩

theorem advanceRack_eq_none {st : Stage} {f : Rack → Rack} {l : List Rack} : advanceRack st f l = none ↔ ∀ r ∈ l, r.stage ≠ st := by
  induction l with
  | nil => simp [advanceRack]
  | cons a l ih =>
    unfold advanceRack
    split
    · next here => simp [here]
    · next other => simp [ih, other]

/-! ### The law of racks -/

/-- R107 and R108 of one rack, under thresholds. -/
def Rack.Judged (wash rinse : Nat) (r : Rack) : Prop :=
  (r.verdict = .clean → wash ≤ r.washMin ∧ rinse ≤ r.rinseMin.getD 0) ∧ (r.verdict = .pending ↔ r.stage ≠ .done)

/-- The law of racks, of a queue under thresholds (R101, R108). -/
def RacksLawful (wash rinse : Nat) (l : List Rack) : Prop :=
  l.length ≤ 12 ∧ (l.map (·.tag)).Nodup ∧ l.Pairwise (fun a b => b.stage.rank ≤ a.stage.rank) ∧ ∀ r ∈ l, r.Judged wash rinse

theorem rackLaw_iff (s : State) : rackLaw s ↔ RacksLawful s.line.washThreshold s.line.rinseThreshold s.line.racks := Iff.rfl

section
variable {wash rinse : Nat} {l : List Rack}

/-- A change that leaves every tag and stage and the judgement of each rack. -/
theorem RacksLawful.map (h : RacksLawful wash rinse l) {f : Rack → Rack} (tag : ∀ r, (f r).tag = r.tag)
    (stage : ∀ r, (f r).stage = r.stage) (judged : ∀ r, r.Judged wash rinse → (f r).Judged wash rinse) :
    RacksLawful wash rinse (l.map f) := by
  obtain ⟨few, tags, order, all⟩ := h
  refine ⟨by rw [List.length_map]; exact few, ?_, ?_, fun r hr => ?_⟩
  · rw [List.map_map]
    exact (List.map_congr_left fun r _ => tag r) ▸ tags
  · rw [List.pairwise_map]
    exact order.imp fun {a b} h => by rw [stage a, stage b]; exact h
  · obtain ⟨q, hq, rfl⟩ := List.mem_map.mp hr
    exact judged q (all q hq)

theorem RacksLawful.drop (h : RacksLawful wash rinse l) (n : Nat) : RacksLawful wash rinse (l.drop n) := by
  obtain ⟨few, tags, order, all⟩ := h
  have sub := List.drop_sublist n l
  exact ⟨sub.length_le.trans few, (sub.map _).nodup tags, order.sublist sub, fun r hr => all r (sub.subset hr)⟩

/-- R103: a rack joins the tail. -/
theorem RacksLawful.join (h : RacksLawful wash rinse l) {r : Rack} (room : l.length < 12) (fresh : ∀ q ∈ l, q.tag ≠ r.tag)
    (stage : r.stage = .wash) (verdict : r.verdict = .pending) : RacksLawful wash rinse (l ++ [r]) := by
  obtain ⟨few, tags, order, all⟩ := h
  refine ⟨by rw [List.length_append]; exact room, ?_, ?_, fun q hq => ?_⟩
  · rw [List.map_append, List.nodup_append]
    refine ⟨tags, List.nodup_singleton _, fun a ha b hb => ?_⟩
    obtain ⟨q, hq, rfl⟩ := List.mem_map.mp ha
    rw [List.map_singleton, List.mem_singleton] at hb
    rw [hb]
    exact fresh q hq
  · rw [List.pairwise_append]
    refine ⟨order, List.pairwise_singleton _ _, fun a _ b hb => ?_⟩
    rw [List.mem_singleton.mp hb, stage]
    exact Nat.zero_le _
  · rcases List.mem_append.mp hq with old | new
    · exact all q old
    · rw [List.mem_singleton.mp new]
      exact ⟨by rw [verdict]; nofun, by rw [verdict, stage]; decide⟩

/-- R106 and R107: the oldest rack of a stage moves on to the next one. -/
theorem RacksLawful.advance (h : RacksLawful wash rinse l) {st : Stage} {f : Rack → Rack} {l' : List Rack}
    (moved : advanceRack st f l = some l') (tag : ∀ r, (f r).tag = r.tag) (rank : ∀ r, (f r).stage.rank = st.rank + 1)
    (judged : ∀ r, r.stage = st → r.Judged wash rinse → (f r).Judged wash rinse) : RacksLawful wash rinse l' := by
  obtain ⟨before, r, after, rfl, others, stage, rfl⟩ := advanceRack_eq_some.mp moved
  obtain ⟨few, tags, order, all⟩ := h
  rw [List.pairwise_append, List.pairwise_cons] at order
  obtain ⟨first, ⟨below, rest⟩, across⟩ := order
  have rankNe : ∀ x : Rack, x.stage ≠ st → st.rank ≤ x.stage.rank → st.rank + 1 ≤ x.stage.rank := fun x ne le => by
    rcases Nat.lt_or_eq_of_le le with lt | eq
    · exact lt
    · exact (ne (by revert eq; cases x.stage <;> cases st <;> simp [Stage.rank])).elim
  refine ⟨by simpa using few, by simpa [tag] using tags, ?_, fun q hq => ?_⟩
  · rw [List.pairwise_append, List.pairwise_cons]
    refine ⟨first, ⟨fun b hb => ?_, rest⟩, fun a ha b hb => ?_⟩
    · rw [rank r, ← stage]
      exact (below b hb).trans (Nat.le_succ _)
    · rcases List.mem_cons.mp hb with rfl | hb
      · rw [rank r]
        exact rankNe a (others a ha) (stage ▸ across a ha r List.mem_cons_self)
      · exact across a ha b (List.mem_cons_of_mem _ hb)
  · rcases List.mem_append.mp hq with old | new
    · exact all q (List.mem_append_left _ old)
    rcases List.mem_cons.mp new with rfl | old
    · exact judged r stage (all r (List.mem_append_right _ List.mem_cons_self))
    · exact all q (List.mem_append_right _ (List.mem_cons_of_mem _ old))

end

theorem rackLaw.depends : DependsOn rackLaw [.racks, .lineSettings] := by
  intro s t same h
  have racks : t.line.racks = s.line.racks := same .racks (by simp)
  have settings : t.line.settings = s.line.settings := same .lineSettings (by simp)
  rw [rackLaw_iff] at h ⊢
  have wash : t.line.washThreshold = s.line.washThreshold :=
    (congrArg DishLine.washThreshold settings : t.line.settings.washThreshold = s.line.settings.washThreshold)
  have rinse : t.line.rinseThreshold = s.line.rinseThreshold :=
    (congrArg DishLine.rinseThreshold settings : t.line.settings.rinseThreshold = s.line.settings.rinseThreshold)
  rw [racks, wash, rinse]
  exact h

/-- The queue holds no more racks than it may (R101). -/
def RacksFit (s : State) : Prop := s.line.racks.length ≤ 12

theorem RacksFit.depends : DependsOn RacksFit [.racks] := by
  intro s t same h
  have racks : t.line.racks = s.line.racks := same .racks (by simp)
  unfold RacksFit
  rw [racks]
  exact h

/-- Both laws of the rack queue are kept. -/
def RacksKept (s t : State) : Prop := (rackLaw s → rackLaw t) ∧ (RacksFit s → RacksFit t)

theorem RacksKept.refl (s : State) : RacksKept s s := ⟨id, id⟩

theorem RacksKept.trans {s t u : State} (h : RacksKept s t) (g : RacksKept t u) : RacksKept s u := ⟨g.1 ∘ h.1, g.2 ∘ h.2⟩

theorem RacksKept.of_within {bs : List Block} {s t : State} (h : Within bs s t) (racks : Block.racks ∉ bs)
    (settings : Block.lineSettings ∉ bs) : RacksKept s t :=
  ⟨rackLaw.depends.within h (by simp [racks, settings]), RacksFit.depends.within h (by simp [racks])⟩

/-- Minimums changed in a stage that is still to be judged. -/
theorem changeRacks_kept {st : Stage} {f : Rack → Rack} {s : State} (undone : st ≠ .done) (tag : ∀ r, (f r).tag = r.tag)
    (stage : ∀ r, (f r).stage = r.stage) (verdict : ∀ r, (f r).verdict = r.verdict) : RacksKept s (changeRacks st f s) := by
  refine ⟨fun law => ?_, fun fit => by unfold RacksFit changeRacks; rw [List.length_map]; exact fit⟩
  rw [rackLaw_iff] at law ⊢
  refine law.map (fun r => ?_) (fun r => ?_) fun r judged => ?_
  · split
    · exact tag r
    · rfl
  · split
    · exact stage r
    · rfl
  · split
    · next here =>
      have pending : r.verdict = .pending := judged.2.mpr (here ▸ undone)
      exact ⟨by rw [verdict, pending]; nofun, by rw [verdict, stage]; exact judged.2⟩
    · exact judged

theorem RacksKept.ite {c : Prop} [Decidable c] {s t : State} (h : RacksKept s t) : RacksKept s (if c then t else s) := by
  split
  · exact h
  · exact RacksKept.refl s

theorem washMinimums_kept (m : Rack → Nat) (s : State) :
    RacksKept s (changeRacks .wash (fun r => { r with washMin := m r }) s) :=
  changeRacks_kept (by decide) (fun _ => rfl) (fun _ => rfl) fun _ => rfl

theorem rinseMinimums_kept (m : Rack → Option Nat) (s : State) :
    RacksKept s (changeRacks .rinse (fun r => { r with rinseMin := m r }) s) :=
  changeRacks_kept (by decide) (fun _ => rfl) (fun _ => rfl) fun _ => rfl

theorem zeroMinimums_kept (z : ZoneId) (s : State) : RacksKept s (zeroMinimums z s) :=
  (RacksKept.ite (washMinimums_kept _ s)).trans (RacksKept.ite (rinseMinimums_kept _ _))

theorem lowerMinimums_kept (c : ChannelId) (v : Nat) (s : State) : RacksKept s (lowerMinimums c v s) :=
  (RacksKept.ite (washMinimums_kept _ s)).trans (RacksKept.ite (rinseMinimums_kept _ _))

theorem dropHead_kept (s : State) : RacksKept s (dropHead s) :=
  ⟨fun law => RacksLawful.drop law 1, fun fit => (List.drop_sublist 1 _).length_le.trans fit⟩

theorem leaving_racksKept (z : ZoneId) (st : ZoneState) (s : State) : RacksKept s (leaving z st s) :=
  ((RacksKept.of_within (moveZone_touches z st s).within (by simp) (by simp)).trans (zeroMinimums_kept z _)).trans
    (RacksKept.of_within (cutLoads_touches _ _).within (by simp) (by simp))

theorem rack_zoneOps : ZoneOps RacksKept where
  refl := RacksKept.refl
  trans := RacksKept.trans
  post _ _ _ _ := ⟨id, id⟩
  raise _ _ _ _ := .of_within (raise_touches _ _ _ _).within (by simp) (by simp)
  clear _ _ _ := .of_within (clearEvent_touches _ _ _).within (by simp) (by simp)
  opened _ _ _ _ _ := ⟨id, id⟩
  closed _ _ := ⟨id, id⟩
  woken _ _ := ⟨id, id⟩
  refresh _ _ := .of_within (refreshStandby_touches _ _).within (by simp) (by simp)
  wake _ _ _ := .of_within (moveZone_touches _ _ _).within (by simp) (by simp)
  reserve _ _ _ _ _ := .of_within (setCabinet_touches _ _ _).within (by simp) (by simp)
  courses h := by
    obtain ⟨_, rfl⟩ := h.shape
    exact ⟨id, id⟩
  move _ _ _ _ _ _ _ _ := .of_within (moveZone_touches _ _ _).within (by simp) (by simp)
  leave z st _ s _ _ _ := leaving_racksKept z st s
  edit _ _ _ _ _ _ := ⟨id, id⟩
  cabinet _ _ _ _ _ := .of_within (setCabinet_touches _ _ _).within (by simp) (by simp)
  define _ _ _ _ _ _ _ _ _ _ := ⟨id, id⟩
  ware _ _ _ := ⟨id, id⟩
  scan _ _ := ⟨id, id⟩
  line _ s settings permit racks := .of_within (within_line s permit racks settings) (by simp) (by simp)
  lower := lowerMinimums_kept
  head := dropHead_kept
  port _ _ _ := ⟨id, id⟩

theorem judgeRack_clean {l : DishLine} {r : Rack} (h : judgeRack l r = .clean) :
    l.washThreshold ≤ r.washMin ∧ l.rinseThreshold ≤ r.rinseMin.getD 0 := by
  unfold judgeRack at h
  split at h
  · next met => exact met
  · cases h

theorem judgeRack_ne_pending (l : DishLine) (r : Rack) : judgeRack l r ≠ .pending := by
  unfold judgeRack
  split <;> decide

theorem length_advanceRack {st : Stage} {f : Rack → Rack} {l l' : List Rack} (h : advanceRack st f l = some l') :
    l'.length = l.length := by
  obtain ⟨before, r, after, rfl, -, -, rfl⟩ := advanceRack_eq_some.mp h
  simp

theorem enterRinse_kept (s : State) : RacksKept s (enterRinse s) := by
  unfold enterRinse
  dsimp only
  split
  · next racks moved =>
    refine ⟨fun law => RacksLawful.advance law moved (fun _ => rfl) (fun _ => rfl) fun r stage judged => ?_,
      fun fit => (length_advanceRack moved).trans_le fit⟩
    have pending : r.verdict = .pending := judged.2.mpr (by rw [stage]; decide)
    refine ⟨fun clean => ?_, fun _ => Stage.noConfusion, fun _ => pending⟩
    rw [pending] at clean
    cases clean
  · exact ⟨id, id⟩

theorem leaveRinse_kept (s : State) : RacksKept s (leaveRinse s) := by
  unfold leaveRinse
  split
  · next r racks _ moved =>
    refine ⟨fun law => RacksLawful.advance law moved (fun _ => rfl) (fun _ => rfl) fun r _ _ => ?_,
      fun fit => (length_advanceRack moved).trans_le fit⟩
    exact ⟨judgeRack_clean, fun pending => (judgeRack_ne_pending _ _ pending).elim, fun undone => (undone rfl).elim⟩
  · exact ⟨id, id⟩

theorem lineConfig_kept (l : LineSettings) (s : State) : RacksKept s (lineConfig l s).state := by
  refine lineConfig_cases (motive := fun a => RacksKept s a.state) (fun _ => RacksKept.refl s) fun _ _ _ _ _ _ empty => ?_
  rw [accept_state]
  refine RacksKept.trans ?_ (.of_within (bs := [.permit, .ports]) (testPermit_within _) (by simp) (by simp))
  refine ⟨fun _ => ?_, id⟩
  unfold rackLaw
  dsimp only
  rw [empty]
  exact ⟨Nat.zero_le _, List.nodup_nil, List.Pairwise.nil, fun _ h => nomatch h⟩

theorem rackLoad_kept (tag kind count : Nat) (s : State) : RacksKept s (rackLoad tag kind count s).state :=
  rackLoad_cases (motive := fun a => RacksKept s a.state) (fun _ => RacksKept.refl s) fun _ _ _ _ room fresh _ =>
    ⟨fun law => RacksLawful.join law room fresh rfl rfl, fun _ => (List.length_append ..).trans_le room⟩

theorem effect_racksKept (i : Instr) (s : State) (h : ∃ b ∈ [Block.racks, .lineSettings], b ∈ writes i) :
    RacksKept s (effect i s) := by
  obtain ⟨b, hb, hw⟩ := h
  by_cases zones : ((writes i).contains .zones && !(writes i).contains .time) = true
  · simp only [Bool.and_eq_true, Bool.not_eq_true', List.contains_iff_mem, Bool.eq_false_iff, ne_eq] at zones
    exact rack_zoneOps.effect i s zones.1 zones.2 fun _ _ _ z _ _ _ _ => leaving_racksKept z .off s
  cases i
  case lineConfig l => exact lineConfig_kept l s
  case rackLoad tag kind count => exact rackLoad_kept tag kind count s
  case linePurge =>
    exact foldl_related RacksKept.refl RacksKept.trans (fun s r => condemn r (dropHead s))
      (fun s r => (dropHead_kept s).trans (rack_zoneOps.condemn r _)) s.line.racks s
  case rinseEnter =>
    rw [effect_event (f := rinseEnter) rfl]
    exact enterRinse_kept (seeTransition .rinseEnter s)
  case rinseExit =>
    rw [effect_event (f := rinseExit) rfl]
    exact leaveRinse_kept (seeTransition .rinseExit s)
  all_goals first
    | exact (not_writes hb hw rfl).elim
    | exact (zones rfl).elim

/-- The first sample of the event lines gives them their levels alone (R97). -/
theorem DishLine.firstSampled_keeps (l : DishLine) (p : Pins) : (l.firstSampled p).racks = l.racks ∧
    (l.firstSampled p).settings = l.settings ∧ (l.firstSampled p).permit = l.permit := by
  unfold DishLine.firstSampled
  split
  · exact ⟨rfl, rfl, rfl⟩
  · exact ⟨rfl, rfl, rfl⟩

theorem rackLaw_kept : KeptBy rackLaw :=
  keptBy_of_blocks rackLaw.depends (by simp) (fun i s h => (effect_racksKept i s h).1) resetBlocks_rack fun s law => by
    rw [countTick_eq]
    obtain ⟨racks, settings, -⟩ := s.line.firstSampled_keeps s.pins
    exact rackLaw.depends (s := s) (fun b hb => by
      rcases List.mem_cons.mp hb with rfl | hb
      · exact racks
      · rw [List.mem_singleton.mp hb]
        exact settings) law

theorem racksFit_kept : KeptBy RacksFit :=
  keptBy_of_blocks RacksFit.depends (by simp)
    (fun i s ⟨b, hb, hw⟩ => (effect_racksKept i s ⟨b, List.mem_cons.mpr (.inl (List.mem_singleton.mp hb)), hw⟩).2)
    (fun _ _ _ => Nat.zero_le _) fun s fit => by
      rw [countTick_eq]
      unfold RacksFit
      dsimp only
      rw [(s.line.firstSampled_keeps s.pins).1]
      exact fit

end Sys2Proof.Machine
end

section
/-! PROOF. The laws of the restock list (R128), of the conveyor permit (R112) and of the pager link (R173, R175), kept by every
step. -/

namespace Sys2Proof.Machine

/-! ### The restock list (R128) -/

theorem taskLaw.depends : DependsOn taskLaw [.restock] := by
  intro s t same h
  have restock : t.restock = s.restock := same .restock (by simp)
  unfold taskLaw
  rw [restock]
  exact h

theorem taskLaw.of_within {bs : List Block} {s t : State} (h : Within bs s t) (apart : Block.restock ∉ bs) (law : taskLaw s) :
    taskLaw t := taskLaw.depends.within h (by simp [apart]) law

theorem leaving_restock (z : ZoneId) (st : ZoneState) (s : State) : (leaving z st s).restock = s.restock := by
  rw [leaving, (cutLoads_touches _ _).within.restock (by simp), (zeroMinimums_within _ _).restock (by simp)]
  exact (testPermit_within _).restock (by simp) |>.trans (State.changeZone_restock _ _ _)

theorem refreshStandby_restock (z : ZoneId) (s : State) : (refreshStandby z s).restock = s.restock := by
  rcases refreshStandby_eq z s with same | ⟨r, t, -, set⟩
  · rw [same]
  · rw [set]; rfl

theorem moveZone_restock (z : ZoneId) (st : ZoneState) (s : State) : (moveZone z st s).restock = s.restock :=
  ((testPermit_within _).restock (by simp)).trans (State.changeZone_restock _ _ _)

theorem task_zoneOps : ZoneOps fun s t => taskLaw s → taskLaw t := by
  have same : ∀ {s t : State}, t.restock = s.restock → taskLaw s → taskLaw t := fun h law => by
    unfold taskLaw
    rw [h]
    exact law
  exact {
    refl := fun _ => id
    trans := fun h g => g ∘ h
    post := fun _ _ _ _ => id
    raise := fun _ _ _ _ => taskLaw.of_within (raise_touches _ _ _ _).within (by simp)
    clear := fun _ _ _ => taskLaw.of_within (clearEvent_touches _ _ _).within (by simp)
    opened := fun z t s none here law => by
      change ((s.restock ++ [t]).map (·.cabinet)).Nodup
      rw [List.map_append, List.nodup_append]
      refine ⟨law, List.nodup_singleton _, fun a ha b hb => ?_⟩
      obtain ⟨q, hq, rfl⟩ := List.mem_map.mp ha
      rw [List.map_singleton, List.mem_singleton] at hb
      rw [hb, here]
      simpa using List.find?_eq_none.mp none q hq
    closed := fun z s law => (List.filter_sublist.map _).nodup law
    woken := fun z s law => by
      have kept : ∀ t : RestockTask, (if t.cabinet = z then { t with paged := true } else t).cabinet = t.cabinet := fun t => by
        split
        · rfl
        · rfl
      unfold taskLaw
      dsimp only
      rw [List.map_map]
      exact (List.map_congr_left fun t _ => kept t) ▸ law
    refresh := fun z s => same (refreshStandby_restock z s)
    wake := fun z s _ => same (moveZone_restock z .preheat s)
    reserve := fun _ _ _ _ _ => same (State.changeZone_restock _ _ _)
    courses := fun h => by
      obtain ⟨_, rfl⟩ := h.shape
      exact id
    move := fun z st _ s _ _ _ _ => same (moveZone_restock z st s)
    leave := fun z st _ s _ _ _ => same (leaving_restock z st s)
    edit := fun _ _ _ _ _ _ => id
    cabinet := fun _ _ _ _ _ => same (State.changeZone_restock _ _ _)
    define := fun _ _ _ _ _ _ _ _ _ _ => id
    ware := fun _ _ _ => id
    scan := fun _ _ => id
    line := fun _ _ _ _ _ => id
    lower := fun _ _ _ => same ((lowerMinimums_within _ _ _).restock (by simp))
    head := fun _ => id
    port := fun _ _ _ => id }

theorem taskLaw_kept : KeptBy taskLaw :=
  keptBy_of_blocks taskLaw.depends (by simp)
    (fun i s h => by
      obtain ⟨b, hb, hw⟩ := h
      obtain ⟨zones, sliced⟩ := serves_of_writes hw (.inr (List.mem_singleton.mp hb))
      refine task_zoneOps.effect i s zones sliced fun _ _ _ z _ _ _ _ law => ?_
      unfold taskLaw
      rw [leaving_restock]
      exact law)
    resetBlocks_task
    fun s law => by rw [countTick_eq]; exact law

/-! ### The conveyor permit (R112) -/

/-- How a zone stands for the line (R100). -/
def standsFor (kind : ZoneKind) : Option Zone → ZoneState
  | some r => if r.kind = kind then r.state else .off
  | none => .off

theorem standsIn_eq (s : State) (zone : Option ZoneId) (kind : ZoneKind) :
    standsIn s zone kind = standsFor kind (zone.bind s.zones.get) := by
  unfold standsIn
  cases zone with
  | none => rfl
  | some z =>
    dsimp only [Option.bind_some]
    cases s.zones.get z <;> rfl

/-- What the permit reads is the same. -/
theorem permitCondition_congr {s t : State} (settings : t.line.settings = s.line.settings) (feed : t.feed.state = s.feed.state)
    (zones : ∀ z kind, standsFor kind (t.zones.get z) = standsFor kind (s.zones.get z)) :
    permitCondition t = permitCondition s := by
  have configured : t.line.configured = s.line.configured :=
    (congrArg DishLine.configured settings : t.line.settings.configured = s.line.settings.configured)
  have wash : t.line.wash = s.line.wash := (congrArg DishLine.wash settings : t.line.settings.wash = s.line.settings.wash)
  have booster : t.line.booster = s.line.booster :=
    (congrArg DishLine.booster settings : t.line.settings.booster = s.line.settings.booster)
  have stands : ∀ zone kind, standsIn t zone kind = standsIn s zone kind := fun zone kind => by
    rw [standsIn_eq, standsIn_eq]
    cases zone with
    | none => rfl
    | some z => exact zones z kind
  simp only [permitCondition, washState, boosterState, stands, configured, wash, booster, feed]

theorem permitLaw.congr {s t : State} (law : permitLaw s) (permit : t.line.permit = s.line.permit)
    (settings : t.line.settings = s.line.settings) (feed : t.feed.state = s.feed.state)
    (zones : ∀ z kind, standsFor kind (t.zones.get z) = standsFor kind (s.zones.get z)) : permitLaw t := by
  unfold permitLaw
  rw [permit, permitCondition_congr settings feed zones]
  exact law

theorem permitLaw.depends : DependsOn permitLaw [.permit, .zones, .lineSettings, .feed] := by
  intro s t same law
  have zones : t.zones = s.zones := same .zones (by simp)
  have feed : t.feed = s.feed := same .feed (by simp)
  exact law.congr (same .permit (by simp)) (same .lineSettings (by simp)) (by rw [feed]) fun z kind => by rw [zones]

theorem permitLaw.of_within {bs : List Block} {s t : State} (h : Within bs s t)
    (apart : ∀ b ∈ [Block.permit, .zones, .lineSettings, .feed], b ∉ bs) (law : permitLaw s) : permitLaw t :=
  permitLaw.depends.within h apart law

/-- Behind a test of the permit it stands exactly while its conditions hold. -/
theorem testPermit_permitLaw (s : State) : permitLaw (testPermit s) := by
  have within := testPermit_within s
  unfold permitLaw
  rw [testPermit_permit, permitCondition_congr (within.lineSettings (by simp)) (by rw [within.feed (by simp)])
    fun z kind => by rw [within.zones (by simp)]]

theorem ZoneEdit.kind {r r' : Zone} (e : ZoneEdit r r') : r'.kind = r.kind := by
  induction e with
  | tally => rfl
  | point => rfl
  | follow => exact Zone.setActive_kind _ _
  | bounds => rfl
  | program => rfl
  | trans _ _ first second => exact second.trans first

theorem ZoneEdit.state {r r' : Zone} (e : ZoneEdit r r') : r'.state = r.state := by
  induction e with
  | tally => rfl
  | point => rfl
  | follow => exact Zone.setActive_state _ _
  | bounds => rfl
  | program => rfl
  | trans _ _ first second => exact second.trans first

/-- A record of the same kind and state stands for the line as before. -/
theorem permitLaw.setZone {s : State} (law : permitLaw s) {z : ZoneId} {r r' : Zone} (zone : s.zones.get z = some r)
    (kind : r'.kind = r.kind) (state : r'.state = r.state) : permitLaw (s.setZone z r') := by
  refine law.congr rfl rfl rfl fun y k => ?_
  rw [State.setZone_zones, Table.get_set]
  split
  · next same =>
    subst same
    rw [zone, standsFor, standsFor, kind, state]
  · rfl

theorem leaving_permitLaw (z : ZoneId) (st : ZoneState) (s : State) : permitLaw (leaving z st s) :=
  permitLaw.of_within (cutLoads_touches _ _).within (by simp)
    (permitLaw.of_within (zeroMinimums_within z _) (by simp) (testPermit_permitLaw _))

theorem setCabinet_permitLaw {s : State} (law : permitLaw s) {z : ZoneId} {c d : Cabinet} (h : s.cabinet? z = some c) :
    permitLaw (s.setCabinet z d) := by
  obtain ⟨r, zone, -, -⟩ := cabinet?_eq_some.mp h
  rw [setCabinet_eq zone]
  exact law.setZone zone rfl rfl

theorem permit_zoneOps : ZoneOps fun s t => permitLaw s → permitLaw t where
  refl _ := id
  trans h g := g ∘ h
  post _ _ _ _ := id
  raise _ _ _ _ := permitLaw.of_within (raise_touches _ _ _ _).within (by simp)
  clear _ _ _ := permitLaw.of_within (clearEvent_touches _ _ _).within (by simp)
  opened _ _ _ _ _ := id
  closed _ _ := id
  woken _ _ := id
  refresh z s law := by
    rcases refreshStandby_eq z s with same | ⟨r, t, zone, set⟩
    · rw [same]; exact law
    · rw [set]; exact law.setZone zone rfl rfl
  wake _ _ _ _ := testPermit_permitLaw _
  reserve _ _ _ _ h law := setCabinet_permitLaw law h
  courses h := by
    obtain ⟨_, rfl⟩ := h.shape
    exact id
  move _ _ _ _ _ _ _ _ _ := testPermit_permitLaw _
  leave z st _ s _ _ _ _ := leaving_permitLaw z st s
  edit _ _ _ _ zone e law := law.setZone zone e.kind e.state
  cabinet _ _ _ _ h law := setCabinet_permitLaw law h
  define n kind channel loads group p v s _ free law := by
    refine law.congr rfl rfl rfl fun z k => ?_
    change standsFor k ((s.setZone n (definedZone p v kind channel loads group (s.zones.get n))).zones.get z) = _
    rw [State.setZone_zones, Table.get_set]
    split
    · next same =>
      subst same
      have before : standsFor k (s.zones.get z) = .off := by
        unfold standsFor
        split
        · next r zone =>
          have off : r.state = .off := (free_of_defineConflict free).1 r zone
          rw [off, ite_self]
        · rfl
      rw [before]
      exact ite_self _
    · rfl
  ware _ _ _ := id
  scan _ _ := id
  line _ s settings permit racks law := permitLaw.of_within (within_line s permit racks settings) (by simp) law
  lower _ _ _ := permitLaw.of_within (lowerMinimums_within _ _ _) (by simp)
  head s := permitLaw.of_within (dropHead_within s) (by simp)
  port _ _ _ := id

theorem enterFeedState_permitLaw (st : FeedState) {f : State → State} (hf : ∀ s, PagingOnly s (f s)) (s : State) :
    permitLaw (enterFeedState st f s) :=
  permitLaw.of_within (post_within _ _ _ _) (by simp)
    (permitLaw.of_within (hf _).within (by simp) (testPermit_permitLaw { s with feed := { s.feed with state := st } }))

theorem stagedMove_permitLaw {s : State} (law : permitLaw s) : permitLaw (stagedMove s) := by
  unfold stagedMove
  split
  · split
    · exact enterFeedState_permitLaw _ PagingOnly.refl _
    · exact law
  · exact enterFeedState_permitLaw _ PagingOnly.refl _
  · exact enterFeedState_permitLaw _ (clearEvent_touches _ _) _
  all_goals exact law

theorem enterSag_permitLaw (s : State) : permitLaw (enterSag s) := by
  rw [enterSag_eq]
  generalize discardFrame { s with feed := s.feed.sagged } = t
  exact permitLaw.of_within (post_within _ _ _ _) (by simp)
    (permitLaw.of_within (raise_touches _ _ _ _).within (by simp) (testPermit_permitLaw t))

theorem feedConversion_permitLaw (code : BitVec 12) {s : State} (law : permitLaw s) : permitLaw (feedConversion code s) := by
  have stored : ∀ f : Feed, f.state = s.feed.state → permitLaw { s with feed := f } := fun f same =>
    law.congr rfl rfl same fun _ _ => rfl
  unfold feedConversion testFeed
  dsimp only
  split
  · split
    · split
      · exact enterFeedState_permitLaw _ PagingOnly.refl _
      · exact stored _ rfl
    · exact stored _ rfl
  · split
    · split
      · exact enterSag_permitLaw _
      · exact stored _ rfl
    · exact stored _ rfl

theorem frameBoundary_permitLaw {s : State} (law : permitLaw s) : permitLaw (frameBoundary s) := by
  have moved : permitLaw (boundaryMoved s) := stagedMove_permitLaw (s := { s with time := newFrameTime s.time }) law
  rw [frameBoundary_eq, postClippeds_eq, buildFrame_eq]
  refine moved.congr rfl rfl rfl fun z k => ?_
  change standsFor k ((computeRequests (boundaryMoved s)).zones.get z) = _
  rw [computeRequests, Table.get_map]
  cases (boundaryMoved s).zones.get z <;> rfl

theorem permitLaw_effect (i : Instr) (s : State) (h : ∃ b ∈ [Block.permit, .zones, .lineSettings, .feed], b ∈ writes i)
    (law : permitLaw s) : permitLaw (effect i s) := by
  obtain ⟨b, hb, hw⟩ := h
  by_cases zones : ((writes i).contains .zones && !(writes i).contains .time) = true
  · simp only [Bool.and_eq_true, Bool.not_eq_true', List.contains_iff_mem, Bool.eq_false_iff, ne_eq] at zones
    exact permit_zoneOps.effect i s zones.1 zones.2 (fun _ _ _ z _ _ _ _ _ => leaving_permitLaw z .off s) law
  cases i
  case lineConfig =>
    exact lineConfig_cases (motive := fun a => permitLaw a.state) (fun _ => law) fun _ _ _ _ _ _ _ => testPermit_permitLaw _
  case feedConfig => exact feedConfig_cases (motive := fun a => permitLaw a.state) (fun _ => law) (law.congr rfl rfl rfl fun _ _ => rfl)
  case waitTimerExpiry =>
    rw [effect_event (f := waitExpiry) rfl, waitExpiry]
    split
    · exact law.congr rfl rfl rfl fun _ _ => rfl
    · exact law
  case feedConversion code => rw [effect_event (f := feedConversion code) rfl]; exact feedConversion_permitLaw code law
  case sliceAdvance =>
    rw [effect_event (f := sliceAdvance) rfl, sliceAdvance]
    split
    · exact law
    · exact frameBoundary_permitLaw law
  case frameBoundary => rw [effect_event (f := frameBoundary) rfl]; exact frameBoundary_permitLaw law
  all_goals first
    | exact (not_writes hb hw rfl).elim
    | exact (zones rfl).elim

theorem permitLaw_kept : KeptBy permitLaw :=
  keptBy_of_blocks permitLaw.depends (by simp) permitLaw_effect resetBlocks_permit fun s law => by
    rw [countTick_eq]
    obtain ⟨-, settings, permit⟩ := s.line.firstSampled_keeps s.pins
    refine law.congr permit settings rfl fun z k => ?_
    rw [Table.get_map]
    cases s.zones.get z <;> rfl

end Sys2Proof.Machine
end

section
/-! PROOF. The laws of the pager link (R173, R175), of the notice queues (R184) and of the replies (R190), and with them every
smaller law (O60). -/

namespace Sys2Proof.Machine

/-! ### The link -/

/-- R173 and R175 of a link's record. -/
def Link.Lawful (l : Link) : Prop :=
  (l.up = true → l.outstanding ≠ .probe ∧ l.timeouts < 3) ∧
    (l.up = false → l.outstanding = .none ∨ l.outstanding = .probe) ∧
    (l.outstanding = .none → l.transmitting = [] ∧ l.responseTimer = none) ∧
    (l.transmitting ≠ [] → l.responseTimer = none) ∧ l.timeouts ≤ 3

theorem linkLaw.depends : DependsOn linkLaw [.link] := by
  intro s t same h
  have link : t.link = s.link := same .link (by simp)
  unfold linkLaw
  rw [link]
  exact h

/-- The outstanding message is ended (R174, R175). -/
theorem Link.lawful_ended {l : Link} {n : Nat} (more : l.up = true → n < 3) (few : n ≤ 3) :
    ({ l with outstanding := .none, transmitting := [], responseTimer := none, timeouts := n } : Link).Lawful :=
  ⟨fun up => ⟨nofun, more up⟩, fun _ => .inl rfl, fun _ => ⟨rfl, rfl⟩, fun _ => rfl, few⟩

section
variable {l : Link} (h : l.Lawful)
include h

/-- A message granted on a free link (R161, R173). -/
theorem Link.Lawful.granted (up : l.up = true) (o : Outstanding) (f : List Byte) (some : o ≠ .none) (probe : o ≠ .probe) :
    ({ l with outstanding := o, transmitting := f, responseTimer := none } : Link).Lawful :=
  ⟨fun _ => ⟨probe, (h.1 up).2⟩, fun down => Bool.noConfusion (up.symm.trans down), fun none => (some none).elim, fun _ => rfl,
    h.2.2.2.2⟩

/-- A PROBE on a link that is DOWN (R176). -/
theorem Link.Lawful.probed (down : l.up = false) : ({ l with
    outstanding := .probe, transmitting := probeFrame, responseTimer := none, probeTimer := some 1000 } : Link).Lawful :=
  ⟨fun up => Bool.noConfusion (up.symm.trans down), fun _ => .inr rfl, nofun, fun _ => rfl, h.2.2.2.2⟩

end

theorem linkFree_iff (s : State) : linkFree s = true ↔ s.link.up = true ∧ s.link.outstanding = .none := by
  simp [linkFree]

/-- What sending does to the link, wherever the desk and the roster stand. -/
theorem sendMessage_link (o : Outstanding) (f : List Byte) (s : State) :
    (sendMessage o f s).link = { s.link with outstanding := o, transmitting := f, responseTimer := none } := rfl

theorem offerPage_link (p : Page) (e : EntryId) (s : State) : (offerPage p e s).link =
    { s.link with
      outstanding := .page p.id (s.staff e).address
      transmitting := pageFrame p.id.val (s.staff e).address p.cause p.object p.level
      responseTimer := none } := by
  unfold offerPage sendPage
  dsimp only
  rw [sendMessage_link]
  split
  · split
    · rfl
    · rfl
  all_goals rfl

theorem grantCancel_link {s : State} (law : linkLaw s) : linkLaw (grantCancel s) := by
  unfold grantCancel
  split
  · split
    · next free => exact Link.Lawful.granted law ((linkFree_iff s).mp free).1 (.cancel _ _) _ nofun nofun
    · exact law
  · exact law

theorem grantReOffer_link {s : State} (law : linkLaw s) : linkLaw (grantReOffer s) := by
  unfold grantReOffer
  split
  · split
    · next free =>
      dsimp only
      split
      · split
        · exact Link.Lawful.granted law ((linkFree_iff s).mp free.1).1 (.page _ _) _ nofun nofun
        · exact law
      · exact law
    · exact law
  · exact law

theorem grantOffer_link {s : State} (law : linkLaw s) : linkLaw (grantOffer s) := by
  unfold grantOffer
  split
  · next free =>
    split
    · next p e _ =>
      unfold linkLaw
      rw [offerPage_link]
      exact Link.Lawful.granted law ((linkFree_iff s).mp free.1).1 (.page _ _) _ nofun nofun
    · exact law
  · exact law

theorem transmitComplete_link {s : State} (law : linkLaw s) : linkLaw (transmitComplete s) := by
  unfold transmitComplete
  split
  · next h =>
    obtain ⟨up, down, -, -, few⟩ := law
    exact ⟨up, down, fun none => (h.1 none).elim, fun some => (some rfl).elim, few⟩
  · exact law

theorem endMessage_link (s : State) : linkLaw (endMessage s) :=
  Link.lawful_ended (fun _ => Nat.zero_lt_succ _) (Nat.zero_le _)

theorem sentMessage_link (i : PageId) {s : State} (law : linkLaw s) : linkLaw (sentMessage i s) := by
  unfold sentMessage
  dsimp only
  split
  · split
    · split
      · exact endMessage_link _
      · exact endMessage_link _
    · exact law
  · split
    · exact endMessage_link _
    · exact law
  all_goals exact law

theorem unreachableMessage_link (i : PageId) {s : State} (law : linkLaw s) : linkLaw (unreachableMessage i s) := by
  unfold unreachableMessage
  dsimp only
  split
  · split
    · split
      · exact linkLaw.depends.within (ackExpiry_touches _ _).within (by simp) (endMessage_link _)
      · exact endMessage_link _
    · exact law
  all_goals exact law

theorem ackMessage_link (i : PageId) (a x : Nat) {s : State} (law : linkLaw s) : linkLaw (ackMessage i a x s) := by
  unfold ackMessage
  split
  · split
    · split
      · exact linkLaw.depends.within (takeAnswer_touches _ _ _ _).within (by simp) law
      · exact law
    · exact law
  · exact law

theorem responseExpiry_link {s : State} (law : linkLaw s) : linkLaw (responseExpiry s) := by
  have whole : s.link.Lawful := law
  obtain ⟨up, down, -, -, few⟩ := whole
  unfold responseExpiry
  split
  · exact law
  dsimp only
  split
  · next isUp =>
    have timed := timeOutMessage_within s.link.outstanding { s with link := { s.link with
      outstanding := .none, transmitting := [], responseTimer := none, timeouts := s.link.timeouts + 1 } }
    have link := timed.link (by simp)
    dsimp only at link
    generalize timeOutMessage s.link.outstanding _ = u at link ⊢
    have three : s.link.timeouts + 1 ≤ 3 := (up isUp).2
    split
    · exact linkLaw.depends (s := sendProbe { s with link := { u.link with up := false } })
        (fun b hb => by rw [List.mem_singleton.mp hb]; rfl)
        (Link.Lawful.probed (l := { u.link with up := false }) (by
          rw [link]
          exact ⟨fun up => Bool.noConfusion up, fun _ => .inl rfl, fun _ => ⟨rfl, rfl⟩, fun _ => rfl, three⟩) rfl)
    · next more =>
      unfold linkLaw
      rw [link] at more ⊢
      exact Link.lawful_ended (fun _ => Nat.not_le.mp more) three
  · exact Link.lawful_ended (fun isUp => (up isUp).2) few

theorem linkLaw_effect (i : Instr) (s : State) (h : ∃ b ∈ [Block.link], b ∈ writes i) (law : linkLaw s) : linkLaw (effect i s) := by
  obtain ⟨b, hb, hw⟩ := h
  cases i
  case offer => exact grantOffer_link law
  case reOffer => exact grantReOffer_link law
  case cancel => exact grantCancel_link law
  case transmitComplete => rw [effect_event (f := transmitComplete) rfl]; exact transmitComplete_link law
  case garbledMessage => rw [effect_event (f := garble) rfl]; exact law
  case receiveGap =>
    rw [effect_event (f := receiveGap) rfl, receiveGap]
    split
    · exact law
    · exact law
  case probeTimerExpiry =>
    rw [effect_event (f := probeExpiry) rfl, probeExpiry]
    split
    · next h => exact Link.Lawful.probed (l := s.link) law h.2
    · exact law
  case sent i => rw [effect_event (f := sentMessage i) rfl]; exact sentMessage_link i law
  case unreachable i => rw [effect_event (f := unreachableMessage i) rfl]; exact unreachableMessage_link i law
  case ack i a x => rw [effect_event (f := ackMessage i a x) rfl]; exact ackMessage_link i a x law
  case responseTimerExpiry => rw [effect_event (f := responseExpiry) rfl]; exact responseExpiry_link law
  case alive =>
    rw [effect_event (f := aliveMessage) rfl, aliveMessage]
    split
    · exact law
    · exact ⟨fun _ => ⟨nofun, Nat.zero_lt_succ _⟩, fun down => Bool.noConfusion down, fun _ => ⟨rfl, rfl⟩, fun _ => rfl,
        Nat.zero_le _⟩
  all_goals exact (not_writes hb hw rfl).elim

theorem Link.Lawful.tick {l : Link} (h : l.Lawful) : l.tick.Lawful := by
  obtain ⟨up, down, none, sending, few⟩ := h
  have stopped : ∀ t : Option Nat, t = .none → countDown t = .none := fun t h => by rw [h]; rfl
  exact ⟨up, down, fun h => ⟨(none h).1, stopped _ (none h).2⟩, fun h => stopped _ (sending h), few⟩

theorem Link.Lawful.firstProbed {l : Link} (h : l.Lawful) : l.firstProbed.Lawful := by
  unfold Link.firstProbed
  split
  · split
    · exact h
    · next down => exact h.probed (Bool.not_eq_true _ ▸ down)
  · exact h

theorem linkLaw_kept : KeptBy linkLaw :=
  keptBy_of_blocks linkLaw.depends (by simp) linkLaw_effect resetBlocks_link fun s law => by
    rw [countTick_eq]
    exact (Link.Lawful.tick law).firstProbed

end Sys2Proof.Machine
end

section
/-! PROOF. The lengths of the replies, the laws of the notice queues (R184) and of the replies (R190), and with them every smaller
law (O60). -/

namespace Sys2Proof.Machine

/-! ### Lengths of the layout's items (R190) -/

@[simp] theorem length_optionalBytes (k : Nat) (o : Option Nat) : (optionalBytes k o).length = k := by
  cases o <;> simp [optionalBytes]

@[simp] theorem length_flagByte (b : Bool) : (flagByte b).length = 1 := length_bigEndian _ _

theorem length_flatten_map {α : Type} (f : α → List Byte) (n : Nat) (h : ∀ a, (f a).length = n) (l : List α) :
    (l.map f).flatten.length = n * l.length := by
  induction l with
  | nil => rfl
  | cons a l ih => rw [List.map_cons, List.flatten_cons, List.length_append, h, ih, List.length_cons, Nat.mul_succ, Nat.add_comm]

@[simp] theorem length_listBytes (ms : List Nat) : (listBytes ms).length = 1 + ms.length := by
  rw [listBytes, List.length_append, length_bigEndian, length_flatten_map (bigEndian 1) 1 fun _ => length_bigEndian _ _, one_mul]

@[simp] theorem length_groupBytes (g : PageGroup) : (groupBytes g).length = 1 := by
  cases g <;> simp [groupBytes]

@[simp] theorem length_decidingBytes (d : Deciding) : (decidingBytes d).length = 2 := by
  cases d <;> simp [decidingBytes]

@[simp] theorem length_noticeBytes (n : Notice) : (noticeBytes n).length = 7 := by simp [noticeBytes]

@[simp] theorem length_stepBytes (p : Option ProgramStep) : (stepBytes p).length = 7 := by
  cases p <;> simp [stepBytes]

/-! ### Lengths of the replies -/

/-- The sizes that bound a reply (R60, R80, R101, R138, R139). -/
def Sized (s : State) : Prop := AllZones Zone.Listed s ∧ RacksFit s ∧ AllCourses Course.Sized s

theorem sized_kept : KeptBy Sized := by
  have zones := listed_law.kept
  have racks := racksFit_kept
  have courses := sized_law.kept
  exact ⟨fun s l h => ⟨zones.queue s l h.1, racks.queue s l h.2.1, courses.queue s l h.2.2⟩,
    fun s h => ⟨zones.counted s h.1, racks.counted s h.2.1, courses.counted s h.2.2⟩,
    fun p n s h => ⟨zones.opened p n s h.1, racks.opened p n s h.2.1, courses.opened p n s h.2.2⟩,
    fun p s h => ⟨zones.ignored p s h.1, racks.ignored p s h.2.1, courses.ignored p s h.2.2⟩,
    fun p why s h => ⟨zones.refused p why s h.1, racks.refused p why s h.2.1, courses.refused p why s h.2.2⟩,
    fun e s h => ⟨zones.requests e s h.1, racks.requests e s h.2.1, courses.requests e s h.2.2⟩,
    fun e s h => ⟨zones.events e s h.1, racks.events e s h.2.1, courses.events e s h.2.2⟩,
    fun e s h => ⟨zones.grants e s h.1, racks.grants e s h.2.1, courses.grants e s h.2.2⟩,
    fun e s h => ⟨zones.resets e s h.1, racks.resets e s h.2.1, courses.resets e s h.2.2⟩⟩

theorem length_loadData (n : LoadId) (s : State) : (loadData n s).length = 13 := by simp [loadData]

theorem length_mapData (n : LoadId) (s : State) : (mapData n s).length ≤ 160 := by
  have few : (matchingWindows s.map n).length ≤ 6 := (List.length_filter_le _ _).trans_eq (List.length_finRange)
  simp [mapData]
  omega

theorem length_frameData (s : State) : (frameData s).length ≤ 160 := by
  have loads := length_flatten_map (fun l : LoadPoint => bigEndian 1 l.granted ++ flagByte l.cut) 2 (fun l => by simp) s.loads.items
  simp only [frameData, List.length_append, length_bigEndian, loads, s.loads.size]
  decide

theorem length_feedData (s : State) : (feedData s).length ≤ 160 := by simp [feedData]

theorem length_sensorData (c : ChannelId) (s : State) : (sensorData c s).length ≤ 160 := by
  have few : ∀ p : ZoneId → Bool, (allZones.filter p).length ≤ 32 := fun p =>
    (List.length_filter_le _ _).trans_eq (List.length_finRange)
  simp only [sensorData, List.length_append, length_bigEndian, length_flagByte, length_listBytes, List.length_map]
  generalize held : allZones.filter _ = l
  have : l.length ≤ 32 := held ▸ few _
  omega

theorem length_zoneData {s : State} {r : Zone} (h : r.loads.length ≤ 4) : (zoneData s r).length ≤ 160 := by
  unfold zoneData
  repeat rw [List.length_append]
  simp only [length_bigEndian, length_flagByte, length_listBytes, length_groupBytes, length_optionalBytes, List.length_map]
  omega

theorem length_programData {r : Zone} {g : Program} (h : g.steps.length ≤ 8) : (programData r g).length ≤ 160 := by
  have steps := length_flatten_map (fun st : ProgramStep => stepBytes (some st)) 7 (fun _ => length_stepBytes _) g.steps
  have draft := length_flatten_map (fun d : Option ProgramStep => flagByte d.isSome ++ stepBytes d) 8 (fun d => by simp) g.draft.items
  simp only [programData, List.length_append, length_bigEndian, length_flagByte, steps, draft, g.draft.size]
  omega

theorem length_lineData {s : State} (h : RacksFit s) : (lineData s).length ≤ 160 := by
  unfold RacksFit at h
  simp [lineData, standsBytes]
  omega

theorem length_rackData (r : Rack) : (rackData r).length ≤ 160 := by simp [rackData]

theorem length_restockData (s : State) : (restockData s).length ≤ 160 := by
  have tasks := length_flatten_map taskBytes 8 (fun t => by simp [taskBytes]) (s.restock.take tasksPerReply)
  have few : (s.restock.take tasksPerReply).length ≤ 19 := List.length_take_le _ _
  simp only [restockData, List.length_append, length_bigEndian, tasks]
  omega

theorem length_courseData {s : State} {c : CourseId} {r : Course} (h : r.Sized) : (courseData s c r).length ≤ 160 := by
  obtain ⟨cabinets, entries⟩ := h
  have all := length_flatten_map (fun e : ZoneId × Nat => bigEndian 1 e.1.val ++ bigEndian 2 e.2) 3 (fun e => by simp) r.entries
  simp only [courseData, List.length_append, length_bigEndian, length_groupBytes, length_listBytes, List.length_map, all]
  omega

theorem length_fireData (c : CourseId) (s : State) : (fireData c s).length ≤ 160 := by
  unfold fireData
  split
  · simp
  · exact Nat.zero_le _

theorem length_linkData (s : State) : (linkData s).length ≤ 160 := by
  have outstanding : ∀ o, (outstandingBytes o).length = 6 := fun o => by cases o <;> simp [outstandingBytes]
  simp [linkData, outstanding]

theorem length_take_maxData (d : List Byte) : (d.take maxData).length ≤ 160 := List.length_take_le _ _

/-- R190: the data of every answer fit a reply. -/
theorem answer_fits {i : Instr} {t : Transfer} {roles : List Role} {body : State → Answer} (h : meaning i = .request t roles body)
    {s : State} (sized : Sized s) : (body s).data.length ≤ 160 := by
  obtain ⟨zones, racks, courses⟩ := sized
  have none : ([] : List Byte).length ≤ 160 := Nat.zero_le _
  have left : ∀ why, (refuse why s).data.length ≤ 160 := fun _ => none
  cases i <;> cases h
  case nop => exact none
  case status => simp [reply, statusData]
  case readNotice =>
    exact readNotice_cases (motive := fun a => a.data.length ≤ 160) left fun n rest _ => by simp
  case clockSet => exact clockSet_cases (motive := fun a => a.data.length ≤ 160) left fun _ => none
  case superviseSet => exact superviseSet_cases (motive := fun a => a.data.length ≤ 160) left none
  case loadSet => exact loadSet_cases (motive := fun a => a.data.length ≤ 160) left fun _ _ _ => none
  case loadQuery =>
    unfold loadQuery
    split
    · exact none
    · exact (length_loadData _ _).trans_le (by decide)
  case mapFixed => exact mapFixed_cases (motive := fun a => a.data.length ≤ 160) left fun _ => none
  case mapWindow => exact mapWindow_cases (motive := fun a => a.data.length ≤ 160) left fun _ _ => none
  case mapDefault => exact mapDefault_cases (motive := fun a => a.data.length ≤ 160) left fun _ => none
  case mapEnable => exact none
  case mapQuery =>
    unfold mapQuery
    split
    · exact none
    · exact length_mapData _ _
  case frameSet => exact frameSet_cases (motive := fun a => a.data.length ≤ 160) left fun _ _ => none
  case feedLimit => exact feedLimit_cases (motive := fun a => a.data.length ≤ 160) left (fun _ _ => none) fun _ _ => none
  case shedLevel => exact shedLevel_cases (motive := fun a => a.data.length ≤ 160) left (fun _ _ => none) fun _ _ => none
  case frameQuery => exact length_frameData s
  case feedConfig => exact feedConfig_cases (motive := fun a => a.data.length ≤ 160) left none
  case feedQuery => exact length_feedData s
  case sensorQuery =>
    unfold sensorQuery
    split
    · exact none
    · exact length_sensorData _ _
  case zoneDefine => exact zoneDefine_cases (motive := fun a => a.data.length ≤ 160) left fun _ _ _ _ _ _ _ _ _ _ => none
  case zoneSetpoint => exact zoneSetpoint_cases (motive := fun a => a.data.length ≤ 160) left fun _ _ _ _ => none
  case zoneStart => exact zoneStart_cases (motive := fun a => a.data.length ≤ 160) left fun _ _ _ _ => none
  case zoneStop => exact zoneStop_cases (motive := fun a => a.data.length ≤ 160) left none fun _ _ _ _ _ => none
  case zonePause => exact zonePause_cases (motive := fun a => a.data.length ≤ 160) left none fun _ _ _ _ => none
  case zoneResume => exact zoneResume_cases (motive := fun a => a.data.length ≤ 160) left fun _ _ _ _ => none
  case zoneClear => exact zoneClear_cases (motive := fun a => a.data.length ≤ 160) left fun _ _ _ _ _ _ => none
  case zoneQuery =>
    unfold zoneQuery
    split
    · exact none
    split
    · next r zone => exact length_zoneData (zones _ r zone).1
    · exact length_take_maxData _
  case programStep => exact programStep_cases (motive := fun a => a.data.length ≤ 160) left fun _ _ _ _ _ _ _ _ _ => none
  case programLoad => exact programLoad_cases (motive := fun a => a.data.length ≤ 160) left fun _ _ _ _ _ _ _ _ _ _ => none
  case programRun => exact programRun_cases (motive := fun a => a.data.length ≤ 160) left fun _ _ _ _ _ _ _ => none
  case programAdvance =>
    exact programAdvance_cases (motive := fun a => a.data.length ≤ 160) left (fun _ _ _ _ _ _ => none) fun _ _ _ _ _ _ => none
  case programAbort => exact programAbort_cases (motive := fun a => a.data.length ≤ 160) left none fun _ _ _ _ _ _ => none
  case programQuery =>
    refine withZone_cases (motive := fun a => a.data.length ≤ 160) left fun z r _ zone _ => ?_
    split
    · next g _ program => exact length_programData ((zones _ r zone).2 g program)
    · exact length_take_maxData _
  case lineConfig => exact lineConfig_cases (motive := fun a => a.data.length ≤ 160) left fun _ _ _ _ _ _ _ => none
  case rackLoad => exact rackLoad_cases (motive := fun a => a.data.length ≤ 160) left fun _ _ _ _ _ _ _ => none
  case linePurge => exact (length_bigEndian 1 _).trans_le (by decide)
  case lineQuery => exact length_lineData racks
  case rackQuery =>
    unfold rackQuery
    split
    · exact none
    split
    · exact length_rackData _
    · exact none
  case wareDefine => exact wareDefine_cases (motive := fun a => a.data.length ≤ 160) left fun _ _ _ _ => none
  case wareAdjust =>
    exact wareAdjust_cases (motive := fun a => a.data.length ≤ 160) left (by simp [reply]) (fun _ _ _ _ _ _ _ => by simp [reply])
      fun _ _ _ _ _ _ _ _ => by simp [acceptClamped]
  case wareReturn => exact wareReturn_cases (motive := fun a => a.data.length ≤ 160) left fun _ _ _ => by simp [acceptClamped]
  case wareQuery =>
    unfold wareQuery
    split
    · exact none
    · simp only [reply]
      split
      · simp [wareData]
      · exact length_take_maxData _
  case cabinetSet => exact cabinetSet_cases (motive := fun a => a.data.length ≤ 160) left none fun _ _ _ _ _ _ => none
  case cabinetQuery =>
    unfold cabinetQuery
    split
    · exact none
    split
    · exact none
    split
    · simp [reply, cabinetData]
    · exact length_take_maxData _
  case restockConfirm => exact restockConfirm_cases (motive := fun a => a.data.length ≤ 160) left fun _ _ _ _ _ _ => by simp [acceptClamped]
  case restockQuery => exact length_restockData s
  case courseFire => exact courseFire_cases (motive := fun a => a.data.length ≤ 160) left fun _ _ _ _ _ _ _ => length_fireData _ _
  case coursePlated => exact coursePlated_cases (motive := fun a => a.data.length ≤ 160) left fun _ _ _ _ => by simp [acceptClamped]
  case courseClose => exact courseClose_cases (motive := fun a => a.data.length ≤ 160) left fun _ _ _ => by simp [reply]
  case courseQuery =>
    unfold courseQuery
    split
    · exact none
    split
    · next r live => exact length_courseData (courses _ r live)
    · exact length_take_maxData _
  case staffSet => exact staffSet_cases (motive := fun a => a.data.length ≤ 160) left fun _ _ _ _ => none
  case staffDuty => exact staffDuty_cases (motive := fun a => a.data.length ≤ 160) left none (fun _ _ _ => none) fun _ _ => none
  case staffQuery =>
    unfold staffQuery
    split
    · exact none
    · simp [reply, staffData]
  case pageSend => exact pageSend_cases (motive := fun a => a.data.length ≤ 160) left fun _ _ _ _ => by simp [reply]
  case pageDone => exact pageDone_cases (motive := fun a => a.data.length ≤ 160) left fun _ _ _ => none
  case pageLevels => exact pageLevels_cases (motive := fun a => a.data.length ≤ 160) left fun _ => none
  case pageTiming => exact pageTiming_cases (motive := fun a => a.data.length ≤ 160) left none
  case pageQuery =>
    unfold pageQuery
    split
    · exact none
    split
    · exact none
    · simp [reply, pageData]
  case linkQuery => exact length_linkData s

/-! ### Laws on a port -/

/-- A law on a port's record that everything done to one keeps, a reply of a sort placed among it. -/
structure PortLaw (Fits : Reply → Prop) (P : Port → Prop) : Prop where
  grown : ∀ {a b}, PortGrown a b → P a → P b
  timed : ∀ (a : Port) t s c n, P a → P { a with timer := t, silent := s, csIgnored := c, interval := n }
  read : ∀ (a : Port), P a → P { a with slot := none }
  popped : ∀ (a : Port) n rest, a.notices = n :: rest → P a → P { a with notices := rest, overflow := false }
  placed : ∀ (a : Port) r, Fits r → P a → P { a with slot := some r }
  fresh : ∀ role c, P (Port.reset role c)

/-- Every port meets a law. -/
def AllPorts (P : Port → Prop) (s : State) : Prop := ∀ p, P (s.ports.get p)

section
variable {Fits : Reply → Prop} {P : Port → Prop} (k : PortLaw Fits P) {s t : State}
include k

theorem PortLaw.of_grown (h : Grown s t) (all : AllPorts P s) : AllPorts P t := fun p => k.grown (h p) (all p)

omit k in
theorem AllPorts.setPort (all : AllPorts P s) {p : PortId} {v : Port} (h : P v) : AllPorts P (s.setPort p v) := fun q => by
  rw [State.setPort_ports, Table.get_set]
  split
  · exact h
  · exact all q

theorem PortLaw.timing (all : AllPorts P s) (p : PortId) (t : Option Nat) (b c : Bool) (n : Nat) :
    AllPorts P (s.setPort p { s.ports.get p with timer := t, silent := b, csIgnored := c, interval := n }) :=
  all.setPort (k.timed _ t b c n (all p))

theorem PortLaw.opened (p : PortId) (n : Nat) (all : AllPorts P s) : AllPorts P (openTransaction p n s) := by
  have framed : AllPorts P (takeFrame p s) := by
    unfold takeFrame
    dsimp only
    split
    · refine k.timing (k.of_grown ((clearEvent_grown _ _ _).trans (post_grown _ _ _ _)) ?_) p _ _ _ _
      exact k.timing all p (s.ports.get p).timer false (s.ports.get p).csIgnored (s.ports.get p).interval
    · exact k.timing all p _ _ _ _
  refine framed.setPort ?_
  unfold readSlot
  split
  · exact k.read _ (framed p)
  · exact framed p

theorem PortLaw.answered {p : PortId} {a : Answer} (all : AllPorts P a.state)
    (fits : ∀ o, Fits { status := a.status, overrun := o, noticeOverflow := a.noticeOverflow, data := a.data }) :
    AllPorts P (placeAnswer p a) := all.setPort (k.placed _ _ (fits _) (all p))

theorem PortLaw.effect {i : Instr} (running : isReset i = false) (all : AllPorts P s) : AllPorts P (effect i s) := by
  by_cases own : ∀ t, i ≠ .readNotice t
  · by_cases set : ∀ t v, i ≠ .superviseSet t v
    · exact k.of_grown (effect_grown s running own set) all
    · simp only [not_forall, not_not] at set
      obtain ⟨t, v, rfl⟩ := set
      exact superviseSet_cases (motive := fun a => AllPorts P a.state) (fun _ => all) (k.timing all t.port _ _ _ _)
  · simp only [not_forall, not_not] at own
    obtain ⟨t, rfl⟩ := own
    exact readNotice_cases (motive := fun a => AllPorts P a.state) (fun _ => all) fun n rest some =>
      all.setPort (k.popped _ n rest some (all t.port))

/-- A law on each port is kept by every step, beside a law that bounds the answers. -/
theorem PortLaw.kept {S : State → Prop} (bounds : KeptBy S)
    (fits : ∀ {i t roles body}, meaning i = .request t roles body → ∀ s, S s → ∀ o, Fits
      { status := (body s).status, overrun := o, noticeOverflow := (body s).noticeOverflow, data := (body s).data })
    (refused : ∀ why o, Fits { status := why, overrun := o, noticeOverflow := false, data := [] }) :
    KeptBy fun s => S s ∧ AllPorts P s where
  queue s l h := ⟨bounds.queue s l h.1, h.2⟩
  counted s h := ⟨bounds.counted s h.1, fun p => by
    rw [countTick_eq, Table.get_map]
    exact k.timed _ _ _ _ _ (h.2 p)⟩
  opened p n s h := ⟨bounds.opened p n s h.1, k.opened p n h.2⟩
  ignored p s h := ⟨bounds.ignored p s h.1, k.timing h.2 p _ _ _ _⟩
  refused p why s h := ⟨bounds.refused p why s h.1, k.answered (a := refuse why s) h.2 (refused why)⟩
  requests e s h := by
    refine ⟨bounds.requests e s h.1, k.answered ?_ (fits e s h.1)⟩
    rw [← effect_request e]
    exact k.effect (notReset_of_meaning e (by simp)) h.2
  events e s h := by
    refine ⟨bounds.events e s h.1, ?_⟩
    rw [← effect_event e]
    exact k.effect (notReset_of_meaning e (by simp)) h.2
  grants e s h := by
    refine ⟨bounds.grants e s h.1, ?_⟩
    have done := k.effect (s := s) (notReset_of_meaning e (by simp)) h.2
    rwa [Machine.effect, e] at done
  resets e s h := by
    refine ⟨bounds.resets e s h.1, ?_⟩
    rcases meaning_reset_cases e s with same | ⟨chip, ports, reset, fresh⟩
    · rw [same]; exact h.2
    · rw [reset]
      intro p
      obtain ⟨role, c, port⟩ := fresh p
      change P (ports.get p)
      rw [port]
      exact k.fresh role c

end

theorem true_kept : KeptBy fun _ => True :=
  ⟨fun _ _ _ => trivial, fun _ _ => trivial, fun _ _ _ _ => trivial, fun _ _ _ => trivial, fun _ _ _ _ => trivial,
    fun _ _ _ => trivial, fun _ _ _ => trivial, fun _ _ _ => trivial, fun _ _ _ => trivial⟩

theorem notice_law : PortLaw (fun _ => True) fun p => p.notices.length ≤ 16 where
  grown h := h.bounded
  timed _ _ _ _ _ h := h
  read _ h := h
  popped _ _ _ some h := (Nat.le_succ _).trans ((congrArg List.length some).symm.trans_le h)
  placed _ _ _ h := h
  fresh _ _ := Nat.zero_le _

theorem reply_law : PortLaw (fun r => r.data.length ≤ 160) fun p => ∀ r ∈ p.slot, r.data.length ≤ 160 where
  grown h all r hr := all r (h.slot ▸ hr)
  timed _ _ _ _ _ h := h
  read _ _ _ hr := nomatch hr
  popped _ _ _ _ h := h
  placed _ _ fits _ _ hq := Option.some.inj hq ▸ fits
  fresh _ _ _ hr := nomatch hr

theorem noticeLaw_step {s w : State} (law : noticeLaw s) (stepped : step s = .next w) : noticeLaw w :=
  ((notice_law.kept true_kept (fun _ _ _ _ => trivial) fun _ _ => trivial).step ⟨trivial, law⟩ stepped).2

theorem replyLaw_step {s w : State} (law : replyLaw s) (stepped : step s = .next w) : replyLaw w := by
  obtain ⟨zones, racks, courses, slots⟩ := law
  have kept := reply_law.kept sized_kept (fun e s sized _ => answer_fits e sized) fun _ _ => Nat.zero_le _
  obtain ⟨⟨zones, racks, courses⟩, slots⟩ := kept.step (s := s) ⟨⟨zones, racks, courses⟩, slots⟩ stepped
  exact ⟨zones, racks, courses, slots⟩

/-- Settles O60: each law by the induction over what a step is made of. -/
theorem everyStepKeepsTheSmallerLaws : Obligations.EveryStepKeepsTheSmallerLaws := fun _ _ stepped =>
  ⟨fun law => dutyLaw_step law stepped, fun law => lockoutLaw_step law stepped, fun law => permitLaw_kept.step law stepped,
    fun law => setpointLaw_step law stepped, fun law => rackLaw_kept.step law stepped, fun law => taskLaw_kept.step law stepped,
    fun law => linkLaw_kept.step law stepped, fun law => noticeLaw_step law stepped, fun law => replyLaw_step law stepped,
    fun law => timeLaw_step law stepped⟩

end Sys2Proof.Machine
end

section
/-! PROOF. Every step keeps the heat law (R32, second law): no load point comes to have anything remaining but at a boundary,
which gives on-slices to eligible load points alone, and a zone that leaves service has its load points cut. -/

namespace Sys2Proof.Machine

/-- A zone that may heat: neither OFF nor in FAULT. -/
def Zone.InService (r : Zone) : Prop := r.state ≠ .off ∧ r.state ≠ .fault

theorem heatLaw.depends : DependsOn heatLaw [.time, .loads, .zones] := by
  intro s t same h
  have time : t.time = s.time := same .time (by simp)
  have loads : t.loads = s.loads := same .loads (by simp)
  have zones : t.zones = s.zones := same .zones (by simp)
  unfold heatLaw boundZone at h ⊢
  simpa only [time, loads, zones] using h

section
variable {s w : State}

/-- Load points that keep their bindings and have no more remaining than before, on zones that are as they were. -/
theorem heatLaw.of_loads (law : heatLaw s) (zones : w.zones = s.zones)
    (binding : ∀ n, (w.loads.get n).binding = (s.loads.get n).binding)
    (heats : ∀ n, remaining w.time.slice (w.loads.get n) ≠ [] → remaining s.time.slice (s.loads.get n) ≠ [] ∧
      ((s.loads.get n).effective ≠ .lockout → (w.loads.get n).effective ≠ .lockout)) : heatLaw w := by
  obtain ⟨heat, bound⟩ := law
  refine ⟨fun n some => ?_, fun n => ?_⟩
  · obtain ⟨before, class_⟩ := heats n some
    obtain ⟨open_, zone⟩ := heat n before
    refine ⟨class_ open_, ?_⟩
    rw [boundZone, binding, zones]
    exact zone
  · rw [binding, zones]
    exact bound n

/-- What a cut leaves to come was to come before, of a load point that is not cut. -/
theorem Cut.rest {which : LoadId → Prop} (h : Cut which s w) {n : LoadId} (some : remaining w.time.slice (w.loads.get n) ≠ []) :
    ¬ which n ∧ remaining s.time.slice (s.loads.get n) ≠ [] := by
  obtain ⟨i, hi⟩ := List.exists_mem_of_ne_nil _ some
  rw [h.time, h.mem_remaining_iff] at hi
  exact ⟨hi.1, List.ne_nil_of_mem hi.2⟩

theorem Cut.heatLaw {which : LoadId → Prop} (h : Cut which s w) (law : heatLaw s) : heatLaw w :=
  law.of_loads h.placement.zones h.binding fun n some => ⟨h.remaining_ne_nil some, by rw [h.effective]; exact id⟩

/-- A zone's new record lists the same load points and stays in service where it was. -/
theorem heatLaw.of_record (law : heatLaw s) {z : ZoneId} {r r' : Zone} (zone : s.zones.get z = some r)
    (time : w.time = s.time) (loads : w.loads = s.loads) (zones : w.zones = s.zones.set z (some r'))
    (listed : r'.loads = r.loads) (serves : r.InService → r'.InService) : heatLaw w := by
  obtain ⟨heat, bound⟩ := law
  unfold heatLaw boundZone
  rw [time, loads, zones]
  refine ⟨fun n some => ?_, fun n y hy => ?_⟩
  · obtain ⟨open_, q, hq, on⟩ := heat n some
    obtain ⟨y, hy, hz⟩ := Option.bind_eq_some_iff.mp hq
    refine ⟨open_, ?_⟩
    by_cases same : y = z
    · subst same
      cases zone.symm.trans hz
      exact ⟨r', Option.bind_eq_some_iff.mpr ⟨y, hy, Table.get_set_same _ _ _⟩, serves on⟩
    · exact ⟨q, Option.bind_eq_some_iff.mpr ⟨y, hy, by rw [Table.get_set, if_neg same]; exact hz⟩, on⟩
  · rw [Table.get_set]
    obtain ⟨q, hq, listed_⟩ := bound n y hy
    split
    · next same =>
      subst same
      cases zone.symm.trans hq
      exact ⟨r', rfl, listed.symm ▸ listed_⟩
    · exact ⟨q, hq, listed_⟩

end

theorem ZoneEdit.loads {r r' : Zone} (e : ZoneEdit r r') : r'.loads = r.loads := by
  induction e with
  | tally => rfl
  | point => rfl
  | follow => 
    obtain ⟨_, _, same⟩ := Zone.setActive_eq _ _
    rw [same]
  | bounds => rfl
  | program => rfl
  | trans _ _ first second => exact second.trans first

theorem moveZone_heat {z : ZoneId} {st : ZoneState} {r : Zone} {s : State} (zone : s.zones.get z = some r)
    (notOff : st ≠ .off) (notFault : st ≠ .fault) (law : heatLaw s) : heatLaw (moveZone z st s) := by
  have within := (moveZone_touches z st s).within
  refine law.of_record zone (r' := r.enter st) (within.time (by simp)) (within.loads (by simp)) ?_ (r.enter_loads st) fun _ => ?_
  · rw [moveZone_zones, State.changeZone, zone, State.setZone_zones]
  · unfold Zone.InService
    rw [r.enter_state]
    exact ⟨notOff, notFault⟩

/-- A zone that enters OFF or FAULT has every load point that it lists cut (R66, R76). -/
theorem leaving_heat {z : ZoneId} {st : ZoneState} {r : Zone} {s : State} (zone : s.zones.get z = some r) (law : heatLaw s) :
    heatLaw (leaving z st s) := by
  obtain ⟨heat, bound⟩ := law
  have before : FrameCutOnly s (zeroMinimums z (moveZone z st s)) :=
    (FrameCutOnly.of_service (moveZone_touches z st s).service).trans (zeroMinimums_frame z _)
  have moved : (zeroMinimums z (moveZone z st s)).zones = s.zones.set z (some (r.enter st)) := by
    rw [(zeroMinimums_within z _).zones (by simp), moveZone_zones, State.changeZone, zone, State.setZone_zones]
  have loads : (zeroMinimums z (moveZone z st s)).loads = s.loads := by
    rw [(zeroMinimums_within z _).loads (by simp), (moveZone_touches z st s).within.loads (by simp)]
  have cut := cutLoads_cut (zoneLoads (zeroMinimums z (moveZone z st s)) z) (zeroMinimums z (moveZone z st s))
  have listed : zoneLoads (zeroMinimums z (moveZone z st s)) z = r.loads := by
    rw [zoneLoads, moved, Table.get_set_same]
    exact r.enter_loads st
  rw [leaving]
  rw [listed] at cut ⊢
  have zones : (cutLoads r.loads (zeroMinimums z (moveZone z st s))).zones = s.zones.set z (some (r.enter st)) :=
    cut.placement.zones.trans moved
  have time : (zeroMinimums z (moveZone z st s)).time = s.time := before.time
  generalize cutLoads r.loads (zeroMinimums z (moveZone z st s)) = w at cut zones ⊢
  refine ⟨fun n some => ?_, fun n y hy => ?_⟩
  · obtain ⟨uncut, old⟩ := cut.rest some
    rw [time, loads] at old
    obtain ⟨open_, q, hq, on⟩ := heat n old
    obtain ⟨y, hy, hz⟩ := Option.bind_eq_some_iff.mp hq
    have other : y ≠ z := fun same => by
      subst same
      obtain ⟨p, hp, mem⟩ := bound n y hy
      cases zone.symm.trans hp
      exact uncut mem
    refine ⟨by rw [cut.effective, loads]; exact open_, q, ?_, on⟩
    rw [boundZone, cut.binding, loads, zones]
    exact Option.bind_eq_some_iff.mpr ⟨y, hy, by rw [Table.get_set, if_neg other]; exact hz⟩
  · rw [cut.binding, loads] at hy
    obtain ⟨q, hq, mem⟩ := bound n y hy
    rw [zones, Table.get_set]
    split
    · next same =>
      subst same
      cases zone.symm.trans hq
      exact ⟨_, rfl, (r.enter_loads st).symm ▸ mem⟩
    · exact ⟨q, hq, mem⟩


/-- A zone defined while OFF, or for the first time, takes over load points that are bound to none or to itself, and those have
nothing remaining (R60). -/
theorem define_heat {n : ZoneId} {kind : ZoneKind} {channel : ChannelId} {loads : List LoadId} {group : PageGroup} {p : PortId}
    {v : ZoneSettings} {s : State} (free : defineConflict s n kind loads = none) (law : heatLaw s) :
    heatLaw (rebind n loads (s.setZone n (definedZone p v kind channel loads group (s.zones.get n)))) := by
  obtain ⟨heat, bound⟩ := law
  obtain ⟨off, -, unbound⟩ := free_of_defineConflict free
  have rebound : ∀ m, (rebind n loads (s.setZone n (definedZone p v kind channel loads group (s.zones.get n)))).loads.get m =
      { s.loads.get m with binding := if m ∈ loads then some n
        else if (s.loads.get m).binding = some n then none else (s.loads.get m).binding } := fun m => by
    rw [rebind, Table.get_build]
    dsimp only
    by_cases listed : m ∈ loads
    · rw [if_pos listed, if_pos listed, State.setZone_loads]
    · rw [if_neg listed, if_neg listed, State.setZone_loads]
      by_cases here : (s.loads.get m).binding = some n
      · rw [if_pos here, if_pos here]
      · rw [if_neg here, if_neg here]
  have zones : (rebind n loads (s.setZone n (definedZone p v kind channel loads group (s.zones.get n)))).zones =
      s.zones.set n (some (definedZone p v kind channel loads group (s.zones.get n))) := rfl
  have time : (rebind n loads (s.setZone n (definedZone p v kind channel loads group (s.zones.get n)))).time = s.time := rfl
  generalize rebind n loads (s.setZone n (definedZone p v kind channel loads group (s.zones.get n))) = w at rebound zones time ⊢
  refine ⟨fun m fed => ?_, fun m y hy => ?_⟩
  · rw [rebound, time] at fed
    obtain ⟨open_, q, hq, on⟩ := heat m fed
    obtain ⟨y, hy, hz⟩ := Option.bind_eq_some_iff.mp hq
    have other : y ≠ n := fun same => by
      subst same
      exact on.1 (off q hz)
    have notListed : m ∉ loads := fun mem => by
      rcases unbound m mem with loose | self
      · rw [loose] at hy; cases hy
      · rw [self] at hy; cases hy; exact other rfl
    have notHere : (s.loads.get m).binding ≠ some n := fun self => by
      rw [self] at hy; cases hy; exact other rfl
    refine ⟨by rw [rebound]; exact open_, q, ?_, on⟩
    rw [boundZone, rebound, zones]
    dsimp only
    rw [if_neg notListed, if_neg notHere]
    exact Option.bind_eq_some_iff.mpr ⟨y, hy, by rw [Table.get_set, if_neg other]; exact hz⟩
  · rw [rebound] at hy
    dsimp only at hy
    rw [zones, Table.get_set]
    by_cases listed : m ∈ loads
    · rw [if_pos listed] at hy
      cases hy
      exact ⟨_, if_pos rfl, listed⟩
    · rw [if_neg listed] at hy
      split at hy
      · cases hy
      · next notHere =>
        have other : y ≠ n := fun same => notHere (same ▸ hy)
        rw [if_neg other]
        exact bound m y hy

theorem heat_zoneOps : ZoneOps fun s t => heatLaw s → heatLaw t where
  refl _ := id
  trans h k := k ∘ h
  post _ _ _ _ := heatLaw.depends.within (post_touches _ _ _ _).within (by simp)
  raise _ _ _ _ := heatLaw.depends.within (raise_touches _ _ _ _).within (by simp)
  clear _ _ _ := heatLaw.depends.within (clearEvent_touches _ _ _).within (by simp)
  opened _ _ _ _ _ := id
  closed _ _ := id
  woken _ _ := id
  refresh z s law := by
    rcases refreshStandby_eq z s with same | ⟨r, t, zone, set⟩
    · rwa [same]
    · rw [set]
      exact law.of_record zone rfl rfl rfl rfl id
  wake z s state law := by
    unfold State.zoneState at state
    split at state
    · next r zone => exact moveZone_heat zone (by decide) (by decide) law
    · cases state
  reserve z c n s held law := by
    obtain ⟨r, zone, -, -⟩ := cabinet?_eq_some.mp held
    rw [setCabinet_eq zone]
    exact law.of_record zone rfl rfl rfl rfl id
  courses h := by
    obtain ⟨_, rfl⟩ := h.shape
    exact id
  move _ _ _ _ zone _ notOff notFault := moveZone_heat zone notOff notFault
  leave _ _ _ _ zone _ _ := leaving_heat zone
  edit _ _ _ _ zone e law := law.of_record zone rfl rfl rfl e.loads fun on => by
    unfold Zone.InService
    rw [e.state]
    exact on
  cabinet z c c' s held law := by
    obtain ⟨r, zone, -, -⟩ := cabinet?_eq_some.mp held
    rw [setCabinet_eq zone]
    exact law.of_record zone rfl rfl rfl rfl id
  define _ _ _ _ _ _ _ _ _ free := define_heat free
  ware _ _ _ := id
  scan _ _ := id
  line _ _ _ _ _ := id
  lower _ _ _ := heatLaw.depends.within (lowerMinimums_within _ _ _) (by simp)
  head _ := id
  port _ _ _ := id

/-- A new frame gives on-slices to eligible load points alone (R23). -/
theorem frameBoundary_heat {s : State} (law : heatLaw s) : heatLaw (frameBoundary s) := by
  obtain ⟨p, shape⟩ := frameBoundary_shape s
  have blank := boundaryInputs_blank s
  have moved := stagedMove_within { s with time := newFrameTime s.time }
  have oldLoads : (boundaryMoved s).loads = s.loads := moved.loads (by simp)
  have keeps := buildFrame_keeps (boundaryInputs s)
  have input : ∀ n, ((boundaryInputs s).loads.get n).binding = (s.loads.get n).binding := fun n => by
    simp only [boundaryInputs, takeInputs, Table.get_map, takeLoadInputs, computeRequests, oldLoads]
  have zones : (frameBoundary s).zones = (boundaryInputs s).zones := by rw [shape, buildFrame_eq]
  have loads : (frameBoundary s).loads = (buildFrame (boundaryInputs s)).loads := by rw [shape]
  have zone := frameBoundary_zone s
  refine ⟨fun n some => ?_, fun n y hy => ?_⟩
  · obtain ⟨g, o, d, eq⟩ := keeps n
    have eligible : standing (boundaryInputs s) n = .eligible := by
      refine mem_grantOrder.mp (by_contra fun out => some ?_)
      rw [loads, remaining, (blank.of_not_mem out).2]
      rfl
    have wants : wantsHeat (boundaryInputs s) n = true := by
      by_contra idle
      rw [standing, if_pos (Bool.not_eq_true _ ▸ idle)] at eligible
      cases eligible
    unfold wantsHeat at wants
    simp only [Bool.and_eq_true, bne_iff_ne] at wants
    obtain ⟨⟨⟨-, on⟩, open_⟩, -⟩ := wants
    refine ⟨by rw [loads, eq]; exact open_, ?_⟩
    have same : boundZone (frameBoundary s) n = boundZone (boundaryInputs s) n := by
      rw [boundZone, boundZone, loads, eq, zones]
    rw [same]
    split at on
    · next q hq => exact ⟨q, hq, by simpa using on⟩
    · cases on
  · obtain ⟨g, o, d, eq⟩ := keeps n
    have hy : y ∈ (s.loads.get n).binding := by
      rw [loads, eq] at hy
      rw [← input]
      exact hy
    obtain ⟨q, hq, mem⟩ := law.2 n y hy
    refine ⟨_, Option.mem_def.mpr ((zone y).trans (congrArg _ (Option.mem_def.mp hq))), mem⟩

theorem changeMap_heat (m : ClassMap) {s : State} (law : heatLaw s) : heatLaw (changeMap m s) := by
  obtain ⟨u, cut, eq⟩ := changeMap_eq m s
  rw [eq]
  refine law.of_loads rfl (fun n => ?_) fun n some => ?_
  · rw [Table.get_build]
    exact cut.binding n
  · rw [Table.get_build] at some ⊢
    change remaining s.time.slice (u.loads.get n) ≠ [] at some
    rw [← cut.time] at some
    obtain ⟨stays, before⟩ := cut.rest some
    refine ⟨before, fun open_ => ?_⟩
    have unlocked : (resolveClass m n).1 ≠ .lockout := fun locked => stays ⟨locked, open_⟩
    change (if (resolveClass m n).1 = .lockout then LoadClass.lockout else (u.loads.get n).effective) ≠ .lockout
    rw [if_neg unlocked, cut.effective]
    exact open_

theorem feedConversion_heat (code : BitVec 12) {s : State} (law : heatLaw s) : heatLaw (feedConversion code s) := by
  have discarded : ∀ f, heatLaw (enterSag { s with feed := f }) := fun f => by
    have zones : (enterSag { s with feed := f }).zones = s.zones := by
      rw [enterSag_eq]
      have placed : (discardFrame { s with feed := Feed.sagged f }).zones = s.zones := (discardFrame_touches _).zones
      generalize discardFrame { s with feed := Feed.sagged f } = u at placed ⊢
      have paged := ((raise_touches .feedSag .any 0 (testPermit u)).trans (post_touches .feedState 0 f.reading _)).zones
      exact (paged.trans ((testPermit_within u).zones (by simp))).trans placed
    have loads : ∀ n, (enterSag { s with feed := f }).loads.get n = (discardFrame { s with feed := Feed.sagged f }).loads.get n :=
      fun n => by rw [enterSag_loads, ← discardFrame_loads]
    have time : (enterSag { s with feed := f }).time = s.time := (enterSag_state _).time
    refine law.of_loads zones (fun n => ?_) fun n some => (some ?_).elim
    · rw [enterSag_loads]
      exact (discardFrame_cut _).binding n
    · rw [loads, time]
      exact remaining_discardFrame { s with feed := Feed.sagged f } n
  have waits : ∀ f, heatLaw (enterRestoreWait { s with feed := f }) := fun f =>
    heatLaw.depends.within (enterRestoreWait_within { s with feed := f }) (by simp) law
  unfold feedConversion testFeed
  dsimp only
  split
  · split
    · split
      · exact waits _
      · exact law
    · exact law
  · split
    · split
      · exact discarded _
      · exact law
    · exact law

theorem loadSet_heat {n r : Nat} {s : State} (law : heatLaw s) : heatLaw (loadSet n r s).state := by
  refine loadSet_cases (motive := fun a => heatLaw a.state) (fun _ => law) fun n _ _ => ?_
  rw [accept_state]
  refine (cutLoad_cut n _).heatLaw (law.of_loads rfl (fun m => ?_) fun m some => ?_)
  · rw [State.setLoad_loads, Table.get_set]
    split
    · next h => subst h; rfl
    · rfl
  · rw [State.setLoad_loads, Table.get_set] at some ⊢
    split at some
    · next h => subst h; rw [if_pos rfl]; exact ⟨some, id⟩
    · next h => rw [if_neg h]; exact ⟨some, id⟩

theorem feedLimit_heat {v : Nat} {s : State} (law : heatLaw s) : heatLaw (feedLimit v s).state := by
  refine feedLimit_cases (motive := fun a => heatLaw a.state) (fun _ => law) (fun _ _ => law) fun _ _ => ?_
  rw [accept_state]
  obtain ⟨_, cut⟩ := walk_cut s.alloc.order.reverse { s with alloc := { s.alloc with limitSetting := v, limit := v } }
  change Cut _ _ (reverseWalk { s with alloc := { s.alloc with limitSetting := v, limit := v } }) at cut
  generalize reverseWalk { s with alloc := { s.alloc with limitSetting := v, limit := v } } = w at cut ⊢
  exact cut.heatLaw law

theorem shedLevel_heat {v : Nat} {s : State} (law : heatLaw s) : heatLaw (shedLevel v s).state := by
  refine shedLevel_cases (motive := fun a => heatLaw a.state) (fun _ => law) (fun _ _ => law) fun _ _ => ?_
  rw [accept_state]
  have cut := shedLoads_cut s.alloc.shed v { s with alloc := { s.alloc with shedSetting := v, shed := v } }
  generalize allLoads.foldl (shedLoad s.alloc.shed v) { s with alloc := { s.alloc with shedSetting := v, shed := v } } = w at cut ⊢
  exact cut.heatLaw law

theorem effect_heat (i : Instr) (s : State) (h : ∃ b ∈ [Block.time, .loads, .zones], b ∈ writes i) (law : heatLaw s) :
    heatLaw (effect i s) := by
  obtain ⟨b, hb, hw⟩ := h
  have mapped : ∀ m, heatLaw (changeMap m s) := fun m => changeMap_heat m law
  by_cases zones : ((writes i).contains .zones && !(writes i).contains .time) = true
  · rw [Bool.and_eq_true, Bool.not_eq_true', List.contains_iff_mem] at zones
    refine heat_zoneOps.effect i s zones.1 (by simpa using zones.2) (fun _ _ _ z r _ zone _ => leaving_heat zone) law
  cases i
  case clockSet => exact clockSet_cases (motive := fun a => heatLaw a.state) (fun _ => law) fun _ => law
  case frameSet => exact frameSet_cases (motive := fun a => heatLaw a.state) (fun _ => law) fun _ _ => law
  case kitchenClockAdvance => exact law
  case loadSet => exact loadSet_heat law
  case feedLimit => exact feedLimit_heat law
  case shedLevel => exact shedLevel_heat law
  case mapFixed => exact mapFixed_cases (motive := fun a => heatLaw a.state) (fun _ => law) fun m => by rw [accept_state]; exact mapped m
  case mapWindow =>
    exact mapWindow_cases (motive := fun a => heatLaw a.state) (fun _ => law) fun m _ => by rw [acceptClamped_state]; exact mapped m
  case mapDefault => exact mapDefault_cases (motive := fun a => heatLaw a.state) (fun _ => law) fun m => by rw [accept_state]; exact mapped m
  case mapEnable =>
    rw [effect_request rfl, mapEnable_state]
    exact mapped _
  case feedConversion code => rw [effect_event (f := feedConversion code) rfl]; exact feedConversion_heat code law
  case sliceAdvance =>
    rw [effect_event (f := sliceAdvance) rfl, sliceAdvance]
    split
    · refine law.of_loads rfl (fun n => rfl) fun n some => ⟨?_, id⟩
      obtain ⟨i, hi⟩ := List.exists_mem_of_ne_nil _ some
      rw [mem_remaining] at hi
      exact List.ne_nil_of_mem (mem_remaining.mpr ⟨hi.1, (Nat.le_succ _).trans hi.2⟩)
    · exact frameBoundary_heat law
  case frameBoundary => rw [effect_event (f := frameBoundary) rfl]; exact frameBoundary_heat law
  all_goals first
    | exact (not_writes hb hw rfl).elim
    | exact (zones rfl).elim

/-- Settles O57. -/
theorem everyStepKeepsTheHeatLaw : Obligations.EveryStepKeepsTheHeatLaw := fun _ _ law stepped => by
  have reset : ∀ (s : State) chip ports, heatLaw (s.resetBlocks chip ports) := resetBlocks_heat
  have ticked : ∀ s : State, heatLaw s → heatLaw (countTick s) := fun s law => by
    have zones : ∀ z, (countTick s).zones.get z = (s.zones.get z).map Zone.tick := fun z => by rw [countTick_eq, Table.get_map]
    have loads : (countTick s).loads = s.loads := by rw [countTick_eq]
    have slice : (countTick s).time.slice = s.time.slice := by rw [countTick_eq]
    generalize countTick s = w at zones loads slice ⊢
    obtain ⟨heat, bound⟩ := law
    unfold heatLaw boundZone
    rw [loads, slice]
    refine ⟨fun n some => ?_, fun n y hy => ?_⟩
    · obtain ⟨open_, q, hq, on⟩ := heat n some
      obtain ⟨y, hy, hz⟩ := Option.bind_eq_some_iff.mp hq
      exact ⟨open_, q.tick, Option.bind_eq_some_iff.mpr ⟨y, hy, by rw [zones, hz]; rfl⟩, on⟩
    · obtain ⟨q, hq, mem⟩ := bound n y hy
      exact ⟨q.tick, by rw [zones, Option.mem_def.mp hq]; rfl, mem⟩
  exact (keptBy_of_blocks heatLaw.depends (by simp) effect_heat reset ticked).step law stepped

end Sys2Proof.Machine
end

section
/-! PROOF. Plates, cabinets and courses (R119, R124, R137 to R140): the sums over cabinets and courses, and the books that the
three laws keep, with the courses set apart whose SHORT mark is still to be set. -/

namespace Sys2Proof.Machine

open Finset in
/-- Two tables of numbers that differ in one place differ in their sums by that place. -/
theorem sum_of_differ {n : Nat} {f g : Fin n → Nat} (i : Fin n) (h : ∀ j, j ≠ i → g j = f j) :
    (∑ j, g j) + f i = (∑ j, f j) + g i := by
  have rest : ∑ j ∈ univ.erase i, g j = ∑ j ∈ univ.erase i, f j := sum_congr rfl fun j hj => h j (ne_of_mem_erase hj)
  rw [← add_sum_erase univ g (mem_univ i), ← add_sum_erase univ f (mem_univ i), rest]
  omega

theorem sum_map_filter {α : Type} (p : α → Bool) (f : α → Nat) (l : List α) :
    ((l.filter p).map f).sum = (l.map fun a => if p a = true then f a else 0).sum := by
  induction l with
  | nil => rfl
  | cons a l ih =>
    rw [List.filter_cons, List.map_cons, List.sum_cons, ← ih]
    split
    · rw [List.map_cons, List.sum_cons]
    · rw [Nat.zero_add]

/-! ### What stands in cabinets (R118) -/

/-- The plates of a kind that a cabinet holds. -/
def stockOf (k : WareId) : Option Cabinet → Nat
  | some c => if c.kind = some k then c.stock else 0
  | none => 0

theorem stockOf_some (k : WareId) (c : Cabinet) : stockOf k (some c) = if c.kind = some k then c.stock else 0 := rfl

theorem inCabinets_eq (s : State) (k : WareId) : inCabinets s k = ∑ z, stockOf k (s.cabinet? z) := by
  rw [inCabinets, cabinetsOf, sum_map_filter, Fin.sum_univ_def]
  refine congrArg List.sum (List.map_congr_left fun z _ => ?_)
  cases s.cabinet? z with
  | none => rfl
  | some c => simp only [stockOf, beq_iff_eq]

/-! ### What courses hold (R124) -/

/-- What a slot's course holds on a cabinet. -/
def heldBy (z : ZoneId) : Option Course → Nat
  | some r => heldIn r.entries z
  | none => 0

theorem heldBy_some (z : ZoneId) (r : Course) : heldBy z (some r) = heldIn r.entries z := rfl

theorem heldOn_eq (s : State) (z : ZoneId) : heldOn s z = ∑ c, heldBy z (s.course? c) := by
  rw [heldOn, Fin.sum_univ_def]
  refine congrArg List.sum (List.map_congr_left fun c _ => ?_)
  cases s.course? c with
  | none => rfl
  | some r => rfl

theorem heldIn_cons (e : ZoneId × Nat) (es : List (ZoneId × Nat)) (z : ZoneId) :
    heldIn (e :: es) z = (if e.1 = z then e.2 else 0) + heldIn es z := by
  unfold heldIn
  rw [List.filter_cons]
  by_cases h : e.1 = z
  · simp [h]
  · simp [h]

/-- The sum of some entries. -/
def heldAll (es : List (ZoneId × Nat)) : Nat := (es.map (·.2)).sum

theorem heldAll_cons (e : ZoneId × Nat) (es : List (ZoneId × Nat)) : heldAll (e :: es) = e.2 + heldAll es := by
  simp [heldAll]

theorem heldIn_of_not_mem {es : List (ZoneId × Nat)} {z : ZoneId} (h : z ∉ es.map (·.1)) : heldIn es z = 0 := by
  have none : es.filter (fun e => e.1 = z) = [] := by
    rw [List.filter_eq_nil_iff]
    exact fun e mem same => h (List.mem_map.mpr ⟨e, mem, by simpa using same⟩)
  rw [heldIn, none]
  rfl

/-- Entries on distinct cabinets, none empty, with what they hold in all (R139). -/
structure Entries (es : List (ZoneId × Nat)) : Prop where
  few : es.length ≤ 6
  apart : (es.map (·.1)).Nodup
  some : ∀ e ∈ es, 1 ≤ e.2

/-- A count raised in the entry on a cabinet (R139). -/
def bump (z : ZoneId) (n : Nat) (e : ZoneId × Nat) : ZoneId × Nat := if e.1 = z then (e.1, e.2 + n) else e

theorem map_bump_of_not_mem {z : ZoneId} {n : Nat} {es : List (ZoneId × Nat)} (h : z ∉ es.map (·.1)) : es.map (bump z n) = es := by
  refine (List.map_congr_left fun e mem => ?_).trans (List.map_id es)
  exact if_neg fun same => h (List.mem_map.mpr ⟨e, mem, same⟩)

theorem bump_fst (z : ZoneId) (n : Nat) (e : ZoneId × Nat) : (bump z n e).1 = e.1 := by
  unfold bump
  split
  · rfl
  · rfl

theorem held_map_bump {z : ZoneId} (n : Nat) {es : List (ZoneId × Nat)} (apart : (es.map (·.1)).Nodup) (mem : z ∈ es.map (·.1)) :
    heldAll (es.map (bump z n)) = heldAll es + n ∧
      ∀ y, heldIn (es.map (bump z n)) y = heldIn es y + if y = z then n else 0 := by
  induction es with
  | nil => cases mem
  | cons e es ih =>
    rw [List.map_cons, List.nodup_cons] at apart
    rw [List.map_cons]
    by_cases here : e.1 = z
    · rw [map_bump_of_not_mem (here ▸ apart.1), heldAll_cons, heldAll_cons, bump, if_pos here]
      refine ⟨by dsimp only; omega, fun y => ?_⟩
      rw [heldIn_cons, heldIn_cons, here]
      by_cases same : z = y
      · subst same
        simp only [if_true]
        omega
      · simp only [if_neg same, if_neg (Ne.symm same)]
        omega
    · rw [List.map_cons, List.mem_cons] at mem
      obtain ⟨all, each⟩ := ih apart.2 (mem.resolve_left fun same => here same.symm)
      rw [heldAll_cons, heldAll_cons, bump, if_neg here, all]
      refine ⟨by omega, fun y => ?_⟩
      rw [heldIn_cons, heldIn_cons, each]
      omega

/-- What a reserve on a cabinet does to a course's entries (R139). -/
theorem Entries.add {es : List (ZoneId × Nat)} (h : Entries es) {z : ZoneId} {n : Nat} (more : 1 ≤ n)
    (room : es.any (fun e => e.1 == z) = true ∨ es.length < 6) :
    Entries (addEntry z n es) ∧ heldAll (addEntry z n es) = heldAll es + n ∧
      (∀ y, heldIn (addEntry z n es) y = heldIn es y + if y = z then n else 0) ∧
      ∀ e ∈ addEntry z n es, e.1 = z ∨ ∃ d ∈ es, d.1 = e.1 := by
  unfold addEntry
  by_cases any : es.any (fun e => e.1 == z) = true
  · rw [if_pos any]
    have mem : z ∈ es.map (·.1) := by simpa using any
    obtain ⟨all, each⟩ := held_map_bump n h.apart mem
    refine ⟨⟨(List.length_map _).trans_le h.few, ?_, fun e he => ?_⟩, all, each, fun e he => ?_⟩
    · rw [List.map_map]
      exact (List.map_congr_left (fun e _ => (bump_fst z n e).symm)) ▸ h.apart
    · obtain ⟨d, hd, rfl⟩ := List.mem_map.mp he
      have before := h.some d hd
      split
      · exact before.trans (Nat.le_add_right _ _)
      · exact before
    · obtain ⟨d, hd, rfl⟩ := List.mem_map.mp he
      exact .inr ⟨d, hd, (bump_fst z n d).symm⟩
  · rw [if_neg any]
    have fresh : z ∉ es.map (·.1) := fun mem => any (by simpa using mem)
    refine ⟨⟨?_, ?_, fun e he => ?_⟩, by simp [heldAll], fun y => ?_, fun e he => ?_⟩
    · rw [List.length_append]
      exact room.resolve_left any
    · rw [List.map_append, List.nodup_append]
      refine ⟨h.apart, List.nodup_singleton _, fun a ha b hb same => fresh ?_⟩
      rw [List.map_singleton, List.mem_singleton] at hb
      rw [same, hb] at ha
      exact ha
    · rcases List.mem_append.mp he with old | new
      · exact h.some e old
      · rw [List.mem_singleton.mp new]
        exact more
    · rw [heldIn, List.filter_append, List.map_append, List.sum_append]
      congr 1
      by_cases same : y = z
      · simp [same]
      · simp [same, Ne.symm same]
    · rcases List.mem_append.mp he with old | new
      · exact .inr ⟨e, old, rfl⟩
      · rw [List.mem_singleton.mp new]
        exact .inl rfl

/-- What a plate drawn does to a course's entries (R142). -/
theorem Entries.take {e : ZoneId × Nat} {es : List (ZoneId × Nat)} (h : Entries (e :: es)) :
    Entries (takeFromHead (e :: es)) ∧ heldAll (takeFromHead (e :: es)) + 1 = heldAll (e :: es) ∧
      (∀ y, heldIn (takeFromHead (e :: es)) y + (if y = e.1 then 1 else 0) = heldIn (e :: es) y) ∧
      ∀ d ∈ takeFromHead (e :: es), ∃ x ∈ e :: es, x.1 = d.1 := by
  obtain ⟨few, apart, some⟩ := h
  have one := some e List.mem_cons_self
  have flip : ∀ y, (if y = e.1 then 1 else 0) = if e.1 = y then 1 else 0 := fun y => if_congr eq_comm rfl rfl
  rw [List.map_cons, List.nodup_cons] at apart
  rw [takeFromHead]
  split
  · next last =>
    refine ⟨⟨(Nat.le_succ _).trans few, apart.2, fun d hd => some d (List.mem_cons_of_mem _ hd)⟩, ?_, fun y => ?_, fun d hd =>
      ⟨d, List.mem_cons_of_mem _ hd, rfl⟩⟩
    · rw [heldAll_cons]
      omega
    · rw [heldIn_cons, flip]
      split <;> omega
  · next more =>
    refine ⟨⟨few, List.nodup_cons.mpr apart, fun d hd => ?_⟩, ?_, fun y => ?_, fun d hd => ?_⟩
    · rcases List.mem_cons.mp hd with rfl | old
      · dsimp only
        omega
      · exact some d (List.mem_cons_of_mem _ old)
    · rw [heldAll_cons, heldAll_cons]
      dsimp only
      omega
    · rw [heldIn_cons, heldIn_cons, flip]
      dsimp only
      split <;> omega
    · rcases List.mem_cons.mp hd with rfl | old
      · exact ⟨e, List.mem_cons_self, rfl⟩
      · exact ⟨d, List.mem_cons_of_mem _ old, rfl⟩

/-- What a release of one cabinet does to a course's entries (R145). -/
theorem Entries.remove {es : List (ZoneId × Nat)} (h : Entries es) (z : ZoneId) :
    Entries (es.filter fun e => e.1 ≠ z) ∧ heldAll (es.filter fun e => e.1 ≠ z) ≤ heldAll es ∧
      ∀ y, heldIn (es.filter fun e => e.1 ≠ z) y = if y = z then 0 else heldIn es y := by
  have sub : (es.filter fun e => e.1 ≠ z).Sublist es := List.filter_sublist
  refine ⟨⟨sub.length_le.trans h.few, (sub.map _).nodup h.apart, fun e he => h.some e (sub.subset he)⟩,
    (sub.map _).sum_le_sum fun _ _ => Nat.zero_le _, fun y => ?_⟩
  rw [heldIn, List.filter_filter]
  split
  · next same =>
    have none : es.filter (fun a => decide (a.1 = y) && decide (a.1 ≠ z)) = [] := by
      rw [List.filter_eq_nil_iff]
      intro e _
      simp [same]
    rw [none]
    rfl
  · next other =>
    refine congrArg (fun l : List (ZoneId × Nat) => (l.map (·.2)).sum) (List.filter_congr fun e _ => ?_)
    by_cases here : e.1 = y
    · simp [here, other]
    · simp [here]

end Sys2Proof.Machine
end

section
/-! PROOF. The books of plates and courses: what changes nothing in them, and that passes, settlements, releases and draws of
plates keep them (R119, R124, R126, R137 to R145). -/

namespace Sys2Proof.Machine

/-! ### What the books are kept of -/

/-- As far as plates and courses go, nothing was done. -/
structure SameStock (s t : State) : Prop where
  wares : t.wares = s.wares
  racked : ∀ k, inRacks t k = inRacks s k
  courses : t.courses = s.courses
  cabinets : ∀ z, t.cabinet? z = s.cabinet? z

theorem SameStock.refl (s : State) : SameStock s s := ⟨rfl, fun _ => rfl, rfl, fun _ => rfl⟩

theorem SameStock.trans {s t u : State} (h : SameStock s t) (k : SameStock t u) : SameStock s u :=
  ⟨k.wares.trans h.wares, fun i => (k.racked i).trans (h.racked i), k.courses.trans h.courses,
    fun z => (k.cabinets z).trans (h.cabinets z)⟩

theorem cabinet?_of_zones {s t : State} (h : t.zones = s.zones) (z : ZoneId) : t.cabinet? z = s.cabinet? z := by
  rw [State.cabinet?, h]
  rfl

theorem inRacks_of_racks {s t : State} (h : t.line.racks = s.line.racks) (k : WareId) : inRacks t k = inRacks s k := by
  rw [inRacks, h]
  rfl

theorem SameStock.of_within {bs : List Block} {s t : State} (h : Within bs s t)
    (apart : ∀ b ∈ [Block.wares, .racks, .courses, .zones], b ∉ bs) : SameStock s t :=
  ⟨h.wares (apart _ (by simp)), inRacks_of_racks (h.same .racks (apart _ (by simp))), h.courses (apart _ (by simp)),
    cabinet?_of_zones (h.zones (apart _ (by simp)))⟩

/-- A zone's record that keeps its kind and its cabinet. -/
theorem SameStock.of_record {s t : State} {z : ZoneId} {r r' : Zone} (zone : s.zones.get z = some r) (kind : r'.kind = r.kind)
    (cabinet : r'.cabinet = r.cabinet) (zones : t.zones = s.zones.set z (some r')) (wares : t.wares = s.wares)
    (courses : t.courses = s.courses) (racked : ∀ k, inRacks t k = inRacks s k) : SameStock s t := by
  refine ⟨wares, racked, courses, fun y => ?_⟩
  rw [State.cabinet?, State.cabinet?, zones, Table.get_set]
  by_cases same : y = z
  · subst same
    rw [if_pos rfl, zone]
    simp only [kind, cabinet]
  · rw [if_neg same]

theorem moveZone_stock (z : ZoneId) (st : ZoneState) (s : State) : SameStock s (moveZone z st s) := by
  have within := (moveZone_touches z st s).within
  cases zone : s.zones.get z with
  | some r =>
    refine .of_record zone (r.enter_kind st) (r.enter_cabinet st) ?_ (within.wares (by simp)) (within.courses (by simp))
      (inRacks_of_racks (within.same .racks (by simp)))
    rw [moveZone_zones, State.changeZone, zone, State.setZone_zones]
  | none =>
    refine ⟨within.wares (by simp), inRacks_of_racks (within.same .racks (by simp)), within.courses (by simp), cabinet?_of_zones ?_⟩
    rw [moveZone_zones, State.changeZone, zone]

theorem refreshStandby_stock (z : ZoneId) (s : State) : SameStock s (refreshStandby z s) := by
  rcases refreshStandby_eq z s with same | ⟨r, t, zone, set⟩
  · rw [same]
    exact .refl s
  · rw [set]
    exact .of_record (r' := { r with standbyTimer := t }) zone rfl rfl rfl rfl rfl fun _ => rfl

theorem sameStock_ops : StockOps SameStock where
  refl := SameStock.refl
  trans := SameStock.trans
  post _ _ _ _ := ⟨rfl, fun _ => rfl, rfl, fun _ => rfl⟩
  raise _ _ _ _ := .of_within (raise_touches _ _ _ _).within (by simp)
  clear _ _ _ := .of_within (clearEvent_touches _ _ _).within (by simp)
  opened _ _ _ _ _ := ⟨rfl, fun _ => rfl, rfl, fun _ => rfl⟩
  closed _ _ := ⟨rfl, fun _ => rfl, rfl, fun _ => rfl⟩
  woken _ _ := ⟨rfl, fun _ => rfl, rfl, fun _ => rfl⟩
  refresh := refreshStandby_stock
  wake z s _ := moveZone_stock z .preheat s

/-! ### The books -/

/-- R137 and R139 of a course's record, its SHORT mark apart. -/
structure Course.Kept (r : Course) : Prop where
  entries : Entries r.entries
  within : r.plated + heldAll r.entries ≤ r.covers

/-- R124 of a cabinet of which courses hold a number of plates. -/
structure Cabinet.Kept (c : Cabinet) (held : Nat) : Prop where
  covered : c.reserved ≤ c.stock
  fits : c.stock ≤ c.capacity
  held : c.reserved = held
  vacant : c.kind = none → c.capacity = 0

/-- The laws of plates, cabinets and courses together, the SHORT marks of some courses apart (R119, R124, R137 to R140). -/
structure Books (late : CourseId → Prop) (s : State) : Prop where
  plates : ∀ k, (s.wares.get k).total = (s.wares.get k).soiled + inRacks s k + (s.wares.get k).clean +
    ∑ z, stockOf k (s.cabinet? z) + (s.wares.get k).out
  unknown : ∀ k, (s.wares.get k).defined = false → (s.wares.get k).total = 0
  cabinets : ∀ z c, s.cabinet? z = some c → c.Kept (∑ d, heldBy z (s.course? d))
  kinds : ∀ c r, s.course? c = some r → ∀ e ∈ r.entries, ∃ b, s.cabinet? e.1 = some b ∧ b.kind = some r.kind
  apart : s.courses.order.Nodup
  live : ∀ c, c ∈ s.courses.order ↔ (s.course? c).isSome
  courses : ∀ c r, s.course? c = some r → r.Kept ∧ (¬ late c → (r.short = true ↔ 0 < r.need))

section
variable {late other : CourseId → Prop} {s t : State}

theorem Books.mono (h : Books late s) (more : ∀ c, late c → other c) : Books other s :=
  ⟨h.plates, h.unknown, h.cabinets, h.kinds, h.apart, h.live,
    fun c r live => ⟨(h.courses c r live).1, fun done => (h.courses c r live).2 fun l => done (more c l)⟩⟩

theorem Books.same (h : Books late s) (same : SameStock s t) : Books late t := by
  obtain ⟨plates, unknown, cabinets, kinds, apart, live, courses⟩ := h
  have course : ∀ c, t.course? c = s.course? c := fun c => by rw [State.course?, same.courses]; rfl
  exact ⟨fun k => by simp only [same.wares, same.racked, same.cabinets]; exact plates k, by rw [same.wares]; exact unknown,
    fun z => by simp only [same.cabinets, course]; exact cabinets z, fun c => by simp only [same.cabinets, course]; exact kinds c,
    by rw [same.courses]; exact apart, fun c => by rw [same.courses, course]; exact live c,
    fun c => by rw [course]; exact courses c⟩

/-- What an entry holds is among what courses hold. -/
theorem heldBy_le (s : State) (c : CourseId) (z : ZoneId) : heldBy z (s.course? c) ≤ ∑ d, heldBy z (s.course? d) :=
  Finset.single_le_sum (f := fun d => heldBy z (s.course? d)) (fun _ _ => Nat.zero_le _) (Finset.mem_univ c)

theorem le_heldIn {es : List (ZoneId × Nat)} {e : ZoneId × Nat} (mem : e ∈ es) : e.2 ≤ heldIn es e.1 := by
  refine List.single_le_sum (fun _ _ => Nat.zero_le _) _ (List.mem_map.mpr ⟨e, ?_, rfl⟩)
  exact List.mem_filter.mpr ⟨mem, by simp⟩

end

theorem heldAll_eq (r : Course) : r.totalReserved = heldAll r.entries := rfl

/-- The laws are the books with no SHORT mark apart, and that the cabinets are those of the WARMERs. -/
theorem books_iff (s : State) : plateLaw s ∧ cabinetLaw s ∧ courseLaw s ↔
    Books (fun _ => False) s ∧ ∀ z : ZoneId, ∀ r ∈ s.zones.get z, (r.cabinet.isSome ↔ r.kind = .warmer) := by
  constructor
  · rintro ⟨plates, ⟨cabinets, -, shelved, kinds⟩, apart, live, courses⟩
    refine ⟨⟨fun k => ?_, fun k => (plates k).2, fun z c hc => ?_, fun c r hr e he => ?_, apart, live, fun c r hr => ?_⟩, shelved⟩
    · rw [← inCabinets_eq]
      exact (plates k).1
    · obtain ⟨covered, fits, held, vacant⟩ := cabinets z c hc
      rw [heldOn_eq] at held
      exact ⟨covered, fits, held, vacant⟩
    · obtain ⟨b, hb, kind⟩ := kinds c r hr e he
      exact ⟨b, hb, kind⟩
    · obtain ⟨within, few, apart, some, short⟩ := courses c r hr
      exact ⟨⟨⟨few, apart, some⟩, within⟩, fun _ => short⟩
  · rintro ⟨books, shelved⟩
    refine ⟨fun k => ⟨?_, books.unknown k⟩, ⟨fun z c hc => ?_, fun z none => ?_, shelved, fun c r hr e he => ?_⟩, books.apart, books.live,
      fun c r hr => ?_⟩
    · rw [inCabinets_eq]
      exact books.plates k
    · obtain ⟨covered, fits, held, vacant⟩ := books.cabinets z c hc
      rw [heldOn_eq]
      exact ⟨covered, fits, held, vacant⟩
    · rw [heldOn_eq]
      refine Finset.sum_eq_zero fun c _ => ?_
      cases hr : s.course? c with
      | none => rfl
      | some r =>
        refine heldIn_of_not_mem fun mem => ?_
        obtain ⟨e, he, rfl⟩ := List.mem_map.mp mem
        obtain ⟨b, hb, -⟩ := books.kinds c r hr e he
        rw [none] at hb
        cases hb
    · obtain ⟨b, hb, kind⟩ := books.kinds c r hr e he
      exact ⟨b, hb, kind⟩
    · obtain ⟨⟨⟨few, apart, some⟩, within⟩, short⟩ := books.courses c r hr
      exact ⟨within, few, apart, some, short id⟩

/-! ### A cabinet and a course changed -/

theorem setCabinet_cabinet? {s : State} {z : ZoneId} {c d : Cabinet} (h : s.cabinet? z = some c) (y : ZoneId) :
    (s.setCabinet z d).cabinet? y = if y = z then some d else s.cabinet? y := by
  obtain ⟨r, zone, warmer, -⟩ := cabinet?_eq_some.mp h
  rw [setCabinet_eq zone, State.cabinet?, State.setZone_zones, Table.get_set]
  by_cases same : y = z
  · rw [if_pos same, if_pos same]
    simp [warmer]
  · rw [if_neg same, if_neg same]
    rfl

theorem setCourse_course? (s : State) (c d : CourseId) (v : Option Course) :
    (s.setCourse c v).course? d = if d = c then v else s.course? d := by
  rw [State.course?, State.setCourse_slots, Table.get_set]
  rfl

/-- The total of a live course's entries changed at one place: the sums over courses. -/
theorem sum_heldBy_of_differ {s t : State} (c : CourseId) (others : ∀ d, d ≠ c → t.course? d = s.course? d) (z : ZoneId) :
    (∑ d, heldBy z (t.course? d)) + heldBy z (s.course? c) = (∑ d, heldBy z (s.course? d)) + heldBy z (t.course? c) :=
  sum_of_differ (f := fun d => heldBy z (s.course? d)) (g := fun d => heldBy z (t.course? d)) c fun d hd => by rw [others d hd]

theorem sum_stockOf_of_differ {s t : State} (z : ZoneId) (others : ∀ y, y ≠ z → t.cabinet? y = s.cabinet? y) (k : WareId) :
    (∑ y, stockOf k (t.cabinet? y)) + stockOf k (s.cabinet? z) = (∑ y, stockOf k (s.cabinet? y)) + stockOf k (t.cabinet? z) :=
  sum_of_differ (f := fun y => stockOf k (s.cabinet? y)) (g := fun y => stockOf k (t.cabinet? y)) z fun y hy => by rw [others y hy]

section
variable {late : CourseId → Prop} {s t : State}

/-- A live course whose record changes in nothing but what it is marked or holds. -/
theorem Books.setCourse (h : Books late s) {c : CourseId} {r r' : Course} (live : s.course? c = some r) (kind : r'.kind = r.kind)
    (entries : r'.entries = r.entries) (kept : r'.Kept) (short : ¬ late c → (r'.short = true ↔ 0 < r'.need)) :
    Books late (s.setCourse c (some r')) := by
  have course := setCourse_course? s c
  have held : ∀ z d, heldBy z ((s.setCourse c (some r')).course? d) = heldBy z (s.course? d) := fun z d => by
    rw [course]
    split
    · next same => rw [same, live, heldBy, heldBy, entries]
    · rfl
  refine ⟨h.plates, h.unknown, fun z b hb => ?_, fun d q hq e he => ?_, h.apart, fun d => ?_, fun d q hq => ?_⟩
  · simp only [held]
    exact h.cabinets z b hb
  · rw [course] at hq
    split at hq
    · cases hq
      rw [entries] at he
      rw [kind]
      exact h.kinds c r live e he
    · exact h.kinds d q hq e he
  · rw [course, State.setCourse_order, h.live]
    split
    · next same => rw [same, live]; rfl
    · rfl
  · rw [course] at hq
    split at hq
    · next same =>
      cases hq
      subst same
      exact ⟨kept, short⟩
    · exact h.courses d q hq

/-- A live course whose SHORT mark is as its need has it (R140). -/
theorem Books.mark (h : Books late s) {c : CourseId} {r r' : Course} (live : s.course? c = some r) (kind : r'.kind = r.kind)
    (entries : r'.entries = r.entries) (kept : r'.Kept) (short : r'.short = true ↔ 0 < r'.need) :
    Books (fun d => late d ∧ d ≠ c) (s.setCourse c (some r')) := by
  have set := h.setCourse live kind entries kept fun _ => short
  refine ⟨set.plates, set.unknown, set.cabinets, set.kinds, set.apart, set.live, fun d q hq => ⟨(set.courses d q hq).1, fun done => ?_⟩⟩
  by_cases same : d = c
  · rw [setCourse_course?, if_pos same] at hq
    cases hq
    exact short
  · exact (set.courses d q hq).2 fun l => done ⟨l, same⟩

/-- A cabinet and a course of its kind exchange plates: what the course holds on it and what it has reserved change by the same
number, and some plates of its stock may go to OUT (R124, R126). -/
theorem Books.exchange (h : Books late s) {c : CourseId} {z : ZoneId} {r r' : Course} {b b' : Cabinet} {n : Nat}
    (live : s.course? c = some r) (cabinet : s.cabinet? z = some b) (apart : late c)
    (racked : ∀ k, inRacks t k = inRacks s k) (order : t.courses.order = s.courses.order)
    (wares : ∀ k, t.wares.get k = { s.wares.get k with out := (s.wares.get k).out + if b.kind = some k then n else 0 })
    (cabinets : ∀ y, t.cabinet? y = if y = z then some b' else s.cabinet? y)
    (course : ∀ d, t.course? d = if d = c then some r' else s.course? d)
    (stands : b.kind = some r.kind) (kind : r'.kind = r.kind) (cabinetKind : b'.kind = b.kind) (capacity : b'.capacity = b.capacity)
    (stock : b'.stock + n = b.stock) (covered : b'.reserved ≤ b'.stock)
    (here : heldIn r'.entries z + b.reserved = heldIn r.entries z + b'.reserved)
    (there : ∀ y, y ≠ z → heldIn r'.entries y = heldIn r.entries y)
    (onto : ∀ e ∈ r'.entries, e.1 = z ∨ ∃ d ∈ r.entries, d.1 = e.1) (kept : r'.Kept) : Books late t := by
  have self : t.course? c = some r' := by rw [course, if_pos rfl]
  have own : t.cabinet? z = some b' := by rw [cabinets, if_pos rfl]
  have held := sum_heldBy_of_differ (s := s) (t := t) c fun d hd => by rw [course d, if_neg hd]
  have stocks := sum_stockOf_of_differ (s := s) (t := t) z fun y hy => by rw [cabinets y, if_neg hy]
  refine ⟨fun k => ?_, fun k => by rw [wares]; exact h.unknown k, fun y a ha => ?_, fun d q hq e he => ?_, by rw [order]; exact h.apart,
    fun d => ?_, fun d q hq => ?_⟩
  · have before := h.plates k
    have change := stocks k
    rw [own, cabinet] at change
    rw [stockOf_some, stockOf_some, cabinetKind] at change
    rw [wares, racked]
    dsimp only
    split at change
    · next same =>
      rw [if_pos same]
      omega
    · next other =>
      rw [if_neg other]
      omega
  · have change := held y
    rw [self, live] at change
    rw [heldBy_some, heldBy_some] at change
    rw [cabinets] at ha
    split at ha
    · next same =>
      cases ha
      subst same
      have before := h.cabinets y b cabinet
      refine ⟨covered, ?_, ?_, by rw [cabinetKind, capacity]; exact before.vacant⟩
      · rw [capacity]
        exact (Nat.le_of_add_right_le stock.le).trans before.fits
      · have := before.held
        omega
    · next other =>
      have before := h.cabinets y a ha
      rw [there y other] at change
      exact ⟨before.covered, before.fits, by rw [before.held]; omega, before.vacant⟩
  · have stays : ∀ y x, s.cabinet? y = some x → x.kind = some r.kind → ∃ b, t.cabinet? y = some b ∧ b.kind = some r.kind := by
      intro y x hx hk
      rw [cabinets]
      split
      · exact ⟨b', rfl, cabinetKind.trans stands⟩
      · exact ⟨x, hx, hk⟩
    rw [course] at hq
    split at hq
    · cases hq
      rw [kind]
      rcases onto e he with same | ⟨d, hd, same⟩
      · rw [same]
        exact stays z b cabinet stands
      · obtain ⟨x, hx, hk⟩ := h.kinds c r live d hd
        rw [← same]
        exact stays d.1 x hx hk
    · obtain ⟨x, hx, hk⟩ := h.kinds d q hq e he
      rw [cabinets]
      split
      · next same =>
        rw [same, cabinet] at hx
        cases hx
        exact ⟨b', rfl, cabinetKind.trans hk⟩
      · exact ⟨x, hx, hk⟩
  · rw [order, h.live, course]
    split
    · next same => rw [same, live]; rfl
    · rfl
  · rw [course] at hq
    split at hq
    · next same =>
      cases hq
      exact ⟨kept, fun done => (done (same ▸ apart)).elim⟩
    · exact h.courses d q hq

end

end Sys2Proof.Machine
end

section
/-! PROOF. Passes, reruns, releases and draws keep the books (R126, R139 to R145). -/

namespace Sys2Proof.Machine

/-- As far as plates and courses go, a course's slot is set in states that agree. -/
theorem SameStock.setCourse {s t : State} (h : SameStock s t) (c : CourseId) (v : Option Course) :
    SameStock (s.setCourse c v) (t.setCourse c v) :=
  ⟨h.wares, h.racked, by rw [State.setCourse, State.setCourse, h.courses], h.cabinets⟩

theorem reservePlates_stock {z : ZoneId} {b : Cabinet} (n : Nat) {s : State} (cabinet : s.cabinet? z = some b) :
    SameStock (s.setCabinet z { b with reserved := b.reserved + n }) (reservePlates z n s) := by
  unfold reservePlates
  rw [cabinet]
  exact sameStock_ops.report _ _ _

theorem Course.Kept.reserve {r : Course} (h : r.Kept) {n : Nat} (few : n ≤ r.need) : r.plated + (heldAll r.entries + n) ≤ r.covers := by
  have within := h.within
  rw [Course.need, heldAll_eq] at few
  omega

section
variable {late : CourseId → Prop} {s t : State}

/-- A FREE slot has no SHORT mark to be set. -/
theorem Books.of_free (h : Books late s) {c : CourseId} (free : s.course? c = none) : Books (fun d => late d ∧ d ≠ c) s := by
  refine ⟨h.plates, h.unknown, h.cabinets, h.kinds, h.apart, h.live, fun d q hq => ⟨(h.courses d q hq).1, fun done => ?_⟩⟩
  have other : d ≠ c := fun same => by
    rw [same, free] at hq
    cases hq
  exact (h.courses d q hq).2 fun l => done ⟨l, other⟩

/-- A pass at one cabinet (R139). -/
theorem Books.passAt (h : Books late s) {c : CourseId} (apart : late c) (deferred : Option ZoneId) (z : ZoneId) :
    Books late (passAt c deferred s z) := by
  unfold Machine.passAt
  split
  · next r b live cabinet =>
    split
    · next can =>
      simp only [canReserve, cabinet, Bool.and_eq_true, Bool.or_eq_true, decide_eq_true_eq, beq_iff_eq] at can
      obtain ⟨⟨⟨⟨stands, -⟩, plates⟩, needs⟩, room⟩ := can
      have kept := (h.courses c r live).1
      have covered := (h.cabinets z b cabinet).covered
      have more : 1 ≤ min b.available r.need := le_min plates needs
      obtain ⟨entries, all, each, onto⟩ := kept.entries.add more room
      have reserved : Books late ((s.setCabinet z { b with reserved := b.reserved + min b.available r.need }).setCourse c
          (some { r with entries := addEntry z (min b.available r.need) r.entries })) := by
        refine h.exchange (n := 0) (b' := { b with reserved := b.reserved + min b.available r.need })
          (r' := { r with entries := addEntry z (min b.available r.need) r.entries }) live cabinet apart (fun k => ?_) ?_ (fun k => ?_)
          (setCabinet_cabinet? cabinet) (fun d => ?_) stands rfl rfl rfl rfl ?_ ?_ (fun y other => ?_) onto ⟨entries, ?_⟩
        · exact inRacks_of_racks (by simp [State.setCabinet]) k
        · simp [State.setCabinet]
        · simp [State.setCabinet]
        · rw [setCourse_course?]
          simp [State.course?, State.setCabinet]
        · have := min_le_left b.available r.need
          rw [Cabinet.available] at this ⊢
          dsimp only
          omega
        · dsimp only
          rw [each, if_pos rfl]
          omega
        · dsimp only
          rw [each, if_neg other, Nat.add_zero]
        · dsimp only
          rw [all]
          exact kept.reserve (min_le_right _ _)
      have changed : ∀ u, SameStock (s.setCabinet z { b with reserved := b.reserved + min b.available r.need }) u →
          Books late (changeCourse c (fun q => { q with entries := addEntry z (min b.available r.need) q.entries }) u) := by
        intro u same
        have here : u.course? c = some r := by
          rw [State.course?, same.courses, ← live]
          simp [State.course?, State.setCabinet]
        rw [changeCourse, here]
        exact reserved.same (same.setCourse c _)
      have first := reservePlates_stock (min b.available r.need) cabinet
      dsimp only
      split
      · exact changed _ first
      · exact changed _ (first.trans (sameStock_ops.testRestock _ _))
    · exact h
  · exact h

/-- The end of a pass sets the SHORT mark (R140). -/
theorem Books.settleCourse (h : Books late s) (c : CourseId) (fired : Bool) :
    Books (fun d => late d ∧ d ≠ c) (settleCourse c fired s) := by
  have settled : ∀ r b, s.course? c = some r → (b = true ↔ 0 < r.need) →
      Books (fun d => late d ∧ d ≠ c) (s.setCourse c (some { r with short := b })) := by
    intro r b live marks
    have kept := (h.courses c r live).1
    exact h.mark (r' := { r with short := b }) live rfl rfl ⟨kept.entries, kept.within⟩ marks
  unfold Machine.settleCourse
  split
  · next r live =>
    dsimp only
    split
    · next done =>
      have marked := settled r false live ⟨nofun, fun more => by omega⟩
      split
      · exact marked.same (sameStock_ops.post _ _ _ _)
      split
      · exact marked.same (sameStock_ops.trans (sameStock_ops.clear _ _ _) (sameStock_ops.post _ _ _ _))
      · exact marked
    · next needs =>
      have marked := settled r true live ⟨fun _ => Nat.pos_of_ne_zero needs, fun _ => rfl⟩
      refine Books.same ?_ (sameStock_ops.fold _ sameStock_ops.wakeListed _ _)
      split
      · exact marked.same (sameStock_ops.trans (sameStock_ops.raise _ _ _ _) (sameStock_ops.post _ _ _ _))
      · exact marked
  · next free => exact h.of_free free

/-- A pass whole (R139, R140). -/
theorem Books.runPass (h : Books late s) (c : CourseId) (deferred : Option ZoneId) (fired : Bool) :
    Books (fun d => late d ∧ d ≠ c) (runPass c deferred fired s) := by
  unfold Machine.runPass
  split
  · next r live =>
    have walked : ∀ (zs : List ZoneId) (u : State), Books (fun d => late d ∨ d = c) u →
        Books (fun d => late d ∨ d = c) (zs.foldl (Machine.passAt c deferred) u) := by
      intro zs
      induction zs with
      | nil => exact fun u hu => hu
      | cons z zs ih => exact fun u hu => ih _ (hu.passAt (.inr rfl) deferred z)
    refine ((walked _ s (h.mono fun d => .inl)).settleCourse c fired).mono fun d => ?_
    rintro ⟨l | same, other⟩
    · exact ⟨l, other⟩
    · exact (other same).elim
  · next free => exact h.of_free free

/-- The reruns of one event (R141). -/
theorem Books.rerunCourses (h : Books late s) (z : ZoneId) : Books late (rerunCourses z s) := by
  have one : ∀ u c, Books late u → Books late (rerunCourse z u c) := fun u c hu => by
    unfold rerunCourse
    split
    · split
      · exact (hu.runPass c _ _).mono fun _ => And.left
      · exact hu
    · exact hu
  unfold Machine.rerunCourses
  generalize s.courses.order = order
  induction order generalizing s with
  | nil => exact h
  | cons c cs ih => exact ih (one s c h)

end

/-! ### The release of a cabinet (R145) -/

/-- A course without its entry on a cabinet. -/
def Course.without (z : ZoneId) (r : Course) : Course := { r with entries := r.entries.filter fun e => e.1 ≠ z }

theorem Course.without_without (z : ZoneId) (r : Course) : (r.without z).without z = r.without z := by
  simp [Course.without, List.filter_filter]

theorem Course.without_of_not_any {z : ZoneId} {r : Course} (h : r.entries.any (fun e => e.1 == z) = false) : r.without z = r := by
  have all : r.entries.filter (fun e => e.1 ≠ z) = r.entries := by
    rw [List.filter_eq_self]
    intro e he
    rw [List.any_eq_false] at h
    simpa using h e he
  rw [Course.without, all]

/-- Some courses' entries on a cabinet removed, and nothing else. -/
theorem removeEntries_eq (z : ZoneId) (cs : List CourseId) (s : State) : ∃ slots,
    cs.foldl (removeEntry z) s = { s with courses := { s.courses with slots := slots } } ∧
      ∀ d, slots.get d = if d ∈ cs then (s.course? d).map (Course.without z) else s.course? d := by
  induction cs generalizing s with
  | nil => exact ⟨s.courses.slots, rfl, fun d => rfl⟩
  | cons c cs ih =>
    have one : ∃ slots, removeEntry z s c = { s with courses := { s.courses with slots := slots } } ∧
        ∀ d, slots.get d = if d = c then (s.course? d).map (Course.without z) else s.course? d := by
      unfold removeEntry changeCourse
      split
      · next r live =>
        refine ⟨_, rfl, fun d => ?_⟩
        rw [Table.get_set]
        split
        · next same => rw [same, live]; rfl
        · rfl
      · next free =>
        refine ⟨s.courses.slots, rfl, fun d => ?_⟩
        split
        · next same => rw [same, free]; exact free
        · rfl
    obtain ⟨first, shape, each⟩ := one
    obtain ⟨slots, eq, rest⟩ := ih (removeEntry z s c)
    rw [shape] at eq rest
    refine ⟨slots, by rw [List.foldl_cons, shape]; exact eq, fun d => ?_⟩
    rw [rest, State.course?]
    change (if d ∈ cs then (first.get d).map _ else first.get d) = _
    rw [each]
    by_cases same : d = c
    · rw [if_pos same, if_pos (List.mem_cons.mpr (.inl same)), Option.map_map]
      split
      · refine congrArg (fun f => Option.map f (s.course? d)) (funext fun r => ?_)
        exact r.without_without z
      · rfl
    · rw [if_neg same]
      simp only [List.mem_cons, same, false_or]

theorem holdsEntry_iff {s : State} {z : ZoneId} {c : CourseId} :
    holdsEntry s z c = true ↔ ∃ r, s.course? c = some r ∧ r.entries.any (fun e => e.1 == z) = true := by
  unfold holdsEntry
  cases s.course? c with
  | none => simp
  | some r => simp

section
variable {late : CourseId → Prop} {s t : State}

/-- Every entry on a cabinet is gone and nothing is reserved on it. -/
theorem Books.withoutEntries (h : Books late s) {z : ZoneId} {b : Cabinet} (cabinet : s.cabinet? z = some b) (wares : t.wares = s.wares)
    (racked : ∀ k, inRacks t k = inRacks s k) (order : t.courses.order = s.courses.order)
    (cabinets : ∀ y, t.cabinet? y = if y = z then some { b with reserved := 0 } else s.cabinet? y)
    (course : ∀ d, t.course? d = (s.course? d).map (Course.without z)) :
    Books (fun d => late d ∨ holdsEntry s z d = true) t := by
  have held : ∀ y d, heldBy y (t.course? d) = if y = z then 0 else heldBy y (s.course? d) := fun y d => by
    rw [course]
    cases hd : s.course? d with
    | none => exact (ite_self _).symm
    | some r => exact ((h.courses d r hd).1.entries.remove z).2.2 y
  have stocks : ∀ k y, stockOf k (t.cabinet? y) = stockOf k (s.cabinet? y) := fun k y => by
    rw [cabinets]
    split
    · next same => rw [same, cabinet]; rfl
    · rfl
  refine ⟨fun k => ?_, by rw [wares]; exact h.unknown, fun y a ha => ?_, fun d q hq e he => ?_, by rw [order]; exact h.apart,
    fun d => ?_, fun d q hq => ?_⟩
  · simp only [wares, racked, stocks]
    exact h.plates k
  · rw [cabinets] at ha
    simp only [held]
    split at ha
    · next same =>
      cases ha
      have before := h.cabinets z b cabinet
      exact ⟨Nat.zero_le _, before.fits, by simp [same], before.vacant⟩
    · next other =>
      simp only [if_neg other]
      exact h.cabinets y a ha
  · rw [course] at hq
    obtain ⟨r, hr, rfl⟩ := Option.map_eq_some_iff.mp hq
    obtain ⟨x, hx, kind⟩ := h.kinds d r hr e (List.mem_of_mem_filter he)
    have other : e.1 ≠ z := by simpa using (List.mem_filter.mp he).2
    exact ⟨x, by rw [cabinets, if_neg other]; exact hx, kind⟩
  · rw [order, h.live, course, Option.isSome_map]
  · rw [course] at hq
    obtain ⟨r, hr, rfl⟩ := Option.map_eq_some_iff.mp hq
    obtain ⟨kept, short⟩ := h.courses d r hr
    obtain ⟨entries, less, -⟩ := kept.entries.remove z
    refine ⟨⟨entries, (Nat.add_le_add_left less _).trans kept.within⟩, fun done => ?_⟩
    have unheld : r.entries.any (fun e => e.1 == z) = false := by
      by_contra any
      exact done (.inr (holdsEntry_iff.mpr ⟨r, hr, by simpa using any⟩))
    rw [Course.without_of_not_any unheld]
    exact short fun l => done (.inl l)

theorem Books.releaseCabinet (h : Books late s) (z : ZoneId) : Books late (releaseCabinet z s) := by
  unfold Machine.releaseCabinet
  split
  · next b cabinet =>
    dsimp only
    obtain ⟨slots, eq, each⟩ := removeEntries_eq z (s.courses.order.filter (holdsEntry s z)) s
    have still : (List.foldl (removeEntry z) s (s.courses.order.filter (holdsEntry s z))).cabinet? z = some b := by
      rw [eq]
      exact cabinet
    have removed : ∀ d, slots.get d = (s.course? d).map (Course.without z) := fun d => by
      rw [each]
      split
      · rfl
      · next out =>
        cases hd : s.course? d with
        | none => rfl
        | some r =>
          refine congrArg some (Course.without_of_not_any ?_).symm
          by_contra any
          refine out (List.mem_filter.mpr ⟨(h.live d).mpr (hd ▸ rfl), holdsEntry_iff.mpr ⟨r, hd, by simpa using any⟩⟩)
    have released : Books (fun d => late d ∨ holdsEntry s z d = true)
        ((List.foldl (removeEntry z) s (s.courses.order.filter (holdsEntry s z))).setCabinet z { b with reserved := 0 }) := by
      refine h.withoutEntries cabinet ?_ (fun k => inRacks_of_racks ?_ k) ?_ (fun y => ?_) fun d => ?_
      · simp [State.setCabinet, eq]
      · simp [State.setCabinet, eq]
      · simp [State.setCabinet, eq]
      · rw [setCabinet_cabinet? still, eq]
        rfl
      · rw [State.course?, State.setCabinet, State.changeZone_courses, eq]
        exact removed d
    have passes : ∀ (cs : List CourseId) (u : State), Books (fun d => late d ∨ d ∈ cs) u →
        Books late (cs.foldl (fun s c => Machine.runPass c none false s) u) := by
      intro cs
      induction cs with
      | nil => exact fun u hu => hu.mono fun d => by simp
      | cons c cs ih =>
        intro u hu
        refine ih _ ((hu.runPass c none false).mono fun d => ?_)
        rintro ⟨l | mem, other⟩
        · exact .inl l
        · exact .inr ((List.mem_cons.mp mem).resolve_left other)
    refine passes _ _ (Books.mono (released.same (sameStock_ops.report _ _ _)) fun d => ?_)
    rintro (l | holds)
    · exact .inl l
    · obtain ⟨r, hr, -⟩ := holdsEntry_iff.mp holds
      exact .inr (List.mem_filter.mpr ⟨(h.live d).mpr (hr ▸ rfl), holds⟩)
  · exact h

end

end Sys2Proof.Machine
end

section
/-! PROOF. Every command keeps the laws of plates, cabinets and courses (O58). -/

namespace Sys2Proof.Machine

/-! ### The rack queue's plates -/

/-- The plates of a kind in some racks. -/
def rackPlates (k : WareId) (l : List Rack) : Nat := ((l.filter fun r => r.kind == k).map (·.count)).sum

theorem inRacks_eq (s : State) (k : WareId) : inRacks s k = rackPlates k s.line.racks := rfl

theorem rackPlates_cons (k : WareId) (r : Rack) (l : List Rack) :
    rackPlates k (r :: l) = (if r.kind = k then r.count else 0) + rackPlates k l := by
  unfold rackPlates
  rw [List.filter_cons]
  by_cases h : r.kind = k
  · simp [h]
  · simp [h]

theorem rackPlates_append (k : WareId) (l l' : List Rack) : rackPlates k (l ++ l') = rackPlates k l + rackPlates k l' := by
  simp [rackPlates]

theorem rackPlates_map (k : WareId) {f : Rack → Rack} (kind : ∀ r, (f r).kind = r.kind) (count : ∀ r, (f r).count = r.count)
    (l : List Rack) : rackPlates k (l.map f) = rackPlates k l := by
  induction l with
  | nil => rfl
  | cons r l ih => rw [List.map_cons, rackPlates_cons, rackPlates_cons, ih, kind, count]

/-- A rack that moves on keeps its plates (R106, R107). -/
theorem rackPlates_advance (k : WareId) {st : Stage} {f : Rack → Rack} (kind : ∀ r, (f r).kind = r.kind)
    (count : ∀ r, (f r).count = r.count) {l l' : List Rack} (moved : advanceRack st f l = some l') :
    rackPlates k l' = rackPlates k l := by
  obtain ⟨before, r, after, rfl, -, -, rfl⟩ := advanceRack_eq_some.mp moved
  rw [rackPlates_append, rackPlates_append, rackPlates_cons, rackPlates_cons, kind, count]

theorem SameStock.of_racks {s : State} {l : DishLine} (h : ∀ k, rackPlates k l.racks = rackPlates k s.line.racks) :
    SameStock s { s with line := l } := ⟨rfl, h, rfl, fun _ => rfl⟩

theorem changeRacks_stock (st : Stage) {f : Rack → Rack} (kind : ∀ r, (f r).kind = r.kind) (count : ∀ r, (f r).count = r.count)
    (s : State) : SameStock s (changeRacks st f s) := by
  refine .of_racks fun k => rackPlates_map k (fun r => ?_) (fun r => ?_) s.line.racks
  · split
    · exact kind r
    · rfl
  · split
    · exact count r
    · rfl

theorem SameStock.ite {c : Prop} [Decidable c] {s t : State} (h : SameStock s t) : SameStock s (if c then t else s) := by
  split
  · exact h
  · exact .refl s

theorem zeroMinimums_stock (z : ZoneId) (s : State) : SameStock s (zeroMinimums z s) :=
  (SameStock.ite (changeRacks_stock .wash (f := fun r => { r with washMin := 0 }) (fun _ => rfl) (fun _ => rfl) s)).trans
    (SameStock.ite (changeRacks_stock .rinse (f := fun r => { r with rinseMin := some 0 }) (fun _ => rfl) (fun _ => rfl) _))

theorem lowerMinimums_stock (c : ChannelId) (v : Nat) (s : State) : SameStock s (lowerMinimums c v s) :=
  (SameStock.ite (changeRacks_stock .wash (f := fun r => { r with washMin := min r.washMin v }) (fun _ => rfl) (fun _ => rfl) s)).trans
    (SameStock.ite (changeRacks_stock .rinse (f := fun r => { r with rinseMin := r.rinseMin.map (min v) }) (fun _ => rfl)
      (fun _ => rfl) _))

/-! ### Zones -/

theorem ZoneEdit.cabinet {r r' : Zone} (e : ZoneEdit r r') : r'.cabinet = r.cabinet := by
  induction e with
  | tally => rfl
  | point => rfl
  | follow =>
    obtain ⟨_, _, same⟩ := Zone.setActive_eq _ _
    rw [same]
  | bounds => rfl
  | program => rfl
  | trans _ _ first second => exact second.trans first

theorem leaving_stock (z : ZoneId) (st : ZoneState) (s : State) : SameStock s (leaving z st s) :=
  ((moveZone_stock z st s).trans (zeroMinimums_stock z _)).trans (.of_within (cutLoads_touches _ _).within (by simp))

section
variable {late : CourseId → Prop} {s t : State}

/-- A cabinet without plates gives way to another one without plates, or to none. -/
theorem Books.replace (h : Books late s) {n : ZoneId} {o : Option Cabinet} (empty : ∀ c, s.cabinet? n = some c → c.stock = 0)
    (cabinets : ∀ y, t.cabinet? y = if y = n then o else s.cabinet? y) (new : ∀ c, o = some c → c.stock = 0 ∧ c.Kept 0)
    (wares : t.wares = s.wares) (racked : ∀ k, inRacks t k = inRacks s k) (courses : t.courses = s.courses) : Books late t := by
  have course : ∀ c, t.course? c = s.course? c := fun c => by rw [State.course?, courses]; rfl
  have nothing : ∀ k o, (∀ c, o = some c → c.stock = 0) → stockOf k o = 0 := fun k o none => by
    cases o with
    | none => rfl
    | some c => rw [stockOf_some, none c rfl, ite_self]
  have apart : ∀ c r, s.course? c = some r → ∀ e ∈ r.entries, e.1 ≠ n := fun c r live e he same => by
    obtain ⟨b, hb, -⟩ := h.kinds c r live e he
    rw [same] at hb
    have kept := h.cabinets n b hb
    have held := (le_heldIn he).trans (live ▸ heldBy_le s c e.1 : heldBy e.1 (some r) ≤ _)
    have := (h.courses c r live).1.entries.some e he
    have := kept.covered
    rw [empty b hb, kept.held, ← same] at this
    omega
  have stocks : ∀ k y, stockOf k (t.cabinet? y) = stockOf k (s.cabinet? y) := fun k y => by
    rw [cabinets]
    split
    · next same => rw [same, nothing k _ empty, nothing k o fun c hc => (new c hc).1]
    · rfl
  refine ⟨fun k => ?_, by rw [wares]; exact h.unknown, fun y a ha => ?_, fun c r live e he => ?_, by rw [courses]; exact h.apart,
    fun c => by rw [courses, course]; exact h.live c, fun c => by rw [course]; exact h.courses c⟩
  · simp only [wares, racked, stocks]
    exact h.plates k
  · simp only [course]
    rw [cabinets] at ha
    split at ha
    · next same =>
      have none : ∑ d, heldBy y (s.course? d) = 0 := by
        refine Finset.sum_eq_zero fun d _ => ?_
        cases hd : s.course? d with
        | none => rfl
        | some r =>
          refine heldIn_of_not_mem fun mem => ?_
          obtain ⟨e, he, at_⟩ := List.mem_map.mp mem
          exact apart d r hd e he (at_.trans same)
      rw [none]
      exact (new a ha).2
    · exact h.cabinets y a ha
  · rw [course] at live
    obtain ⟨b, hb, kind⟩ := h.kinds c r live e he
    exact ⟨b, by rw [cabinets, if_neg (apart c r live e he)]; exact hb, kind⟩

/-- A zone that comes to be a WARMER has a new cabinet, and one that ceases to be one had no plate in it (R61, R124). -/
theorem Books.define (h : Books late s) {n : ZoneId} {kind : ZoneKind} {channel : ChannelId} {loads : List LoadId} {group : PageGroup}
    {p : PortId} {v : ZoneSettings} (free : defineConflict s n kind loads = none) :
    Books late (rebind n loads (s.setZone n (definedZone p v kind channel loads group (s.zones.get n)))) := by
  obtain ⟨-, vacant, -⟩ := free_of_defineConflict free
  have cabinets : ∀ y, (rebind n loads (s.setZone n (definedZone p v kind channel loads group (s.zones.get n)))).cabinet? y =
      if y = n then (if kind = .warmer then cabinetAfter (s.zones.get n) kind else none) else s.cabinet? y := fun y => by
    change (s.setZone n (definedZone p v kind channel loads group (s.zones.get n))).cabinet? y = _
    rw [State.cabinet?, State.setZone_zones, Table.get_set]
    by_cases same : y = n
    · rw [if_pos same, if_pos same]
      rfl
    · rw [if_neg same, if_neg same]
      rfl
  by_cases warmer : kind = .warmer
  · subst warmer
    simp only [if_true, cabinetAfter] at cabinets
    have fresh : (∀ r, s.zones.get n = some r → r.kind ≠ .warmer) → ∀ c, s.cabinet? n = some c → c.stock = 0 := fun other c hc => by
      obtain ⟨r, zone, kind, -⟩ := cabinet?_eq_some.mp hc
      exact (other r zone kind).elim
    have empty : ∀ c, some Cabinet.fresh = some c → c.stock = 0 ∧ c.Kept 0 := fun c hc => by
      cases hc
      exact ⟨rfl, le_rfl, le_rfl, rfl, fun _ => rfl⟩
    split at cabinets
    · next r zone =>
      split at cabinets
      · next kind =>
        refine h.same ⟨rfl, fun _ => rfl, rfl, fun y => ?_⟩
        rw [cabinets]
        split
        · next same =>
          rw [same, State.cabinet?, zone]
          exact (if_pos kind).symm
        · rfl
      · next kind =>
        exact h.replace (fresh fun q hq => by cases zone.symm.trans hq; exact kind) cabinets empty rfl (fun _ => rfl) rfl
    · next undefined =>
      exact h.replace (fresh fun q hq => by cases undefined.symm.trans hq) cabinets empty rfl (fun _ => rfl) rfl
  · rw [if_neg warmer] at cabinets
    exact h.replace (fun c hc => vacant c hc warmer) cabinets nofun rfl (fun _ => rfl) rfl

theorem books_served : ServedOps fun s t => Books late s → Books late t where
  refl _ := id
  trans h k := k ∘ h
  post _ _ _ _ h := h.same (sameStock_ops.post _ _ _ _)
  raise _ _ _ _ h := h.same (sameStock_ops.raise _ _ _ _)
  clear _ _ _ h := h.same (sameStock_ops.clear _ _ _)
  opened _ _ _ free here h := h.same (sameStock_ops.opened _ _ _ free here)
  closed _ _ h := h.same (sameStock_ops.closed _ _)
  woken _ _ h := h.same (sameStock_ops.woken _ _)
  refresh _ _ h := h.same (refreshStandby_stock _ _)
  wake _ _ _ h := h.same (moveZone_stock _ _ _)
  rerunCourses z _ h := h.rerunCourses z
  releaseCabinet z _ h := h.releaseCabinet z
  move _ _ _ _ _ _ _ _ h := h.same (moveZone_stock _ _ _)
  leave _ _ _ _ _ _ _ h := h.same (leaving_stock _ _ _)
  edit _ _ r' _ zone e h := h.same (.of_record (r' := r') zone e.kind e.cabinet rfl rfl rfl fun _ => rfl)
  define _ _ _ _ _ _ _ _ _ free h := h.define free
  scan _ _ h := h.same ⟨rfl, fun _ => rfl, rfl, fun _ => rfl⟩
  lower _ _ _ h := h.same (lowerMinimums_stock _ _ _)
  port _ _ _ h := h.same ⟨rfl, fun _ => rfl, rfl, fun _ => rfl⟩

/-! ### Wares and racks -/

/-- Plates that go from one place to another, or are bought or removed, with the cabinets and courses as they are. -/
theorem Books.of_wares (h : Books late s) (cabinets : ∀ z, t.cabinet? z = s.cabinet? z) (courses : t.courses = s.courses)
    (unknown : ∀ k, (t.wares.get k).defined = false → (t.wares.get k).total = 0)
    (plates : ∀ k x, (s.wares.get k).total = (s.wares.get k).soiled + inRacks s k + (s.wares.get k).clean + x + (s.wares.get k).out →
      (t.wares.get k).total = (t.wares.get k).soiled + inRacks t k + (t.wares.get k).clean + x + (t.wares.get k).out) : Books late t := by
  have course : ∀ c, t.course? c = s.course? c := fun c => by rw [State.course?, courses]; rfl
  exact ⟨fun k => by simp only [cabinets]; exact plates k _ (h.plates k), unknown,
    fun z => by simp only [cabinets, course]; exact h.cabinets z, fun c => by simp only [cabinets, course]; exact h.kinds c,
    by rw [courses]; exact h.apart, fun c => by rw [courses, course]; exact h.live c, fun c => by rw [course]; exact h.courses c⟩

/-- One kind's record changed, with the racks that take plates from it or give plates to it. -/
theorem Books.setWare (h : Books late s) {w : WareId} {v : Ware} (wares : t.wares = s.wares.set w v)
    (cabinets : ∀ z, t.cabinet? z = s.cabinet? z) (courses : t.courses = s.courses)
    (unknown : v.defined = false → v.total = 0) (others : ∀ k, k ≠ w → inRacks t k = inRacks s k)
    (plates : ∀ x, (s.wares.get w).total = (s.wares.get w).soiled + inRacks s w + (s.wares.get w).clean + x + (s.wares.get w).out →
      v.total = v.soiled + inRacks t w + v.clean + x + v.out) : Books late t := by
  refine h.of_wares cabinets courses (fun k => ?_) fun k x => ?_
  · rw [wares, Table.get_set]
    split
    · exact unknown
    · exact h.unknown k
  · rw [wares, Table.get_set]
    split
    · next same => rw [same]; exact plates x
    · next other => rw [others k other]; exact id

/-- A rack leaves the queue for SOILED (R108, R111). -/
theorem Books.condemn (h : Books late s) {r : Rack} {rest : List Rack} (racks : s.line.racks = r :: rest)
    (same : SameStock (dropHead s) t) : Books late (condemn r t) := by
  have wares : t.wares = s.wares := same.wares
  have soiled : Books late (t.setWare r.kind { t.wares.get r.kind with soiled := (t.wares.get r.kind).soiled + r.count }) := by
    have racked : ∀ k, inRacks s k = (if r.kind = k then r.count else 0) + inRacks t k := fun k => by
      rw [same.racked, inRacks_eq, racks, rackPlates_cons, inRacks_eq, dropHead, racks]
      rfl
    refine h.setWare (w := r.kind) (v := { s.wares.get r.kind with soiled := (s.wares.get r.kind).soiled + r.count })
      (by rw [State.setWare_wares, wares]) same.cabinets same.courses (h.unknown r.kind) (fun k other => ?_) fun x eq => ?_
    · change inRacks t k = inRacks s k
      rw [racked, if_neg other.symm, Nat.zero_add]
    · change _ = _ + inRacks t r.kind + _ + x + _
      rw [racked, if_pos rfl] at eq
      dsimp only
      omega
  exact soiled.same (sameStock_ops.raise _ _ _ _)

end

end Sys2Proof.Machine
end

section
/-! PROOF. The commands on plates, cabinets and courses keep the books (R119 to R145), and with them every step (O58). -/

namespace Sys2Proof.Machine

/-- R126 and R119: what a draw of one reserved plate does. -/
theorem drawPlate_eq {z : ZoneId} {b : Cabinet} {k : WareId} {s : State} (cabinet : s.cabinet? z = some b) (kind : b.kind = some k) :
    drawPlate z s = testRestock z (report z false ((s.setCabinet z
      { b with stock := b.stock - 1, reserved := b.reserved - 1 }).setWare k { s.wares.get k with out := (s.wares.get k).out + 1 })) := by
  have wares : ∀ c, (s.setCabinet z c).wares = s.wares := fun c => State.changeZone_wares _ _ _
  unfold drawPlate
  rw [cabinet]
  dsimp only
  split
  · next j same =>
    cases kind.symm.trans same
    rw [wares]
  · next none => cases kind.symm.trans none

section
variable {late : CourseId → Prop} {s t : State}

/-! ### Cabinets and wares -/

/-- Plates of a kind moved between its places outside racks and cabinets, bought or removed (R121, R122). -/
theorem Books.rebalance (h : Books late s) {w : WareId} {v : Ware} (unknown : v.defined = false → v.total = 0)
    (plates : ∀ x y, (s.wares.get w).total = (s.wares.get w).soiled + x + (s.wares.get w).clean + y + (s.wares.get w).out →
      v.total = v.soiled + x + v.clean + y + v.out) : Books late (s.setWare w v) :=
  h.setWare rfl (fun _ => rfl) rfl unknown (fun _ _ => rfl) fun y => plates _ y

/-- The stock of one cabinet and the record of its kind change, with the kind's sum as it was or by its total (R121, R131). -/
theorem Books.stock (h : Books late s) {z : ZoneId} {w : WareId} {c c' : Cabinet} {v : Ware} (cabinet : s.cabinet? z = some c)
    (kind : c.kind = some w) (wares : t.wares = s.wares.set w v) (cabinets : ∀ y, t.cabinet? y = if y = z then some c' else s.cabinet? y)
    (courses : t.courses = s.courses) (racks : t.line.racks = s.line.racks) (same : c'.kind = c.kind)
    (capacity : c'.capacity = c.capacity) (reserved : c'.reserved = c.reserved) (covered : c.reserved ≤ c'.stock)
    (fits : c'.stock ≤ c.capacity) (unknown : v.defined = false → v.total = 0)
    (plates : ∀ x, (s.wares.get w).total = (s.wares.get w).soiled + inRacks s w + (s.wares.get w).clean + (x + c.stock) +
      (s.wares.get w).out → v.total = v.soiled + inRacks s w + v.clean + (x + c'.stock) + v.out) : Books late t := by
  have course : ∀ d, t.course? d = s.course? d := fun d => by rw [State.course?, courses]; rfl
  have own : t.cabinet? z = some c' := by rw [cabinets, if_pos rfl]
  have stocks := sum_stockOf_of_differ (s := s) (t := t) z fun y hy => by rw [cabinets y, if_neg hy]
  refine ⟨fun k => ?_, fun k => ?_, fun y a ha => ?_, fun d r live e he => ?_, by rw [courses]; exact h.apart,
    fun d => by rw [courses, course]; exact h.live d, fun d => by rw [course]; exact h.courses d⟩
  · have change := stocks k
    rw [own, cabinet, stockOf_some, stockOf_some, same, kind] at change
    rw [wares, Table.get_set, inRacks_of_racks racks]
    split
    · next here =>
      subst here
      rw [if_pos rfl, if_pos rfl] at change
      have held : c.stock ≤ ∑ y, stockOf k (s.cabinet? y) := by
        have le := Finset.single_le_sum (f := fun y => stockOf k (s.cabinet? y)) (fun _ _ => Nat.zero_le _) (Finset.mem_univ z)
        rw [cabinet, stockOf_some, if_pos kind] at le
        exact le
      have before := h.plates k
      have after := plates (∑ y, stockOf k (s.cabinet? y) - c.stock) (by rw [Nat.sub_add_cancel held]; exact before)
      rw [after]
      omega
    · next other =>
      have apart : ¬ some w = some k := fun e => other (Option.some.inj e).symm
      rw [if_neg apart, if_neg apart] at change
      rw [h.plates k]
      omega
  · rw [wares, Table.get_set]
    split
    · exact unknown
    · exact h.unknown k
  · simp only [course]
    rw [cabinets] at ha
    split at ha
    · next here =>
      cases ha
      have before := h.cabinets z c cabinet
      rw [here]
      exact ⟨by rw [reserved]; exact covered, by rw [capacity]; exact fits, by rw [reserved]; exact before.held,
        by rw [same, capacity]; exact before.vacant⟩
    · exact h.cabinets y a ha
  · rw [course] at live
    obtain ⟨b, hb, hk⟩ := h.kinds d r live e he
    rw [cabinets]
    split
    · next here =>
      rw [here, cabinet] at hb
      cases hb
      exact ⟨c', rfl, same.trans hk⟩
    · exact ⟨b, hb, hk⟩

theorem Books.confirmRestock (h : Books late s) {z : ZoneId} {w : WareId} {c : Cabinet} {m : Nat} (cabinet : s.cabinet? z = some c)
    (kind : c.kind = some w) (clean : m ≤ (s.wares.get w).clean) (room : m ≤ c.capacity - c.stock) :
    Books late (confirmRestock z w c m s) := by
  have before := h.cabinets z c cabinet
  have moved : Books late ((s.setWare w { s.wares.get w with clean := (s.wares.get w).clean - m }).setCabinet z
      { c with stock := c.stock + m }) := by
    refine h.stock (c' := { c with stock := c.stock + m }) (v := { s.wares.get w with clean := (s.wares.get w).clean - m }) cabinet kind
      (by simp [State.setCabinet]) (setCabinet_cabinet? cabinet) (by simp [State.setCabinet]) (by simp [State.setCabinet]) rfl rfl rfl
      (before.covered.trans (Nat.le_add_right _ _)) ?_ (h.unknown w) fun x eq => ?_
    · have := before.fits
      dsimp only
      omega
    · dsimp only
      omega
  exact ((moved.same (sameStock_ops.trans (sameStock_ops.closeTask _ _ _) (sameStock_ops.report _ _ _))).rerunCourses z).same
    (sameStock_ops.testRestock _ _)

theorem Books.removal (h : Books late s) {w : WareId} {n : Nat} (l : Location) (holds : holdsKind s w l = true)
    (few : n ≤ canGive s w l) (known : (s.wares.get w).defined = true) : Books late (removal w n s l) := by
  have never : ∀ {x : Nat}, (s.wares.get w).defined = false → x = 0 := fun unknown => Bool.noConfusion (known.symm.trans unknown)
  cases l with
  | soiled =>
    change n ≤ (s.wares.get w).soiled at few
    exact h.rebalance never fun x y eq => by dsimp only; omega
  | clean =>
    change n ≤ (s.wares.get w).clean at few
    exact h.rebalance never fun x y eq => by dsimp only; omega
  | out =>
    change n ≤ (s.wares.get w).out at few
    exact h.rebalance never fun x y eq => by dsimp only; omega
  | cabinet z =>
    unfold Machine.removal
    dsimp only
    split
    · next c cabinet =>
      have kind : c.kind = some w := by simpa [holdsKind, cabinet] using holds
      have few : n ≤ c.stock - c.reserved := by simpa [canGive, cabinet, Cabinet.available] using few
      have before := h.cabinets z c cabinet
      have covered := before.covered
      have fits := before.fits
      have removed : Books late ((s.setWare w { s.wares.get w with total := (s.wares.get w).total - n }).setCabinet z
          { c with stock := c.stock - n }) := by
        refine h.stock (c' := { c with stock := c.stock - n }) (v := { s.wares.get w with total := (s.wares.get w).total - n }) cabinet
          kind (by simp [State.setCabinet]) (setCabinet_cabinet? cabinet) (by simp [State.setCabinet]) (by simp [State.setCabinet]) rfl
          rfl rfl ?_ ?_ never fun x eq => ?_
        · dsimp only
          omega
        · dsimp only
          omega
        · dsimp only
          omega
      exact removed.same (sameStock_ops.trans (sameStock_ops.report _ _ _) (sameStock_ops.testRestock _ _))
    · exact h

theorem Books.purchase (h : Books late s) {w : WareId} (n : Nat) (l : Location) (known : (s.wares.get w).defined = true) :
    Books late (purchase w n s l) := by
  have never : ∀ {x : Nat}, (s.wares.get w).defined = false → x = 0 := fun unknown => Bool.noConfusion (known.symm.trans unknown)
  cases l with
  | soiled =>
    exact h.rebalance never fun x y eq => by dsimp only; omega
  | clean =>
    have raised : Books late (s.setWare w
        { s.wares.get w with total := (s.wares.get w).total + n, clean := (s.wares.get w).clean + n }) :=
      h.rebalance never fun x y eq => by dsimp only; omega
    exact raised.same (sameStock_ops.wakeTasks _ _)
  | out => exact h
  | cabinet z => exact h

theorem Books.cabinetSet (h : Books late s) {z : ZoneId} {c : Cabinet} {w : WareId} {capacity low high : Nat}
    (cabinet : s.cabinet? z = some c) (kind : c.stock ≠ 0 → c.kind = some w) (room : c.stock ≤ capacity) :
    Books late (s.setCabinet z { c with kind := some w, capacity := capacity, low := low, high := high }) := by
  have before := h.cabinets z c cabinet
  have cabinets := setCabinet_cabinet? (d := { c with kind := some w, capacity := capacity, low := low, high := high }) cabinet
  have sides : (s.setCabinet z { c with kind := some w, capacity := capacity, low := low, high := high }).wares = s.wares ∧
      (s.setCabinet z { c with kind := some w, capacity := capacity, low := low, high := high }).courses = s.courses ∧
      ∀ k, inRacks (s.setCabinet z { c with kind := some w, capacity := capacity, low := low, high := high }) k = inRacks s k :=
    ⟨State.changeZone_wares _ _ _, State.changeZone_courses _ _ _, inRacks_of_racks (by simp [State.setCabinet])⟩
  generalize s.setCabinet z { c with kind := some w, capacity := capacity, low := low, high := high } = t at cabinets sides ⊢
  obtain ⟨wares, courses, racked⟩ := sides
  by_cases empty : c.stock = 0
  · have covered := before.covered
    refine h.replace (fun d hd => by cases cabinet.symm.trans hd; exact empty) cabinets (fun d hd => ?_) wares racked courses
    cases hd
    exact ⟨empty, covered, room, by dsimp only; omega, nofun⟩
  · have same := kind empty
    have course : ∀ d, t.course? d = s.course? d := fun d => by rw [State.course?, courses]; rfl
    have stocks : ∀ k y, stockOf k (t.cabinet? y) = stockOf k (s.cabinet? y) := fun k y => by
      rw [cabinets]
      split
      · next here => rw [here, cabinet, stockOf_some, stockOf_some, same]
      · rfl
    refine ⟨fun k => by simp only [wares, racked, stocks]; exact h.plates k, by rw [wares]; exact h.unknown, fun y a ha => ?_,
      fun d r live e he => ?_, by rw [courses]; exact h.apart, fun d => by rw [courses, course]; exact h.live d,
      fun d => by rw [course]; exact h.courses d⟩
    · simp only [course]
      rw [cabinets] at ha
      split at ha
      · next here =>
        cases ha
        rw [here]
        exact ⟨before.covered, room, before.held, nofun⟩
      · exact h.cabinets y a ha
    · rw [course] at live
      obtain ⟨b, hb, hk⟩ := h.kinds d r live e he
      rw [cabinets]
      split
      · next here =>
        rw [here, cabinet] at hb
        cases hb
        exact ⟨_, rfl, same.symm.trans hk⟩
      · exact ⟨b, hb, hk⟩

/-! ### Racks -/

theorem Books.unloadRack (h : Books late s) : Books late (unloadRack s) := by
  have fault : ∀ f u, SameStock u (lineFault f u) := fun _ _ => ⟨rfl, fun _ => rfl, rfl, fun _ => rfl⟩
  unfold Machine.unloadRack
  split
  · exact h.same (fault _ _)
  next r rest racks =>
  dsimp only
  split
  · exact h.condemn racks (fault _ _)
  · exact h.condemn racks (fault _ _)
  split
  · refine Books.same ?_ (sameStock_ops.wakeTasks _ _)
    have racked : ∀ k, inRacks s k = (if r.kind = k then r.count else 0) + inRacks (dropHead s) k := fun k => by
      rw [inRacks_eq, racks, rackPlates_cons, inRacks_eq, dropHead, racks]
      rfl
    refine h.setWare (w := r.kind) rfl (fun _ => rfl) rfl (h.unknown r.kind) (fun k other => ?_) fun x eq => ?_
    · rw [racked k, if_neg other.symm, Nat.zero_add]
      rfl
    · rw [racked r.kind, if_pos rfl] at eq
      change (s.wares.get r.kind).total = (s.wares.get r.kind).soiled + inRacks (dropHead s) r.kind +
        ((s.wares.get r.kind).clean + r.count) + x + (s.wares.get r.kind).out
      omega
  · exact h.condemn racks (.refl _)
  · exact h.condemn racks (.refl _)

theorem Books.linePurge (h : Books late s) : Books late (linePurge s).state := by
  have all : ∀ (rs : List Rack) (u : State), u.line.racks = rs → Books late u →
      Books late (rs.foldl (fun s r => Machine.condemn r (dropHead s)) u) := by
    intro rs
    induction rs with
    | nil => exact fun u _ hu => hu
    | cons r rs ih =>
      intro u racks hu
      refine ih _ ?_ (hu.condemn racks (.refl _))
      have dropped : (dropHead u).line.racks = rs := by rw [dropHead, racks]; rfl
      have kept : (Machine.condemn r (dropHead u)).line.racks = (dropHead u).line.racks :=
        (raise_touches .rackRewash _ r.tag _).within.same .racks (by simp)
      exact kept.trans dropped
  exact all s.line.racks s rfl h

theorem Books.rackLoad (h : Books late s) {tag kind count : Nat} : Books late (rackLoad tag kind count s).state := by
  refine rackLoad_cases (motive := fun a => Books late a.state) (fun _ => h) fun k x _ known _ _ _ => ?_
  dsimp only
  rw [acceptClamped_state]
  refine h.setWare (w := k) rfl (fun _ => rfl) rfl (h.unknown k) (fun j other => ?_) fun x eq => ?_
  · rw [inRacks_eq, rackPlates_append, rackPlates_cons, if_neg other.symm]
    rfl
  · rw [inRacks_eq, rackPlates_append, rackPlates_cons, if_pos rfl]
    have few := min_le_right count (s.wares.get k).soiled
    rw [inRacks_eq] at eq
    change _ = _ + (rackPlates k s.line.racks + (min count (s.wares.get k).soiled + 0)) + _ + x + _
    dsimp only
    omega

/-! ### Courses -/

/-- A course takes a FREE slot and the tail of the fire order (R137, R138). -/
theorem Books.seated (h : Books late s) {c : CourseId} {r : Course} (free : s.course? c = none) (entries : r.entries = [])
    (plated : r.plated = 0) : Books (fun d => late d ∨ d = c) (seatCourse c r s) := by
  have course : ∀ d, (seatCourse c r s).course? d = if d = c then some r else s.course? d := setCourse_course? s c (v := some r)
  have held : ∀ z d, heldBy z ((seatCourse c r s).course? d) = heldBy z (s.course? d) := fun z d => by
    rw [course]
    split
    · next same => rw [same, free, heldBy_some, entries]; rfl
    · rfl
  have order : (seatCourse c r s).courses.order = s.courses.order ++ [c] := rfl
  have out : c ∉ s.courses.order := fun mem => by
    rw [h.live, free] at mem
    cases mem
  refine ⟨h.plates, h.unknown, fun z b hb => ?_, fun d q hq e he => ?_, ?_, fun d => ?_, fun d q hq => ?_⟩
  · simp only [held]
    exact h.cabinets z b hb
  · rw [course] at hq
    split at hq
    · cases hq
      rw [entries] at he
      cases he
    · exact h.kinds d q hq e he
  · rw [order, List.nodup_append]
    refine ⟨h.apart, List.nodup_singleton _, fun a ha b hb same => out ?_⟩
    rw [← List.mem_singleton.mp hb, ← same]
    exact ha
  · rw [order, List.mem_append, List.mem_singleton, h.live, course]
    split
    · next same => simp [same]
    · next other => simp [other]
  · rw [course] at hq
    split at hq
    · next same =>
      cases hq
      refine ⟨⟨?_, ?_⟩, fun done => (done (.inr same)).elim⟩
      · rw [entries]
        exact ⟨Nat.zero_le _, List.nodup_nil, nofun⟩
      · rw [entries, plated]
        exact Nat.zero_le _
    · obtain ⟨kept, short⟩ := h.courses d q hq
      exact ⟨kept, fun done => short fun l => done (.inl l)⟩

/-- A course leaves with its slot FREE, what it had reserved being given up (R137, R144). -/
theorem Books.freed (h : Books late s) {c : CourseId} {r : Course} (live : s.course? c = some r) (wares : t.wares = s.wares)
    (racked : ∀ k, inRacks t k = inRacks s k) (order : t.courses.order = s.courses.order.filter (· ≠ c))
    (cabinets : ∀ z, t.cabinet? z = (s.cabinet? z).map fun b => { b with reserved := b.reserved - heldIn r.entries z })
    (course : ∀ d, t.course? d = if d = c then none else s.course? d) : Books late t := by
  have held := sum_heldBy_of_differ (s := s) (t := t) c fun d hd => by rw [course d, if_neg hd]
  have stocks : ∀ k z, stockOf k (t.cabinet? z) = stockOf k (s.cabinet? z) := fun k z => by
    rw [cabinets]
    cases s.cabinet? z with
    | none => rfl
    | some b => rfl
  refine ⟨fun k => by simp only [wares, racked, stocks]; exact h.plates k, by rw [wares]; exact h.unknown, fun z a ha => ?_,
    fun d q hq e he => ?_, by rw [order]; exact h.apart.filter _, fun d => ?_, fun d q hq => ?_⟩
  · rw [cabinets] at ha
    obtain ⟨b, hb, rfl⟩ := Option.map_eq_some_iff.mp ha
    have before := h.cabinets z b hb
    have change := held z
    rw [course c, if_pos rfl, live, heldBy_some] at change
    refine ⟨(Nat.sub_le _ _).trans before.covered, before.fits, ?_, before.vacant⟩
    have := before.held
    change _ = _ + 0 at change
    dsimp only
    omega
  · rw [course] at hq
    split at hq
    · cases hq
    · obtain ⟨b, hb, kind⟩ := h.kinds d q hq e he
      refine ⟨{ b with reserved := b.reserved - heldIn r.entries e.1 }, ?_, kind⟩
      rw [cabinets, hb, Option.map_some]
  · rw [order, List.mem_filter, h.live, course]
    by_cases same : d = c
    · simp [same]
    · simp [same]
  · rw [course] at hq
    split at hq
    · cases hq
    · exact h.courses d q hq

/-- What a plate drawn does to its course (R142). -/
theorem Books.plateOne (h : Books late s) {c : CourseId} {r : Course} (live : s.course? c = some r) (apart : late c)
    (some_ : 1 ≤ heldAll r.entries) : Books late (plateOne c s) ∧
      (plateOne c s).course? c = some { r with entries := takeFromHead r.entries } := by
  obtain ⟨e, es, entries⟩ : ∃ e es, r.entries = e :: es := by
    cases he : r.entries with
    | nil => rw [he] at some_; cases some_
    | cons e es => exact ⟨e, es, rfl⟩
  have kept := (h.courses c r live).1
  have mem : e ∈ r.entries := entries ▸ List.mem_cons_self
  obtain ⟨b, cabinet, kind⟩ := h.kinds c r live e mem
  have before := h.cabinets e.1 b cabinet
  have held := (le_heldIn mem).trans (live ▸ heldBy_le s c e.1 : heldBy e.1 (some r) ≤ _)
  have one := kept.entries.some e mem
  have reserved := before.held
  have covered := before.covered
  obtain ⟨taken, all, each, onto⟩ := (entries ▸ kept.entries).take
  rw [← entries] at taken all each onto
  have here := setCourse_course? s c (v := some { r with entries := takeFromHead r.entries })
  have eq : Machine.plateOne c s = testRestock e.1 (report e.1 false (((s.setCourse c (some { r with
      entries := takeFromHead r.entries })).setCabinet e.1 { b with stock := b.stock - 1, reserved := b.reserved - 1 }).setWare r.kind
        { s.wares.get r.kind with out := (s.wares.get r.kind).out + 1 })) := by
    have still : (s.setCourse c (some { r with entries := takeFromHead r.entries })).cabinet? e.1 = some b := cabinet
    rw [Machine.plateOne, live, Option.bind_some, entries, List.head?_cons]
    dsimp only
    rw [changeCourse, live]
    dsimp only
    rw [← entries, drawPlate_eq still kind, State.setCourse_wares]
  have after := sameStock_ops.trans (sameStock_ops.report e.1 false _) (sameStock_ops.testRestock e.1 _) (s :=
    (((s.setCourse c (some { r with entries := takeFromHead r.entries })).setCabinet e.1
      { b with stock := b.stock - 1, reserved := b.reserved - 1 }).setWare r.kind
        { s.wares.get r.kind with out := (s.wares.get r.kind).out + 1 }))
  rw [eq]
  refine ⟨Books.same ?_ after, ?_⟩
  · refine h.exchange (n := 1) (b' := { b with stock := b.stock - 1, reserved := b.reserved - 1 })
      (r' := { r with entries := takeFromHead r.entries }) live cabinet apart (inRacks_of_racks (by simp [State.setCabinet]))
      (by simp [State.setCabinet]) (fun k => ?_) (setCabinet_cabinet? (s := s.setCourse c _) cabinet) (fun d => ?_) kind rfl rfl rfl ?_ ?_ ?_
      (fun y other => ?_) (fun d hd => .inr (onto d hd)) ⟨taken, ?_⟩
    · rw [State.setWare_wares, State.setCabinet, State.changeZone_wares, State.setCourse_wares, Table.get_set]
      split
      · next same => rw [same, if_pos kind]
      · next other =>
        rw [if_neg fun same => other (Option.some.inj (kind.symm.trans same)).symm]
        rfl
    · rw [← here d]
      simp [State.course?, State.setCabinet]
    · dsimp only
      omega
    · dsimp only
      omega
    · have drawn := each e.1
      rw [if_pos rfl] at drawn
      dsimp only
      omega
    · have drawn := each y
      rw [if_neg other] at drawn
      exact drawn
    · have within := kept.within
      dsimp only
      omega
  · rw [State.course?, after.courses, State.setWare_courses, State.setCabinet, State.changeZone_courses]
    exact Table.get_set_same _ _ _

end

end Sys2Proof.Machine
end

section
/-! PROOF. The commands of the Course Table keep the books, and with them every step keeps the laws of plates, cabinets and courses
(O58). -/

namespace Sys2Proof.Machine

/-- The entries that are left when a number of plates is drawn one after another (R142). -/
def drawnOf : Nat → List (ZoneId × Nat) → List (ZoneId × Nat)
  | 0, es => es
  | n + 1, es => drawnOf n (takeFromHead es)

theorem heldAll_takeFromHead {es : List (ZoneId × Nat)} (h : Entries es) (some_ : 1 ≤ heldAll es) :
    Entries (takeFromHead es) ∧ heldAll (takeFromHead es) + 1 = heldAll es := by
  cases es with
  | nil => cases some_
  | cons e es => exact ⟨h.take.1, h.take.2.1⟩

theorem heldAll_drawnOf {n : Nat} {es : List (ZoneId × Nat)} (h : Entries es) (few : n ≤ heldAll es) :
    Entries (drawnOf n es) ∧ heldAll (drawnOf n es) + n = heldAll es := by
  induction n generalizing es with
  | zero => exact ⟨h, rfl⟩
  | succ n ih =>
    obtain ⟨taken, one⟩ := heldAll_takeFromHead h (by omega)
    obtain ⟨rest, all⟩ := ih taken (by omega)
    refine ⟨rest, ?_⟩
    rw [drawnOf]
    omega

theorem Entries.eq_nil {es : List (ZoneId × Nat)} (h : Entries es) (none : heldAll es = 0) : es = [] := by
  cases es with
  | nil => rfl
  | cons e es =>
    rw [heldAll_cons] at none
    have := h.some e List.mem_cons_self
    omega

section
variable {late : CourseId → Prop} {s t : State}

/-- What a number of plates drawn does to its course (R142). -/
theorem Books.platePlates {c : CourseId} {n : Nat} {r : Course} (h : Books late s) (live : s.course? c = some r) (apart : late c)
    (few : n ≤ heldAll r.entries) : Books late (platePlates c n s) ∧
      (platePlates c n s).course? c = some { r with entries := drawnOf n r.entries } := by
  induction n generalizing s r with
  | zero => exact ⟨h, live⟩
  | succ n ih =>
    obtain ⟨plated, course⟩ := h.plateOne live apart (by omega)
    have one := (heldAll_takeFromHead (h.courses c r live).1.entries (by omega)).2
    exact ih plated course (by dsimp only; omega)

theorem Books.coursePlated (h : Books (fun _ => False) s) {course number : Nat} :
    Books (fun _ => False) (coursePlated course number s).state := by
  refine coursePlated_cases (motive := fun a => Books (fun _ => False) a.state) (fun _ => h) fun c r x live => ?_
  dsimp only
  rw [acceptClamped_state]
  have few : min number r.totalReserved ≤ heldAll r.entries := min_le_right _ _
  obtain ⟨kept, short⟩ := h.courses c r live
  obtain ⟨drawn, here⟩ := (h.mono (other := (· = c)) fun d l => l.elim).platePlates live rfl few
  generalize min number r.totalReserved = n at few drawn here ⊢
  obtain ⟨left, all⟩ := heldAll_drawnOf kept.entries few
  have within := kept.within
  have plated : Books (fun _ => False) (changeCourse c (fun q => { q with plated := r.plated + n }) (Machine.platePlates c n s)) := by
    rw [changeCourse, here]
    refine Books.mono (drawn.mark (r' := { r with entries := drawnOf n r.entries, plated := r.plated + n }) here rfl rfl
      ⟨left, ?_⟩ ?_) fun d l => l.2 l.1
    · dsimp only
      omega
    · have need : Course.need { r with entries := drawnOf n r.entries, plated := r.plated + n } = r.need := by
        rw [Course.need, Course.need, heldAll_eq, heldAll_eq]
        dsimp only
        omega
      rw [need]
      exact short id
  have now : (changeCourse c (fun q => { q with plated := r.plated + n }) (Machine.platePlates c n s)).course? c =
      some { r with entries := drawnOf n r.entries, plated := r.plated + n } := by
    rw [changeCourse, here]
    exact (setCourse_course? _ _ _ _).trans (if_pos rfl)
  generalize changeCourse c (fun q => { q with plated := r.plated + n }) (Machine.platePlates c n s) = u at plated now ⊢
  split
  · next complete =>
    have empty : drawnOf n r.entries = [] := left.eq_nil (by omega)
    refine (plated.same (sameStock_ops.post .courseState c.val 3 u)).freed (c := c) now rfl (fun _ => rfl) rfl (fun z => ?_)
      (setCourse_course? u c (v := none))
    rw [empty]
    change u.cabinet? z = (u.cabinet? z).map fun b => { b with reserved := b.reserved - 0 }
    rw [show (fun b : Cabinet => { b with reserved := b.reserved - 0 }) = id from rfl, Option.map_id, id]
  · exact plated

/-- What a course's entries hold given up, cabinet by cabinet (R144). -/
theorem releaseEntries_eq (es : List (ZoneId × Nat)) (s : State) : let t := es.foldl (fun s e => releasePlates e.1 e.2 s) s
    t.wares = s.wares ∧ (∀ k, inRacks t k = inRacks s k) ∧ t.courses = s.courses ∧
      ∀ z, t.cabinet? z = (s.cabinet? z).map fun b => { b with reserved := b.reserved - heldIn es z } := by
  have one : ∀ (e : ZoneId × Nat) (u : State), (releasePlates e.1 e.2 u).wares = u.wares ∧
      (∀ k, inRacks (releasePlates e.1 e.2 u) k = inRacks u k) ∧ (releasePlates e.1 e.2 u).courses = u.courses ∧
      ∀ z, (releasePlates e.1 e.2 u).cabinet? z = (u.cabinet? z).map fun b =>
        { b with reserved := b.reserved - if e.1 = z then e.2 else 0 } := by
    intro e u
    unfold releasePlates
    split
    · next b cabinet =>
      have same := sameStock_ops.report e.1 false (u.setCabinet e.1 { b with reserved := b.reserved - e.2 })
      refine ⟨same.wares.trans (State.changeZone_wares _ _ _), fun k => (same.racked k).trans (inRacks_of_racks (by simp [State.setCabinet]) k),
        same.courses.trans (State.changeZone_courses _ _ _), fun z => ?_⟩
      rw [same.cabinets, setCabinet_cabinet? cabinet]
      by_cases here : z = e.1
      · rw [if_pos here, if_pos here.symm, here, cabinet]
        rfl
      · rw [if_neg here, if_neg (Ne.symm here)]
        exact (Option.map_id').symm
    · next none =>
      refine ⟨rfl, fun _ => rfl, rfl, fun z => ?_⟩
      by_cases here : z = e.1
      · rw [here, none]
        rfl
      · rw [if_neg (Ne.symm here)]
        exact (Option.map_id').symm
  induction es generalizing s with
  | nil => exact ⟨rfl, fun _ => rfl, rfl, fun z => (Option.map_id').symm⟩
  | cons e es ih =>
    obtain ⟨wares, racked, courses, cabinets⟩ := one e s
    obtain ⟨wares', racked', courses', cabinets'⟩ := ih (releasePlates e.1 e.2 s)
    refine ⟨wares'.trans wares, fun k => (racked' k).trans (racked k), courses'.trans courses, fun z => ?_⟩
    rw [List.foldl_cons, cabinets', cabinets, Option.map_map, heldIn_cons]
    refine congrArg (fun f => Option.map f (s.cabinet? z)) (funext fun b => ?_)
    simp only [Function.comp, Nat.sub_sub]

theorem Books.closeCourse (h : Books late s) {c : CourseId} {r : Course} (live : s.course? c = some r) :
    Books late (closeCourse c r s) := by
  unfold Machine.closeCourse
  dsimp only
  obtain ⟨wares, racked, courses, cabinets⟩ := releaseEntries_eq r.entries s
  generalize List.foldl (fun s (e : ZoneId × Nat) => releasePlates e.1 e.2 s) s r.entries = u at wares racked courses cabinets ⊢
  have cleared : SameStock u (if r.short = true then clearEvent .courseShort c.val u else u) := .ite (sameStock_ops.clear _ _ _)
  generalize (if r.short = true then clearEvent .courseShort c.val u else u) = v at cleared ⊢
  have freed : Books late (freeCourse c v) := by
    refine h.freed live (cleared.wares.trans wares) (fun k => (cleared.racked k).trans (racked k)) ?_
      (fun z => (cleared.cabinets z).trans (cabinets z)) fun d => ?_
    · change v.courses.order.filter _ = _
      rw [cleared.courses, courses]
    · refine (setCourse_course? v c d none).trans ?_
      rw [State.course?, State.course?, cleared.courses, courses]
  have refilled : ∀ (zs : List ZoneId) (u : State), Books late u → Books late (zs.foldl refill u) := by
    intro zs
    induction zs with
    | nil => exact fun u hu => hu
    | cons z zs ih => exact fun u hu => ih _ ((hu.rerunCourses z).same (sameStock_ops.testRestock _ _))
  exact refilled _ _ (freed.same (sameStock_ops.post _ _ _ _))

theorem freeSlot_free {c : CourseId} (h : freeSlot s = some c) : s.course? c = none := by
  simpa using List.find?_some h

theorem Books.courseFire (h : Books late s) {room kind covers group : Nat} {cabinets : List Nat} :
    Books late (courseFire room kind covers group cabinets s).state := by
  refine courseFire_cases (motive := fun a => Books late a.state) (fun _ => h) fun k g cs c _ _ free => ?_
  exact ((h.seated (freeSlot_free free) rfl rfl).runPass c none true).mono fun d l => l.1.resolve_right l.2

end

/-! ### Every step -/

/-- No course's SHORT mark is to be set. -/
abbrev Balanced (s : State) : Prop := Books (fun _ => False) s

theorem restockMove_le (n : Nat) (w : Ware) (c : Cabinet) : restockMove n w c ≤ w.clean ∧ restockMove n w c ≤ c.capacity - c.stock :=
  ⟨(min_le_right _ _).trans (min_le_left _ _), (min_le_right _ _).trans (min_le_right _ _)⟩

theorem effect_plates {i : Instr} {s : State} (h : Balanced s) (plates : movesPlates i = true) : Balanced (effect i s) := by
  cases i
  case cabinetSet =>
    exact cabinetSet_cases (motive := fun a => Balanced a.state) (fun _ => h) h fun z c w hc kind room =>
      (h.cabinetSet hc kind room).same (sameStock_ops.trans (sameStock_ops.trans (sameStock_ops.closeTask _ _ _)
        (sameStock_ops.report _ _ _)) (sameStock_ops.testRestock _ _))
  case wareAdjust =>
    exact wareAdjust_cases (motive := fun a => Balanced a.state) (fun _ => h) h (fun w l _ _ _ _ known => h.purchase _ l known)
      fun w l _ _ _ _ known holds => h.removal l holds (min_le_right _ _) known
  case restockConfirm =>
    exact restockConfirm_cases (motive := fun a => Balanced a.state) (fun _ => h) fun z c w _ hc kind =>
      h.confirmRestock hc kind (restockMove_le _ _ _).1 (restockMove_le _ _ _).2
  case courseFire => exact h.courseFire
  case coursePlated => exact h.coursePlated
  case courseClose => exact courseClose_cases (motive := fun a => Balanced a.state) (fun _ => h) fun c r live => h.closeCourse live
  case rackOut =>
    rw [effect_event (f := rackOut) rfl]
    exact Books.unloadRack (h.same (t := seeTransition .rackOut s) ⟨rfl, fun _ => rfl, rfl, fun _ => rfl⟩)
  all_goals cases plates

/-- What a boundary does is none of the books' (R65). -/
theorem frameBoundary_stock (s : State) : SameStock s (frameBoundary s) := by
  have zone := frameBoundary_zone s
  have within := stagedMove_within { s with time := newFrameTime s.time }
  have shape : (frameBoundary s).wares = s.wares ∧ (frameBoundary s).courses = s.courses ∧ (frameBoundary s).line.racks = s.line.racks := by
    rw [frameBoundary_eq, postClippeds_eq, buildFrame_eq]
    exact ⟨within.wares (by simp), within.courses (by simp), within.same .racks (by simp)⟩
  obtain ⟨wares, courses, racks⟩ := shape
  refine ⟨wares, inRacks_of_racks racks, courses, fun z => ?_⟩
  rw [State.cabinet?, State.cabinet?, zone]
  cases s.zones.get z with
  | none => rfl
  | some r => rfl

theorem enterRinse_stock (s : State) : SameStock s (enterRinse s) := by
  unfold enterRinse
  dsimp only
  split
  · next racks moved => exact .of_racks fun k => rackPlates_advance k (by exact fun _ => rfl) (by exact fun _ => rfl) moved
  · exact ⟨rfl, fun _ => rfl, rfl, fun _ => rfl⟩

theorem leaveRinse_stock (s : State) : SameStock s (leaveRinse s) := by
  unfold leaveRinse
  split
  · next r racks found moved =>
    exact (SameStock.of_racks fun k => rackPlates_advance k (by exact fun _ => rfl) (by exact fun _ => rfl) moved).trans
      (sameStock_ops.post _ _ _ _)
  · exact ⟨rfl, fun _ => rfl, rfl, fun _ => rfl⟩

theorem balanced_depends : DependsOn Balanced [.wares, .racks, .courses, .zones] := by
  intro s t same h
  have wares : t.wares = s.wares := same .wares (by simp)
  have racks : t.line.racks = s.line.racks := same .racks (by simp)
  have courses : t.courses = s.courses := same .courses (by simp)
  have zones : t.zones = s.zones := same .zones (by simp)
  exact h.same ⟨wares, inRacks_of_racks racks, courses, cabinet?_of_zones zones⟩

theorem balanced_effect (i : Instr) (s : State) (writes_ : ∃ b ∈ [Block.wares, .racks, .courses, .zones], b ∈ writes i)
    (h : Balanced s) : Balanced (effect i s) := by
  obtain ⟨b, hb, hw⟩ := writes_
  by_cases zones : ((writes i).contains .zones && !(writes i).contains .time) = true
  · rw [Bool.and_eq_true, Bool.not_eq_true', List.contains_iff_mem] at zones
    exact books_served.effect i s zones.1 (by simpa using zones.2) (fun _ _ _ z r _ _ _ h => h.same (leaving_stock _ _ _))
      (fun plates h => effect_plates h plates) h
  cases i
  case sliceAdvance =>
    rw [effect_event (f := sliceAdvance) rfl, sliceAdvance]
    split
    · exact h.same ⟨rfl, fun _ => rfl, rfl, fun _ => rfl⟩
    · exact h.same (frameBoundary_stock s)
  case frameBoundary => rw [effect_event (f := frameBoundary) rfl]; exact h.same (frameBoundary_stock s)
  case wareDefine =>
    refine wareDefine_cases (motive := fun a => Balanced a.state) (fun _ => h) fun k _ _ unknown => ?_
    rw [accept_state]
    refine h.rebalance nofun fun x y eq => ?_
    have := h.unknown k unknown
    dsimp only
    omega
  case wareReturn t kind number =>
    refine wareReturn_cases (motive := fun a => Balanced a.state) (fun _ => h) fun k x _ => ?_
    dsimp only
    rw [acceptClamped_state]
    have few : min number (s.wares.get k).out ≤ (s.wares.get k).out := min_le_right _ _
    refine h.rebalance (h.unknown k) fun x y eq => ?_
    dsimp only
    omega
  case rackLoad => exact h.rackLoad
  case linePurge => exact h.linePurge
  case rinseEnter =>
    rw [effect_event (f := rinseEnter) rfl]
    exact h.same (SameStock.trans (t := seeTransition .rinseEnter s) ⟨rfl, fun _ => rfl, rfl, fun _ => rfl⟩ (enterRinse_stock _))
  case rinseExit =>
    rw [effect_event (f := rinseExit) rfl]
    exact h.same (SameStock.trans (t := seeTransition .rinseExit s) ⟨rfl, fun _ => rfl, rfl, fun _ => rfl⟩ (leaveRinse_stock _))
  all_goals first
    | exact (not_writes hb hw rfl).elim
    | exact (zones rfl).elim

theorem balanced_kept : KeptBy Balanced := by
  refine keptBy_of_blocks balanced_depends (by simp) balanced_effect (fun s chip ports => ?_) fun s h => ?_
  · exact ((books_iff _).mp ⟨resetBlocks_plate _ _ _, resetBlocks_cabinet _ _ _, resetBlocks_course _ _ _⟩).1
  · have same : SameStock s (countTick s) := by
      rw [countTick_eq]
      refine ⟨rfl, inRacks_of_racks ?_, rfl, fun z => ?_⟩
      · exact (DishLine.firstSampled_keeps s.line s.pins).1
      · rw [State.cabinet?, Table.get_map]
        cases hz : s.zones.get z with
        | none => rw [State.cabinet?, hz]; rfl
        | some r => rw [State.cabinet?, hz]; rfl
    exact h.same same

/-- Settles O58: the books with no SHORT mark to be set, and the cabinets being those of the WARMERs. -/
theorem everyStepKeepsThePlates : Obligations.EveryStepKeepsThePlates := fun s w laws stepped => by
  obtain ⟨books, shelved⟩ := (books_iff s).mp laws
  exact (books_iff w).mpr ⟨balanced_kept.step books stepped, shelved_law.kept.step shelved stepped⟩

end Sys2Proof.Machine
end

section
/-! PROOF. Staff and pages as functions: pages by their ids, entries, and the free lists. What each operation of the Paging
Controller does to them keeps the duty states, the targets and the lists together (R151, R162). -/

namespace Sys2Proof.Machine

open Function (update)

/-- A page that an entry holds in a state. -/
def Holds (page : PageId → Option Page) (e : EntryId) (i : Option PageId) (st : PageState) : Prop :=
  ∃ j, i = some j ∧ ∃ p, page j = some p ∧ p.state = st ∧ p.target = some e

/-- A page and an entry name each other (R162). -/
def Agrees (m : Staff) (p : Page) : Prop :=
  (p.state = .offered ∧ m.current = some p.id ∧ m.duty = .paged) ∨
    (p.state = .accepted ∧ m.current = some p.id ∧ m.duty = .assigned) ∨ (p.state = .suspended ∧ m.suspended = some p.id)

/-- A slot that holds no page, or a QUEUED one without a target. -/
def Untargeted (i : PageId) (o : Option Page) : Prop := ∀ p, o = some p → p.id = i ∧ p.state = .queued ∧ p.target = none

/-- R151 and R162 of pages, entries and free lists. A loose entry is one whose current page has been taken from it. -/
structure Crew (loose : EntryId → Prop) (page : PageId → Option Page) (staff : EntryId → Staff) (free : Fin 5 → List EntryId) :
    Prop where
  named : ∀ i p, page i = some p → p.id = i
  idle : ∀ e, (staff e).duty = .offDuty ∨ (staff e).duty = .free → (staff e).current = none ∧ (staff e).suspended = none
  reach : ∀ e, (staff e).duty ≠ .offDuty → (staff e).address ≠ 0
  paged : ∀ e, ¬ loose e → (staff e).duty = .paged → Holds page e (staff e).current .offered
  assigned : ∀ e, ¬ loose e → (staff e).duty = .assigned → Holds page e (staff e).current .accepted
  suspended : ∀ e, (staff e).suspended = none ∨ Holds page e (staff e).suspended .suspended
  targets : ∀ i p, page i = some p → (p.state = .queued ∧ p.target = none) ∨ ∃ e, p.target = some e ∧ Agrees (staff e) p
  gone : ∀ e, loose e → (staff e).duty ≠ .offDuty ∧ (staff e).duty ≠ .free ∧
    ∀ i p, page i = some p → p.target = some e → p.state = .suspended
  lists : ∀ i, (free i).Nodup
  listed : ∀ e i, e ∈ free i ↔ (staff e).role.index = i ∧ (staff e).duty = .free

section
variable {loose : EntryId → Prop} {page page' : PageId → Option Page} {staff : EntryId → Staff} {free : Fin 5 → List EntryId}

/-- No entry. -/
abbrev noOne : EntryId → Prop := fun _ => False

theorem update_eq_some {i j : PageId} {o : Option Page} {q : Page} :
    update page i o j = some q ↔ (j = i ∧ o = some q) ∨ (j ≠ i ∧ page j = some q) := by
  by_cases same : j = i
  · simp [same]
  · simp [same]

theorem Holds.update_of_ne {e : EntryId} {c : Option PageId} {st : PageState} {i : PageId} {o : Option Page}
    (h : Holds page e c st) (ne : c ≠ some i) : Holds (update page i o) e c st := by
  obtain ⟨j, rfl, p, hp, rest⟩ := h
  exact ⟨j, rfl, p, by rw [Function.update_of_ne fun same => ne (congrArg some same)]; exact hp, rest⟩

/-- A slot without a page that anyone holds is filled or emptied (R155, R157, R166). -/
theorem Crew.fill (h : Crew loose page staff free) {i : PageId} {o : Option Page} (before : ∀ p, page i = some p → p.state = .queued)
    (after : Untargeted i o) : Crew loose (update page i o) staff free := by
  have apart : ∀ {e c st}, Holds page e c st → st ≠ .queued → c ≠ some i := by
    rintro e c st ⟨j, rfl, p, hp, rfl, -⟩ held same
    rw [Option.some.inj same] at hp
    exact held (before p hp)
  refine ⟨fun j p hp => ?_, h.idle, h.reach, fun e tight d => ?_, fun e tight d => ?_, fun e => ?_, fun j p hp => ?_, fun e l => ?_,
    h.lists, h.listed⟩
  · rcases update_eq_some.mp hp with ⟨same, new⟩ | ⟨-, old⟩
    · exact same ▸ (after p new).1
    · exact h.named j p old
  · have held := h.paged e tight d
    exact held.update_of_ne (apart held nofun)
  · have held := h.assigned e tight d
    exact held.update_of_ne (apart held nofun)
  · rcases h.suspended e with none | held
    · exact .inl none
    · exact .inr (held.update_of_ne (apart held nofun))
  · rcases update_eq_some.mp hp with ⟨-, new⟩ | ⟨-, old⟩
    · exact .inl (after p new).2
    · exact h.targets j p old
  · obtain ⟨on, busy, none⟩ := h.gone e l
    refine ⟨on, busy, fun j p hp target => ?_⟩
    rcases update_eq_some.mp hp with ⟨-, new⟩ | ⟨-, old⟩
    · rw [(after p new).2.2] at target
      cases target
    · exact none j p old target

/-- An OFFERED or ACCEPTED page is taken from its target (R163 to R167). -/
theorem Crew.detach (h : Crew noOne page staff free) {i : PageId} {p : Page} {e : EntryId} {o : Option Page} (live : page i = some p)
    (state : p.state = .offered ∨ p.state = .accepted) (target : p.target = some e) (after : Untargeted i o) :
    Crew (· = e) (update page i o) staff free := by
  have named := h.named i p live
  have agreed : (staff e).current = some i ∧ ((staff e).duty = .paged ∨ (staff e).duty = .assigned) := by
    rcases h.targets i p live with ⟨queued, -⟩ | ⟨d, hd, agrees⟩
    · rw [queued] at state
      rcases state with s | s <;> cases s
    · cases target.symm.trans hd
      rcases agrees with ⟨-, current, duty⟩ | ⟨-, current, duty⟩ | ⟨suspended, -⟩
      · exact ⟨named ▸ current, .inl duty⟩
      · exact ⟨named ▸ current, .inr duty⟩
      · rw [suspended] at state
        rcases state with s | s <;> cases s
  have other : ∀ {d c st}, Holds page d c st → d ≠ e ∨ st = .suspended → c ≠ some i := by
    rintro d c st ⟨j, rfl, q, hq, held, its⟩ apart same
    rw [Option.some.inj same] at hq
    cases live.symm.trans hq
    rcases apart with ne | suspended
    · exact ne (Option.some.inj (its.symm.trans target))
    · rw [held, suspended] at state
      rcases state with s | s <;> cases s
  refine ⟨fun j q hq => ?_, h.idle, h.reach, fun d tight duty => ?_, fun d tight duty => ?_, fun d => ?_, fun j q hq => ?_, fun d l => ?_,
    h.lists, h.listed⟩
  · rcases update_eq_some.mp hq with ⟨same, new⟩ | ⟨-, old⟩
    · exact same ▸ (after q new).1
    · exact h.named j q old
  · have held := h.paged d id duty
    exact held.update_of_ne (other held (.inl tight))
  · have held := h.assigned d id duty
    exact held.update_of_ne (other held (.inl tight))
  · rcases h.suspended d with none | held
    · exact .inl none
    · exact .inr (held.update_of_ne (other held (.inr rfl)))
  · rcases update_eq_some.mp hq with ⟨-, new⟩ | ⟨-, old⟩
    · exact .inl (after q new).2
    · exact h.targets j q old
  · subst l
    refine ⟨fun off => ?_, fun off => ?_, fun j q hq its => ?_⟩
    · rcases agreed.2 with d | d <;> rw [off] at d <;> cases d
    · rcases agreed.2 with d | d <;> rw [off] at d <;> cases d
    rcases update_eq_some.mp hq with ⟨-, new⟩ | ⟨ne, old⟩
    · rw [(after q new).2.2] at its
      cases its
    · rcases h.targets j q old with ⟨-, none⟩ | ⟨d, hd, agrees⟩
      · rw [none] at its
        cases its
      · cases its.symm.trans hd
        have id_ := h.named j q old
        rcases agrees with ⟨-, current, -⟩ | ⟨-, current, -⟩ | ⟨suspended, -⟩
        · exact (ne (Option.some.inj (id_ ▸ current.symm.trans agreed.1))).elim
        · exact (ne (Option.some.inj (id_ ▸ current.symm.trans agreed.1))).elim
        · exact suspended

/-- Pages that keep their ids, states and targets (R159, R162, R165). -/
theorem Crew.touch (h : Crew loose page staff free) (f : PageId → Page → Page) (id_ : ∀ i p, (f i p).id = p.id)
    (state : ∀ i p, (f i p).state = p.state) (target : ∀ i p, (f i p).target = p.target) :
    Crew loose (fun i => (page i).map (f i)) staff free := by
  have held : ∀ {e c st}, Holds page e c st → Holds (fun i => (page i).map (f i)) e c st := by
    rintro e c st ⟨j, rfl, p, hp, rfl, its⟩
    exact ⟨j, rfl, f j p, by dsimp only; rw [hp]; rfl, state j p, (target j p).trans its⟩
  refine ⟨fun i q hq => ?_, h.idle, h.reach, fun e tight d => held (h.paged e tight d), fun e tight d => held (h.assigned e tight d),
    fun e => (h.suspended e).imp_right held, fun i q hq => ?_, fun e l => ?_, h.lists, h.listed⟩
  · obtain ⟨p, hp, rfl⟩ := Option.map_eq_some_iff.mp hq
    exact (id_ i p).trans (h.named i p hp)
  · obtain ⟨p, hp, rfl⟩ := Option.map_eq_some_iff.mp hq
    unfold Agrees
    rw [id_, state, target]
    exact h.targets i p hp
  · obtain ⟨on, busy, none⟩ := h.gone e l
    refine ⟨on, busy, fun i q hq its => ?_⟩
    obtain ⟨p, hp, rfl⟩ := Option.map_eq_some_iff.mp hq
    rw [state]
    rw [target] at its
    exact none i p hp its

/-- One entry's record changes, with pages that have it as their target and its place on the lists; all the rest is as it was. -/
theorem Crew.change (h : Crew loose page staff free) {e : EntryId} {m : Staff} {free' : Fin 5 → List EntryId}
    (others : ∀ i p d, page i = some p → p.target = some d → d ≠ e → page' i = some p)
    (pages : ∀ i p, page' i = some p → p.id = i ∧ ((p.state = .queued ∧ p.target = none) ∨ (p.target = some e ∧ Agrees m p) ∨
      (page i = some p ∧ ∃ d, p.target = some d ∧ d ≠ e)))
    (idle : m.duty = .offDuty ∨ m.duty = .free → m.current = none ∧ m.suspended = none) (reach : m.duty ≠ .offDuty → m.address ≠ 0)
    (paged : m.duty = .paged → Holds page' e m.current .offered) (assigned : m.duty = .assigned → Holds page' e m.current .accepted)
    (suspended : m.suspended = none ∨ Holds page' e m.suspended .suspended) (lists : ∀ i, (free' i).Nodup)
    (listed : ∀ d i, d ∈ free' i ↔ if d = e then m.role.index = i ∧ m.duty = .free else d ∈ free i) :
    Crew (fun d => loose d ∧ d ≠ e) page' (update staff e m) free' := by
  have self : update staff e m e = m := Function.update_self _ _ _
  have keeps : ∀ d, d ≠ e → update staff e m d = staff d := fun d ne => Function.update_of_ne ne _ _
  have held : ∀ {d c st}, d ≠ e → Holds page d c st → Holds page' d c st := by
    rintro d c st ne ⟨j, rfl, p, hp, rest, its⟩
    exact ⟨j, rfl, p, others j p d hp its ne, rest, its⟩
  generalize update staff e m = staff' at self keeps
  refine ⟨fun i p hp => (pages i p hp).1, fun d off => ?_, fun d on => ?_, fun d tight duty => ?_, fun d tight duty => ?_, fun d => ?_,
    fun j q hq => ?_, fun d l => ?_, lists, fun d i => ?_⟩
  · by_cases same : d = e
    · rw [same, self] at off ⊢
      exact idle off
    · rw [keeps d same] at off ⊢
      exact h.idle d off
  · by_cases same : d = e
    · rw [same, self] at on ⊢
      exact reach on
    · rw [keeps d same] at on ⊢
      exact h.reach d on
  · by_cases same : d = e
    · rw [same, self] at duty ⊢
      exact paged duty
    · rw [keeps d same] at duty ⊢
      exact held same (h.paged d (fun l => tight ⟨l, same⟩) duty)
  · by_cases same : d = e
    · rw [same, self] at duty ⊢
      exact assigned duty
    · rw [keeps d same] at duty ⊢
      exact held same (h.assigned d (fun l => tight ⟨l, same⟩) duty)
  · by_cases same : d = e
    · rw [same, self]
      exact suspended
    · rw [keeps d same]
      exact (h.suspended d).imp_right (held same)
  · obtain ⟨-, queued | ⟨its, agrees⟩ | ⟨old, d, its, ne⟩⟩ := pages j q hq
    · exact .inl queued
    · exact .inr ⟨e, its, by rw [self]; exact agrees⟩
    · refine .inr ⟨d, its, ?_⟩
      rw [keeps d ne]
      rcases h.targets j q old with ⟨-, none⟩ | ⟨x, hx, agrees⟩
      · rw [none] at its
        cases its
      · cases its.symm.trans hx
        exact agrees
  · rw [keeps d l.2]
    obtain ⟨on, busy, none⟩ := h.gone d l.1
    refine ⟨on, busy, fun j q hq its => ?_⟩
    obtain ⟨-, ⟨-, untargeted⟩ | ⟨mine, -⟩ | ⟨old, -⟩⟩ := pages j q hq
    · rw [untargeted] at its
      cases its
    · exact (l.2 (Option.some.inj (its.symm.trans mine))).elim
    · exact none j q old its
  · rw [listed]
    by_cases same : d = e
    · rw [if_pos same, same, self]
    · rw [if_neg same, keeps d same]
      exact h.listed d i

theorem Crew.tight (h : Crew loose page staff free) (none : ∀ e, ¬ loose e) : Crew noOne page staff free :=
  ⟨h.named, h.idle, h.reach, fun e _ => h.paged e (none e), fun e _ => h.assigned e (none e), h.suspended, h.targets,
    fun _ l => l.elim, h.lists, h.listed⟩

/-- A page is QUEUED without a target, or has one that it agrees with. -/
theorem Crew.target_or (h : Crew loose page staff free) {i : PageId} {p : Page} (live : page i = some p) (e : EntryId) :
    (p.state = .queued ∧ p.target = none) ∨ (p.target = some e ∧ Agrees (staff e) p) ∨ ∃ d, p.target = some d ∧ d ≠ e := by
  rcases h.targets i p live with queued | ⟨d, its, agrees⟩
  · exact .inl queued
  · by_cases same : d = e
    · subst same
      exact .inr (.inl ⟨its, agrees⟩)
    · exact .inr (.inr ⟨d, its, same⟩)

/-- The pages of one entry apart, those of the others stay when one slot of its own, or without a target, changes. -/
theorem others_update {e : EntryId} {i : PageId} {o : Option Page} (own : ∀ p d, page i = some p → p.target = some d → d = e) :
    ∀ j p d, page j = some p → p.target = some d → d ≠ e → update page i o j = some p := fun j p d hp its ne => by
  have apart : j ≠ i := fun same => ne (own p d (same ▸ hp) its)
  rw [Function.update_of_ne apart]
  exact hp

theorem listed_same (h : Crew loose page staff free) {e : EntryId} {m : Staff}
    (same : (staff e).duty = .free ↔ m.duty = .free) (role : m.role = (staff e).role) (d : EntryId) (i : Fin 5) :
    d ∈ free i ↔ if d = e then m.role.index = i ∧ m.duty = .free else d ∈ free i := by
  split
  · next here => rw [here, h.listed, role, same]
  · rfl

/-- A SUSPENDED page is taken from its target, which keeps its current one (R166). -/
theorem Crew.detachSuspended (h : Crew noOne page staff free) {i : PageId} {p : Page} {e : EntryId} {o : Option Page}
    (live : page i = some p) (state : p.state = .suspended) (target : p.target = some e) (after : Untargeted i o) :
    Crew noOne (update page i o) (update staff e { staff e with suspended := none }) free := by
  have named := h.named i p live
  have its : (staff e).suspended = some i := by
    rcases h.target_or live e with ⟨queued, -⟩ | ⟨-, ⟨offered, -⟩ | ⟨accepted, -⟩ | ⟨-, suspended⟩⟩ | ⟨d, hd, ne⟩
    · rw [queued] at state
      cases state
    · rw [offered] at state
      cases state
    · rw [accepted] at state
      cases state
    · exact named ▸ suspended
    · exact (ne (Option.some.inj (hd.symm.trans target))).elim
  have apart : ∀ {c st}, Holds page e c st → st ≠ .suspended → c ≠ some i := by
    rintro c st ⟨j, rfl, q, hq, held, -⟩ unsuspended same
    rw [Option.some.inj same] at hq
    cases live.symm.trans hq
    exact unsuspended (held.symm.trans state)
  have changed := h.change (e := e) (m := { staff e with suspended := none }) (page' := update page i o) (free' := free)
    (others_update fun q d hq hd => by cases live.symm.trans hq; exact Option.some.inj (hd.symm.trans target)) (fun j q hq => ?_)
    (fun off => ⟨(h.idle e off).1, rfl⟩) (h.reach e)
    (fun duty => (h.paged e id duty).update_of_ne (apart (h.paged e id duty) nofun))
    (fun duty => (h.assigned e id duty).update_of_ne (apart (h.assigned e id duty) nofun)) (.inl rfl) h.lists
    (listed_same h Iff.rfl rfl)
  · exact changed.tight fun d l => l.1.elim
  · rcases update_eq_some.mp hq with ⟨same, new⟩ | ⟨ne, old⟩
    · exact ⟨same ▸ (after q new).1, .inl (after q new).2⟩
    · refine ⟨h.named j q old, ?_⟩
      rcases h.target_or old e with queued | ⟨mine, ⟨a, b, c⟩ | ⟨a, b, c⟩ | ⟨-, suspended⟩⟩ | ⟨d, hd, other⟩
      · exact .inl queued
      · exact .inr (.inl ⟨mine, .inl ⟨a, b, c⟩⟩)
      · exact .inr (.inl ⟨mine, .inr (.inl ⟨a, b, c⟩)⟩)
      · exact (ne (Option.some.inj ((h.named j q old) ▸ suspended.symm.trans its))).elim
      · exact .inr (.inr ⟨old, d, hd, other⟩)

/-- What is loose of an entry is its current page alone: every page that has it as its target is its SUSPENDED one. -/
theorem Crew.suspended_of_loose (h : Crew loose page staff free) {e : EntryId} (l : loose e) {i : PageId} {p : Page}
    (live : page i = some p) (target : p.target = some e) : p.state = .suspended ∧ (staff e).suspended = some i := by
  have state := (h.gone e l).2.2 i p live target
  refine ⟨state, ?_⟩
  rcases h.target_or live e with ⟨-, none⟩ | ⟨-, ⟨offered, -⟩ | ⟨accepted, -⟩ | ⟨-, suspended⟩⟩ | ⟨d, hd, ne⟩
  · rw [none] at target
    cases target
  · rw [offered] at state
    cases state
  · rw [accepted] at state
    cases state
  · exact h.named i p live ▸ suspended
  · exact (ne (Option.some.inj (hd.symm.trans target))).elim

/-- An entry with no page becomes FREE at the tail of its role's list (R151, R163). -/
theorem Crew.freed (h : Crew loose page staff free) {e : EntryId} (only : ∀ d, loose d → d = e) (reach : (staff e).address ≠ 0)
    (busy : (staff e).duty ≠ .free) (none_ : ∀ i p, page i = some p → p.target ≠ some e) :
    Crew noOne page (update staff e { staff e with duty := .free, current := none, suspended := none })
      (update free (staff e).role.index (free (staff e).role.index ++ [e])) := by
  have out : ∀ i, e ∉ free i := fun i mem => busy ((h.listed e i).mp mem).2
  refine (h.change (m := { staff e with duty := .free, current := none, suspended := none }) (page' := page)
    (fun i p d hp _ _ => hp) (fun i p hp => ⟨h.named i p hp, ?_⟩) (fun _ => ⟨rfl, rfl⟩) (fun _ => reach) nofun nofun (.inl rfl)
    (fun i => ?_) fun d i => ?_).tight fun d l => l.2 (only d l.1)
  · rcases h.target_or hp e with queued | ⟨its, -⟩ | ⟨d, hd, ne⟩
    · exact .inl queued
    · exact (none_ i p hp its).elim
    · exact .inr (.inr ⟨hp, d, hd, ne⟩)
  · by_cases here : i = (staff e).role.index
    · rw [here, Function.update_self, List.nodup_append]
      refine ⟨h.lists _, List.nodup_singleton _, fun a ha b hb same => out (staff e).role.index ?_⟩
      rw [List.mem_singleton] at hb
      rw [same, hb] at ha
      exact ha
    · rw [Function.update_of_ne here]
      exact h.lists i
  · have grown : d ∈ update free (staff e).role.index (free (staff e).role.index ++ [e]) i ↔
        d ∈ free i ∨ (d = e ∧ (staff e).role.index = i) := by
      by_cases here : i = (staff e).role.index
      · subst here
        simp
      · rw [Function.update_of_ne here]
        simp [Ne.symm here]
    rw [grown]
    by_cases same : d = e
    · simp [same, out i]
    · simp [same]

/-- An entry without its current page takes up its SUSPENDED one (R163). -/
theorem Crew.resumed (h : Crew loose page staff free) {e : EntryId} (l : loose e) (only : ∀ d, loose d → d = e) {i : PageId}
    {p p' : Page} {since : Nat} (held : (staff e).suspended = some i) (live : page i = some p) (name : p'.id = p.id)
    (target : p'.target = p.target) (state : p'.state = .accepted) :
    Crew noOne (update page i (some p'))
      (update staff e { staff e with duty := .assigned, current := some i, suspended := none, since := since }) free := by
  obtain ⟨on, busy, -⟩ := h.gone e l
  have its : p.target = some e := by
    obtain ⟨j, hj, q, hq, -, its⟩ := (h.suspended e).resolve_left (by rw [held]; nofun)
    cases held.symm.trans hj
    cases live.symm.trans hq
    exact its
  have named := h.named i p live
  refine (h.change (m := { staff e with duty := .assigned, current := some i, suspended := none, since := since })
    (page' := update page i (some p'))
    (others_update fun q d hq hd => by cases live.symm.trans hq; exact Option.some.inj (hd.symm.trans its))
    (fun j q hq => ?_) nofun (fun _ => h.reach e on) nofun
    (fun _ => ⟨i, rfl, p', by rw [Function.update_self], state, target.trans its⟩) (.inl rfl) h.lists
    (listed_same h ⟨fun f => (busy f).elim, nofun⟩ rfl)).tight fun d l => l.2 (only d l.1)
  rcases update_eq_some.mp hq with ⟨same, new⟩ | ⟨ne, old⟩
  · cases new
    exact ⟨name.trans (named.trans same.symm), .inr (.inl ⟨target.trans its, .inr (.inl ⟨state, by rw [name, named], rfl⟩)⟩)⟩
  · refine ⟨h.named j q old, ?_⟩
    rcases h.target_or old e with queued | ⟨mine, -⟩ | ⟨d, hd, other⟩
    · exact .inl queued
    · exact (ne (Option.some.inj ((h.suspended_of_loose l old mine).2.symm.trans held))).elim
    · exact .inr (.inr ⟨old, d, hd, other⟩)

/-- The target of an OFFERED page has it as its current one. -/
theorem Crew.current_of_offered (h : Crew noOne page staff free) {i : PageId} {p : Page} {e : EntryId} (live : page i = some p)
    (state : p.state = .offered) (target : p.target = some e) : (staff e).current = some i ∧ (staff e).duty = .paged := by
  rcases h.target_or live e with ⟨queued, -⟩ | ⟨-, ⟨-, current, duty⟩ | ⟨accepted, -⟩ | ⟨suspended, -⟩⟩ | ⟨d, hd, ne⟩
  · rw [queued] at state
    cases state
  · exact ⟨h.named i p live ▸ current, duty⟩
  · rw [accepted] at state
    cases state
  · rw [suspended] at state
    cases state
  · exact (ne (Option.some.inj (hd.symm.trans target))).elim

/-- The target of an OFFERED page accepts it (R164). -/
theorem Crew.accepted (h : Crew noOne page staff free) {i : PageId} {p p' : Page} {e : EntryId} {since : Nat} (live : page i = some p)
    (offered : p.state = .offered) (its : p.target = some e) (name : p'.id = p.id) (target : p'.target = p.target)
    (state : p'.state = .accepted) :
    Crew noOne (update page i (some p')) (update staff e { staff e with duty := .assigned, current := some i, since := since }) free := by
  obtain ⟨current, duty⟩ := h.current_of_offered live offered its
  have named := h.named i p live
  have apart : ∀ {c}, Holds page e c .suspended → c ≠ some i := by
    rintro c ⟨j, rfl, q, hq, held, -⟩ same
    rw [Option.some.inj same] at hq
    cases live.symm.trans hq
    rw [held] at offered
    cases offered
  refine (h.change (m := { staff e with duty := .assigned, current := some i, since := since }) (page' := update page i (some p'))
    (others_update fun q d hq hd => by cases live.symm.trans hq; exact Option.some.inj (hd.symm.trans its))
    (fun j q hq => ?_) nofun (fun _ => h.reach e (by rw [duty]; nofun)) nofun
    (fun _ => ⟨i, rfl, p', by rw [Function.update_self], state, target.trans its⟩)
    ((h.suspended e).imp_right fun held => held.update_of_ne (apart held)) h.lists
    (listed_same h ⟨fun f => (nomatch duty.symm.trans f), nofun⟩ rfl)).tight fun d l => l.1
  rcases update_eq_some.mp hq with ⟨same, new⟩ | ⟨ne, old⟩
  · cases new
    exact ⟨name.trans (named.trans same.symm), .inr (.inl ⟨target.trans its, .inr (.inl ⟨state, by rw [name, named], rfl⟩)⟩)⟩
  · refine ⟨h.named j q old, ?_⟩
    rcases h.target_or old e with queued | ⟨mine, ⟨-, c, -⟩ | ⟨-, c, -⟩ | suspended⟩ | ⟨d, hd, other⟩
    · exact .inl queued
    · exact (ne (Option.some.inj ((h.named j q old) ▸ c.symm.trans current))).elim
    · exact (ne (Option.some.inj ((h.named j q old) ▸ c.symm.trans current))).elim
    · exact .inr (.inl ⟨mine, .inr (.inr suspended)⟩)
    · exact .inr (.inr ⟨old, d, hd, other⟩)

/-- A FREE entry has no page. -/
theorem Crew.no_page_of_idle (h : Crew noOne page staff free) {e : EntryId} (idle : (staff e).duty = .offDuty ∨ (staff e).duty = .free)
    {i : PageId} {p : Page} (live : page i = some p) : p.target ≠ some e := fun target => by
  obtain ⟨current, suspended⟩ := h.idle e idle
  rcases h.target_or live e with ⟨-, none⟩ | ⟨-, ⟨-, c, -⟩ | ⟨-, c, -⟩ | ⟨-, s⟩⟩ | ⟨d, hd, ne⟩
  · rw [none] at target
    cases target
  · rw [current] at c
    cases c
  · rw [current] at c
    cases c
  · rw [suspended] at s
    cases s
  · exact ne (Option.some.inj (hd.symm.trans target))

/-- The lists without an entry. -/
theorem Crew.mem_without (h : Crew loose page staff free) {e d : EntryId} {j : Fin 5} :
    d ∈ update free (staff e).role.index ((free (staff e).role.index).filter (· ≠ e)) j ↔ d ∈ free j ∧ d ≠ e := by
  by_cases here : j = (staff e).role.index
  · subst here
    simp
  · rw [Function.update_of_ne here]
    refine (and_iff_left_of_imp fun mem same => here ?_).symm
    rw [same] at mem
    exact ((h.listed e j).mp mem).1.symm

/-- A QUEUED page is offered to a FREE entry, which leaves its role's list (R162). -/
theorem Crew.offered (h : Crew noOne page staff free) {i : PageId} {p p' : Page} {e : EntryId} (live : page i = some p)
    (queued : p.state = .queued) (idle : (staff e).duty = .free) (name : p'.id = p.id) (target : p'.target = some e)
    (state : p'.state = .offered) :
    Crew noOne (update page i (some p')) (update staff e { staff e with duty := .paged, current := some i })
      (update free (staff e).role.index ((free (staff e).role.index).filter (· ≠ e))) := by
  have named := h.named i p live
  have alone := fun j q => h.no_page_of_idle (.inr idle) (i := j) (p := q)
  have untargeted : p.target = none := by
    rcases h.targets i p live with ⟨-, none⟩ | ⟨d, -, ⟨s, -⟩ | ⟨s, -⟩ | ⟨s, -⟩⟩
    · exact none
    all_goals
      rw [queued] at s
      cases s
  refine (h.change (m := { staff e with duty := .paged, current := some i }) (page' := update page i (some p'))
    (others_update fun q d hq hd => by cases live.symm.trans hq; rw [untargeted] at hd; cases hd)
    (fun j q hq => ?_) nofun (fun _ => h.reach e (by rw [idle]; nofun))
    (fun _ => ⟨i, rfl, p', by rw [Function.update_self], state, target⟩) nofun (.inl (h.idle e (.inr idle)).2) (fun j => ?_)
    fun d j => ?_).tight fun d l => l.1
  · rcases update_eq_some.mp hq with ⟨same, new⟩ | ⟨ne, old⟩
    · cases new
      exact ⟨name.trans (named.trans same.symm), .inr (.inl ⟨target, .inl ⟨state, by rw [name, named], rfl⟩⟩)⟩
    · refine ⟨h.named j q old, ?_⟩
      rcases h.target_or old e with queued | ⟨mine, -⟩ | ⟨d, hd, other⟩
      · exact .inl queued
      · exact (alone j q old mine).elim
      · exact .inr (.inr ⟨old, d, hd, other⟩)
  · by_cases here : j = (staff e).role.index
    · rw [here, Function.update_self]
      exact (h.lists _).filter _
    · rw [Function.update_of_ne here]
      exact h.lists j
  · rw [h.mem_without]
    by_cases same : d = e
    · simp [same]
    · simp [same]

/-- A QUEUED page is offered to an ASSIGNED entry with nothing suspended, whose page is SUSPENDED (R160, R162). -/
theorem Crew.preempted (h : Crew noOne page staff free) {i j : PageId} {p p' q q' : Page} {e : EntryId} (live : page i = some p)
    (queued : p.state = .queued) (assigned : (staff e).duty = .assigned) (current : (staff e).current = some j)
    (alone : (staff e).suspended = none) (held : page j = some q) (name : p'.id = p.id) (target : p'.target = some e)
    (state : p'.state = .offered) (name_ : q'.id = q.id) (target_ : q'.target = q.target) (state_ : q'.state = .suspended) :
    Crew noOne (update (update page i (some p')) j (some q'))
      (update staff e { staff e with duty := .paged, current := some i, suspended := some j }) free := by
  have named := h.named i p live
  have namedHeld := h.named j q held
  have its : q.target = some e ∧ q.state = .accepted := by
    obtain ⟨k, hk, x, hx, state, its⟩ := h.assigned e id assigned
    cases current.symm.trans hk
    cases held.symm.trans hx
    exact ⟨its, state⟩
  have apart : i ≠ j := fun same => by
    rw [same] at live
    cases live.symm.trans held
    rw [its.2] at queued
    cases queued
  have untargeted : p.target = none := by
    rcases h.targets i p live with ⟨-, none⟩ | ⟨d, -, ⟨s, -⟩ | ⟨s, -⟩ | ⟨s, -⟩⟩
    · exact none
    all_goals
      rw [queued] at s
      cases s
  have first : update (update page i (some p')) j (some q') i = some p' := by
    rw [Function.update_of_ne apart, Function.update_self]
  refine (h.change (m := { staff e with duty := .paged, current := some i, suspended := some j })
    (page' := update (update page i (some p')) j (some q')) (fun k x d hx hd ne => ?_) (fun k x hx => ?_) nofun
    (fun _ => h.reach e (by rw [assigned]; nofun)) (fun _ => ⟨i, rfl, p', first, state, target⟩) nofun
    (.inr ⟨j, rfl, q', by rw [Function.update_self], state_, target_.trans its.1⟩) h.lists
    (listed_same h ⟨fun f => (nomatch assigned.symm.trans f), nofun⟩ rfl)).tight fun d l => l.1
  · have notHeld : k ≠ j := fun same => by
      rw [same] at hx
      cases held.symm.trans hx
      exact ne (Option.some.inj (hd.symm.trans its.1))
    have notLive : k ≠ i := fun same => by
      rw [same] at hx
      cases live.symm.trans hx
      rw [untargeted] at hd
      cases hd
    rw [Function.update_of_ne notHeld, Function.update_of_ne notLive]
    exact hx
  · rcases update_eq_some.mp hx with ⟨same, new⟩ | ⟨ne, old⟩
    · cases new
      exact ⟨name_.trans (namedHeld.trans same.symm), .inr (.inl ⟨target_.trans its.1, .inr (.inr ⟨state_, by rw [name_, namedHeld]⟩)⟩)⟩
    rcases update_eq_some.mp old with ⟨same, new⟩ | ⟨-, old⟩
    · cases new
      exact ⟨name.trans (named.trans same.symm), .inr (.inl ⟨target, .inl ⟨state, by rw [name, named], rfl⟩⟩)⟩
    · refine ⟨h.named k x old, ?_⟩
      rcases h.target_or old e with queued | ⟨mine, ⟨-, c, -⟩ | ⟨-, c, -⟩ | ⟨-, s⟩⟩ | ⟨d, hd, other⟩
      · exact .inl queued
      · exact (ne (Option.some.inj ((h.named k x old) ▸ c.symm.trans current))).elim
      · exact (ne (Option.some.inj ((h.named k x old) ▸ c.symm.trans current))).elim
      · rw [alone] at s
        cases s
      · exact .inr (.inr ⟨old, d, hd, other⟩)

/-- An entry goes off duty, its pages going back to QUEUED (R154). -/
theorem Crew.offDuty (h : Crew noOne page staff free) {e : EntryId}
    (back : ∀ i, page' i = if some i = (staff e).current ∨ some i = (staff e).suspended then
      (page i).map fun p => { p with state := .queued, target := none, ackTimer := none } else page i) :
    Crew noOne page' (update staff e { staff e with duty := .offDuty, current := none, suspended := none })
      (update free (staff e).role.index ((free (staff e).role.index).filter (· ≠ e))) := by
  have holder : ∀ i p, page i = some p → some i = (staff e).current ∨ some i = (staff e).suspended → p.target = some e := by
    have paged : ∀ {c st i p}, Holds page e c st → some i = c → page i = some p → p.target = some e := by
      rintro c st i p ⟨j, rfl, q, hq, -, its⟩ same live
      cases same
      cases live.symm.trans hq
      exact its
    rintro i p live (current | suspended)
    · cases duty : (staff e).duty with
      | offDuty => rw [(h.idle e (.inl duty)).1] at current; cases current
      | free => rw [(h.idle e (.inr duty)).1] at current; cases current
      | paged => exact paged (h.paged e id duty) current live
      | assigned => exact paged (h.assigned e id duty) current live
    · exact paged ((h.suspended e).resolve_left fun none => by rw [none] at suspended; cases suspended) suspended live
  refine (h.change (m := { staff e with duty := .offDuty, current := none, suspended := none }) (page' := page')
    (fun i p d hp its ne => ?_) (fun i p hp => ?_) (fun _ => ⟨rfl, rfl⟩) (fun on => (on rfl).elim) nofun nofun (.inl rfl) (fun j => ?_)
    fun d j => ?_).tight fun d l => l.1
  · rw [back, if_neg fun mine => ne (Option.some.inj (its.symm.trans (holder i p hp mine)))]
    exact hp
  · rw [back] at hp
    split at hp
    · obtain ⟨q, hq, rfl⟩ := Option.map_eq_some_iff.mp hp
      exact ⟨h.named i q hq, .inl ⟨rfl, rfl⟩⟩
    · next apart =>
      refine ⟨h.named i p hp, ?_⟩
      rcases h.target_or hp e with queued | ⟨-, ⟨-, c, -⟩ | ⟨-, c, -⟩ | ⟨-, s⟩⟩ | ⟨d, hd, other⟩
      · exact .inl queued
      · exact (apart (.inl (h.named i p hp ▸ c.symm))).elim
      · exact (apart (.inl (h.named i p hp ▸ c.symm))).elim
      · exact (apart (.inr (h.named i p hp ▸ s.symm))).elim
      · exact .inr (.inr ⟨hp, d, hd, other⟩)
  · by_cases here : j = (staff e).role.index
    · rw [here, Function.update_self]
      exact (h.lists _).filter _
    · rw [Function.update_of_ne here]
      exact h.lists j
  · rw [h.mem_without]
    by_cases same : d = e
    · simp [same]
    · simp [same]

/-- An OFF_DUTY entry is set (R152). -/
theorem Crew.set (h : Crew noOne page staff free) {e : EntryId} (off : (staff e).duty = .offDuty) (address : Nat) (role : StaffRole)
    (group : Fin 8) : Crew noOne page (update staff e { staff e with address := address, role := role, group := group }) free := by
  have alone := fun j q => h.no_page_of_idle (.inl off) (i := j) (p := q)
  obtain ⟨current, suspended⟩ := h.idle e (.inl off)
  refine (h.change (m := { staff e with address := address, role := role, group := group }) (page' := page)
    (fun i p d hp _ _ => hp) (fun i p hp => ⟨h.named i p hp, ?_⟩) (fun _ => ⟨current, suspended⟩) (fun on => (on off).elim)
    (fun d => nomatch off.symm.trans d) (fun d => nomatch off.symm.trans d) (.inl suspended) h.lists fun d i => ?_).tight fun d l => l.1
  · rcases h.target_or hp e with queued | ⟨mine, -⟩ | ⟨d, hd, other⟩
    · exact .inl queued
    · exact (alone i p hp mine).elim
    · exact .inr (.inr ⟨hp, d, hd, other⟩)
  · split
    · next same =>
      subst same
      rw [h.listed]
      exact ⟨fun l => (nomatch off.symm.trans l.2), fun l => (nomatch off.symm.trans l.2)⟩
    · rfl

end

end Sys2Proof.Machine
end

section
/-! PROOF. The Paging Controller's operations keep pages, entries and free lists together (R151 to R168). -/

namespace Sys2Proof.Machine

open Function (update)

/-! ### Pages by their ids -/

section
variable {s t : State}

theorem page?_of_pages (h : t.desk.pages = s.desk.pages) : t.page? = s.page? := by
  funext i
  rw [State.page?, h]
  rfl

theorem page?_eq_some (apart : (s.desk.pages.map (·.id)).Nodup) {i : PageId} {p : Page} :
    s.page? i = some p ↔ p ∈ s.desk.pages ∧ p.id = i := by
  constructor
  · intro h
    exact ⟨List.mem_of_find?_eq_some h, by simpa using List.find?_some h⟩
  · rintro ⟨mem, rfl⟩
    cases found : s.page? p.id with
    | none => exact absurd (List.find?_eq_none.mp found p mem) (by simp)
    | some q =>
      have same : q.id = p.id := by simpa using List.find?_some found
      rw [List.inj_on_of_nodup_map apart (List.mem_of_find?_eq_some found) mem same]

theorem page?_updatePage (i : PageId) {f : Page → Page} (id_ : ∀ p, (f p).id = p.id) (s : State) :
    (updatePage i f s).page? = update s.page? i ((s.page? i).map f) := by
  have test : ∀ j : PageId, ((fun q : Page => q.id == j) ∘ fun p => if p.id = i then f p else p) = fun q => q.id == j := fun j => by
    funext p
    dsimp only [Function.comp]
    split
    · rw [id_]
    · rfl
  funext j
  rw [State.page?, updatePage, List.find?_map, test]
  change (s.page? j).map _ = _
  by_cases same : j = i
  · rw [same, Function.update_self]
    cases found : s.page? i with
    | none => rfl
    | some p =>
      have named : p.id = i := by simpa using List.find?_some found
      exact congrArg some (if_pos named)
  · rw [Function.update_of_ne same]
    cases found : s.page? j with
    | none => rfl
    | some p =>
      have named : p.id = j := by simpa using List.find?_some found
      exact congrArg some (if_neg fun here => same (named.symm.trans here))

theorem page?_removePage (i : PageId) (s : State) : (removePage i s).page? = update s.page? i none := by
  funext j
  rw [State.page?, removePage, List.find?_filter]
  by_cases same : j = i
  · rw [same, Function.update_self, List.find?_eq_none]
    simp
  · rw [Function.update_of_ne same]
    refine congrArg (fun q => List.find? q s.desk.pages) (funext fun p => ?_)
    by_cases here : p.id = j
    · simp [here, same]
    · simp [here]

/-- The page that a creation makes (R155, R156). -/
def newPage (id : PageId) (source : Fin 6) (cause object : Nat) (role : StaffRole) (group : PageGroup) (closure : Closure) (s : State) :
    Page :=
  { id := id, source := source, cause := cause, object := object, role := role, group := group
    level := s.desk.levels.get source, closure := closure, state := .queued, target := none, step := 0, excluded := none
    ackTimer := none, created := s.time.clock }

theorem addPage_eq (source : Fin 6) (cause object : Nat) (role : StaffRole) (group : PageGroup) (closure : Closure) (s : State) :
    addPage source cause object role group closure s = { s with desk := { s.desk with
      pages := s.desk.pages ++ [newPage (freePageId s.desk) source cause object role group closure s]
      nextId := freePageId s.desk + 1 } } := rfl

theorem page?_append {p : Page} (fresh : s.page? p.id = none) (h : t.desk.pages = s.desk.pages ++ [p]) :
    t.page? = update s.page? p.id (some p) := by
  funext j
  rw [State.page?, h, List.find?_append]
  by_cases same : j = p.id
  · rw [same, Function.update_self]
    change (s.page? p.id).or _ = _
    rw [fresh, Option.none_or, List.find?_cons_of_pos (by simp)]
  · rw [Function.update_of_ne same, List.find?_cons_of_neg (by simpa using Ne.symm same), List.find?_nil, Option.or_none]
    rfl

/-- With fewer than 256 live pages there is an id that none of them has, and the first one from the counter on is taken (R155). -/
theorem freePageId_spec {d : PageDesk} (few : d.pages.length < 256) : ∃ k < 256, freePageId d = d.nextId + Fin.ofNat 256 k ∧
    (∀ p ∈ d.pages, p.id ≠ freePageId d) ∧ ∀ j < k, ∃ p ∈ d.pages, p.id = d.nextId + Fin.ofNat 256 j := by
  have shift : ∀ id : PageId, ∃ k < 256, id = d.nextId + Fin.ofNat 256 k := fun id =>
    ⟨(id - d.nextId).val, (id - d.nextId).isLt, by simp⟩
  have search : (((List.range 256).map fun i => d.nextId + Fin.ofNat 256 i).find? fun id => d.pages.all fun p => p.id ≠ id) =
      ((List.range 256).find? fun i => d.pages.all fun p => p.id ≠ d.nextId + Fin.ofNat 256 i).map
        fun i => d.nextId + Fin.ofNat 256 i := List.find?_map
  cases found : (List.range 256).find? fun i => d.pages.all fun p => p.id ≠ d.nextId + Fin.ofNat 256 i with
  | some k =>
    have eq : freePageId d = d.nextId + Fin.ofNat 256 k := by rw [freePageId, search, found]; rfl
    obtain ⟨free, small, before⟩ := List.find?_range_eq_some.mp found
    refine ⟨k, List.mem_range.mp small, eq, fun p hp => ?_, fun j hj => ?_⟩
    · rw [eq]
      simpa using List.all_eq_true.mp free p hp
    · simpa using before j hj
  | none =>
    have all : ∀ id : PageId, id ∈ d.pages.map (·.id) := fun id => by
      obtain ⟨k, small, rfl⟩ := shift id
      have taken := List.find?_eq_none.mp found k (List.mem_range.mpr small)
      simpa using taken
    have many : Fintype.card PageId ≤ (d.pages.map (·.id)).length :=
      (Finset.card_le_card fun id _ => List.mem_toFinset.mpr (all id)).trans (List.toFinset_card_le _)
    rw [Fintype.card_fin, List.length_map] at many
    omega

theorem fresh_freePageId (few : s.desk.pages.length ≤ 32) : s.page? (freePageId s.desk) = none := by
  obtain ⟨-, -, -, fresh, -⟩ := freePageId_spec (d := s.desk) (by omega)
  refine List.find?_eq_none.mpr fun p hp => ?_
  simpa using fresh p hp

end

/-! ### The roster -/

theorem staff_setStaff (s : State) (e : EntryId) (m : Staff) : (s.setStaff e m).staff = update s.staff e m := by
  funext d
  rw [State.staff, State.setStaff_entries, Table.get_set, Function.update_apply]
  rfl

theorem free_setFree (s : State) (r : StaffRole) (l : List EntryId) :
    (s.setFree r l).roster.free.get = update s.roster.free.get r.index l := by
  funext i
  rw [State.setFree_free, Table.get_set, Function.update_apply]

/-! ### The laws of staff and pages -/

/-- The laws of pages and of staff, an entry apart whose current page has been taken from it (R151, R155, R162). -/
structure Staffed (loose : EntryId → Prop) (s : State) : Prop where
  pages : pageLaw s
  crew : Crew loose s.page? s.staff s.roster.free.get

theorem agrees_iff (s : State) (p : Page) (e : EntryId) : targetAgrees s p e ↔ Agrees (s.staff e) p := Iff.rfl

theorem holdsPage_iff (s : State) (e : EntryId) (c : Option PageId) (st : PageState) : holdsPage s e c st ↔ Holds s.page? e c st := by
  constructor
  · rintro ⟨i, hi, p, hp, held⟩
    exact ⟨i, hi, p, hp, held⟩
  · rintro ⟨i, hi, p, hp, held⟩
    exact ⟨i, hi, p, hp, held⟩

theorem staffed_iff (s : State) : pageLaw s ∧ staffLaw s ↔ Staffed noOne s := by
  have target : ∀ p : Page, (∃ e ∈ p.target, targetAgrees s p e) ↔ ∃ e, p.target = some e ∧ Agrees (s.staff e) p := fun p => Iff.rfl
  constructor
  · rintro ⟨pages, duties, targets, lists, listed⟩
    have live := fun {i p} => page?_eq_some (s := s) (i := i) (p := p) pages.2.1
    refine ⟨pages, ⟨fun i p hp => (live.mp hp).2, fun e => (duties e).1, fun e => (duties e).2.1, fun e _ d => ?_, fun e _ d => ?_,
      fun e => ?_, fun i p hp => targets p (live.mp hp).1, fun _ l => l.elim, lists, listed⟩⟩
    · exact (holdsPage_iff ..).mp ((duties e).2.2.1 d)
    · exact (holdsPage_iff ..).mp ((duties e).2.2.2.1 d)
    · exact (duties e).2.2.2.2.imp_right (holdsPage_iff ..).mp
  · rintro ⟨pages, crew⟩
    refine ⟨pages, fun e => ⟨crew.idle e, crew.reach e, fun d => ?_, fun d => ?_, ?_⟩, fun p hp => ?_, crew.lists, crew.listed⟩
    · exact (holdsPage_iff ..).mpr (crew.paged e id d)
    · exact (holdsPage_iff ..).mpr (crew.assigned e id d)
    · exact (crew.suspended e).imp_right (holdsPage_iff ..).mpr
    · exact crew.targets p.id p ((page?_eq_some pages.2.1).mpr ⟨hp, rfl⟩)

section
variable {loose : EntryId → Prop} {s t : State}

theorem Staffed.same (h : Staffed loose s) (pages : t.desk.pages = s.desk.pages) (cancels : t.desk.cancels.length ≤ 32)
    (roster : t.roster = s.roster) : Staffed loose t := by
  refine ⟨⟨by rw [pages]; exact h.pages.1, by rw [pages]; exact h.pages.2.1, cancels⟩, ?_⟩
  have staff : t.staff = s.staff := funext fun e => by rw [State.staff, roster]; rfl
  rw [page?_of_pages pages, staff, roster]
  exact h.crew

theorem Staffed.of_same (h : Staffed loose s) (desk : t.desk = s.desk) (roster : t.roster = s.roster) : Staffed loose t :=
  h.same (by rw [desk]) (by rw [desk]; exact h.pages.2.2) roster

/-- A cancel request joins the list, which holds 32 at most (R167). -/
theorem Staffed.pushCancel (h : Staffed loose s) (r : CancelRequest) : Staffed loose (pushCancel r s) := by
  refine h.same rfl ?_ rfl
  have fits := h.pages.2.2
  unfold Machine.pushCancel cancelCapacity
  dsimp only
  split
  · rw [List.length_append]
    exact Nat.succ_le_of_lt (by assumption)
  · rw [List.length_append, List.length_drop, List.length_singleton]
    omega

/-- Pages removed or changed with their ids. -/
theorem pageLaw.shrink (h : pageLaw s) (sub : (t.desk.pages.map (·.id)).Sublist (s.desk.pages.map (·.id)))
    (cancels : t.desk.cancels = s.desk.cancels) : pageLaw t := by
  refine ⟨?_, sub.nodup h.2.1, by rw [cancels]; exact h.2.2⟩
  have := sub.length_le
  rw [List.length_map, List.length_map] at this
  exact this.trans h.1

theorem updatePage_ids {i : PageId} {f : Page → Page} (id_ : ∀ p, (f p).id = p.id) (s : State) :
    (updatePage i f s).desk.pages.map (·.id) = s.desk.pages.map (·.id) := by
  rw [updatePage, List.map_map]
  refine List.map_congr_left fun p _ => ?_
  dsimp only [Function.comp]
  split
  · exact id_ p
  · rfl

theorem removePage_ids (i : PageId) (s : State) : ((removePage i s).desk.pages.map (·.id)).Sublist (s.desk.pages.map (·.id)) :=
  List.filter_sublist.map _

/-- What closing a page does to the pages (R168). -/
theorem closePage_view (p : Page) (o : Outcome) (s : State) : (closePage p o s).page? = update s.page? p.id none ∧
    (closePage p o s).staff = s.staff ∧ (closePage p o s).roster = s.roster ∧ (closePage p o s).desk.cancels = s.desk.cancels ∧
    ((closePage p o s).desk.pages.map (·.id)).Sublist (s.desk.pages.map (·.id)) :=
  ⟨page?_removePage p.id s, rfl, rfl, rfl, removePage_ids p.id s⟩

/-- What a page's return to QUEUED does to the pages (R154, R165, R175). -/
theorem requeuePage_view (i : PageId) {f : Page → Page} (id_ : ∀ p, (f p).id = p.id) (s : State) :
    (requeuePage i f s).page? = update s.page? i ((s.page? i).map fun p =>
      { f p with state := .queued, target := none, ackTimer := none }) ∧
    (requeuePage i f s).staff = s.staff ∧ (requeuePage i f s).roster = s.roster ∧
    (requeuePage i f s).desk.cancels = s.desk.cancels ∧
    ((requeuePage i f s).desk.pages.map (·.id)).Sublist (s.desk.pages.map (·.id)) := by
  refine ⟨page?_updatePage i (f := fun p => { f p with state := .queued, target := none, ackTimer := none }) id_ s, rfl, rfl, rfl, ?_⟩
  rw [requeuePage]
  exact (updatePage_ids (f := fun p => { f p with state := .queued, target := none, ackTimer := none }) id_ s) ▸ List.Sublist.refl _

theorem untargeted_none (i : PageId) : Untargeted i none := nofun

theorem Staffed.untargeted_requeue (h : Staffed loose s) (i : PageId) {f : Page → Page} (id_ : ∀ p, (f p).id = p.id) :
    Untargeted i ((s.page? i).map fun p => { f p with state := .queued, target := none, ackTimer := none }) := fun q hq => by
  obtain ⟨p, hp, rfl⟩ := Option.map_eq_some_iff.mp hq
  exact ⟨(id_ p).trans (h.crew.named i p hp), rfl, rfl⟩

/-- A page taken from its target leaves it loose. -/
theorem Staffed.detach (h : Staffed noOne s) {i : PageId} {p : Page} {e : EntryId} {o : Option Page} (live : s.page? i = some p)
    (state : p.state = .offered ∨ p.state = .accepted) (target : p.target = some e) (after : Untargeted i o)
    (view : t.page? = update s.page? i o ∧ t.staff = s.staff ∧ t.roster = s.roster ∧ t.desk.cancels = s.desk.cancels ∧
      (t.desk.pages.map (·.id)).Sublist (s.desk.pages.map (·.id))) : Staffed (· = e) t := by
  obtain ⟨page, staff, roster, cancels, ids⟩ := view
  refine ⟨h.pages.shrink ids cancels, ?_⟩
  rw [page, staff, roster]
  exact h.crew.detach live state target after

/-- An entry is released (R163). -/
theorem Staffed.release (h : Staffed (· = e) s) : Staffed noOne (release e s) := by
  obtain ⟨on, busy, -⟩ := h.crew.gone e rfl
  unfold Machine.release
  split
  · next q held =>
    obtain ⟨j, hj, p, live, -, -⟩ := (h.crew.suspended e).resolve_left (by rw [held]; nofun)
    cases held.symm.trans hj
    refine ⟨h.pages.shrink ?_ rfl, ?_⟩
    · rw [updatePage_ids (f := fun p => { p with state := .accepted }) (fun _ => rfl)]
      exact List.Sublist.refl _
    · rw [page?_updatePage _ (f := fun p => { p with state := .accepted }) (fun _ => rfl)]
      have resumed := h.crew.resumed rfl (fun _ => id) (since := s.roster.nextStamp) held live (p' := { p with state := .accepted })
        rfl rfl rfl
      have page : (becomeAssigned e q none s).page? = s.page? := page?_of_pages rfl
      have staff : (updatePage q (fun p => { p with state := .accepted }) (becomeAssigned e q none s)).staff =
          update s.staff e { s.staff e with duty := .assigned, current := some q, suspended := none, since := s.roster.nextStamp } :=
        staff_setStaff s e _
      rw [page, staff, live]
      exact resumed
  · next unheld =>
    have alone : ∀ i p, s.page? i = some p → p.target ≠ some e := fun i p live target => by
      have := (h.crew.suspended_of_loose rfl live target).2
      rw [unheld] at this
      cases this
    have freed := h.crew.freed (fun _ => id) (h.crew.reach e on) busy alone
    refine ⟨h.pages, ?_⟩
    have page : (becomeFree e s).page? = s.page? := page?_of_pages rfl
    have staff : (becomeFree e s).staff = update s.staff e { s.staff e with duty := .free, current := none, suspended := none } :=
      staff_setStaff s e _
    have lists : (becomeFree e s).roster.free.get = update s.roster.free.get (s.staff e).role.index
        (s.freeList (s.staff e).role ++ [e]) := free_setFree (s.setStaff e _) _ _
    rw [page, staff, lists]
    exact freed

end

end Sys2Proof.Machine
end

section
/-! PROOF. Every command keeps the laws of pages and staff (O59). -/

namespace Sys2Proof.Machine

open Function (update)

section
variable {s t : State}

/-! ### Pages closed and withdrawn -/

theorem Staffed.close (h : Staffed noOne s) {i : PageId} {p : Page} {e : EntryId} (o : Outcome) (live : s.page? i = some p)
    (state : p.state = .offered ∨ p.state = .accepted) (target : p.target = some e) : Staffed noOne (Machine.release e (closePage p o s)) := by
  have named := h.crew.named i p live
  exact (h.detach (named.symm ▸ live) state target (untargeted_none _) (closePage_view p o s)).release

theorem Staffed.requeue (h : Staffed noOne s) {p : Page} {e : EntryId} (live : s.page? p.id = some p)
    (state : p.state = .offered ∨ p.state = .accepted) (target : p.target = some e) {f : Page → Page} (id_ : ∀ p, (f p).id = p.id) :
    Staffed noOne (Machine.release e (requeuePage p.id f s)) :=
  (h.detach live state target (h.untargeted_requeue p.id id_) (requeuePage_view p.id id_ s)).release

/-- A QUEUED page leaves the queue (R157). -/
theorem Staffed.closeQueued (h : Staffed noOne s) {p : Page} (o : Outcome) (live : s.page? p.id = some p) (state : p.state = .queued) :
    Staffed noOne (closePage p o s) := by
  obtain ⟨page, staff, roster, cancels, ids⟩ := closePage_view p o s
  refine ⟨h.pages.shrink ids cancels, ?_⟩
  rw [page, staff, roster]
  exact h.crew.fill (fun q hq => by cases live.symm.trans hq; exact state) (untargeted_none _)

theorem Staffed.live (h : Staffed noOne s) {p : Page} (mem : p ∈ s.desk.pages) : s.page? p.id = some p :=
  (page?_eq_some h.pages.2.1).mpr ⟨mem, rfl⟩

/-- A page is closed by a master or by its clearing event (R166, R167). -/
theorem Staffed.retire (h : Staffed noOne s) {p : Page} (o : Outcome) (live : s.page? p.id = some p) :
    Staffed noOne (retirePage p o s) := by
  unfold Machine.retirePage
  split
  · next e state target =>
    exact (h.pushCancel { page := p.id, address := (s.staff e).address }).close o (i := p.id) live (.inl state) target
  · next e state target => exact h.close o live (.inr state) target
  · next e state target =>
    obtain ⟨page, staff, roster, cancels, ids⟩ := closePage_view p o s
    have detached := h.crew.detachSuspended live state target (untargeted_none _)
    refine ⟨h.pages.shrink ids cancels, ?_⟩
    have same : ((closePage p o s).setStaff e { (closePage p o s).staff e with suspended := none }).page? = (closePage p o s).page? :=
      page?_of_pages rfl
    rw [same, page, staff_setStaff, staff]
    exact detached
  · next x y offered accepted suspended =>
    refine h.closeQueued o live ?_
    rcases h.crew.targets p.id p live with ⟨queued, -⟩ | ⟨e, target, ⟨state, -⟩ | ⟨state, -⟩ | ⟨state, -⟩⟩
    · exact queued
    · exact (offered e state target).elim
    · exact (accepted e state target).elim
    · exact (suspended e state target).elim

theorem Staffed.clear (h : Staffed noOne s) (c : Cause) (o : Nat) : Staffed noOne (clearEvent c o s) := by
  unfold clearEvent
  split
  · next p found => exact h.retire .event (h.live (List.mem_of_find?_eq_some found))
  · exact h

/-! ### Pages created -/

theorem Staffed.add (h : Staffed noOne s) (room : s.desk.pages.length < 32) (source : Fin 6) (cause object : Nat) (role : StaffRole)
    (group : PageGroup) (closure : Closure) : Staffed noOne (addPage source cause object role group closure s) := by
  have fresh := fresh_freePageId room.le
  have apart : freePageId s.desk ∉ s.desk.pages.map (·.id) := fun mem => by
    obtain ⟨p, hp, same⟩ := List.mem_map.mp mem
    rw [← same, h.live hp] at fresh
    cases fresh
  rw [addPage_eq]
  refine ⟨⟨?_, ?_, h.pages.2.2⟩, ?_⟩
  · rw [List.length_append]
    exact room
  · rw [List.map_append, List.nodup_append]
    refine ⟨h.pages.2.1, List.nodup_singleton _, fun a ha b hb same => apart ?_⟩
    rw [List.map_singleton, List.mem_singleton] at hb
    rw [same, hb] at ha
    exact ha
  · rw [page?_append (s := s) (p := newPage (freePageId s.desk) source cause object role group closure s) fresh rfl]
    refine h.crew.fill (fun p hp => ?_) fun p hp => ?_
    · cases fresh.symm.trans hp
    · cases hp
      exact ⟨rfl, rfl, rfl⟩

theorem mem_of_youngestQueued {pages : List Page} {v : Nat} {p : Page} (h : youngestQueued pages v = some p) :
    p ∈ pages ∧ p.state = .queued ∧ p.level = v := by
  have mem := List.mem_filter.mp (List.mem_of_getLast? h)
  simpa using mem

theorem Staffed.raise (h : Staffed noOne s) (c : Cause) (g : PageGroup) (o : Nat) : Staffed noOne (Machine.raise c g o s) := by
  unfold Machine.raise
  split
  · exact h
  split
  · next room => exact h.add room _ _ _ _ _ _
  dsimp only
  split
  · next p dropped =>
    have queued : p ∈ s.desk.pages ∧ p.state = .queued := by
      split at dropped
      · split at dropped
        · exact ⟨(mem_of_youngestQueued dropped).1, (mem_of_youngestQueued dropped).2.1⟩
        · cases dropped
      · cases dropped
    refine (h.closeQueued .dropped (h.live queued.1) queued.2).add ?_ _ _ _ _ _ _
    have less : (s.desk.pages.filter fun q => q.id ≠ p.id).length < s.desk.pages.length :=
      List.length_filter_lt_length_iff_exists.mpr ⟨p, queued.1, by simp⟩
    exact less.trans_le h.pages.1
  · exact h.of_same rfl rfl

/-! ### Answers, expiries and grants -/

/-- A page changed in its fields apart from its id, its state and its target. -/
theorem Staffed.touch (h : Staffed noOne s) (i : PageId) {f : Page → Page} (id_ : ∀ p, (f p).id = p.id)
    (state : ∀ p, (f p).state = p.state) (target : ∀ p, (f p).target = p.target) : Staffed noOne (updatePage i f s) := by
  refine ⟨h.pages.shrink ((updatePage_ids id_ s) ▸ List.Sublist.refl _) rfl, ?_⟩
  have touched := h.crew.touch (fun j p => if j = i then f p else p) (fun j p => by split; exacts [id_ p, rfl])
    (fun j p => by split; exacts [state p, rfl]) fun j p => by split; exacts [target p, rfl]
  have view : (updatePage i f s).page? = fun j => (s.page? j).map fun p => if j = i then f p else p := by
    rw [page?_updatePage i id_]
    funext j
    by_cases same : j = i
    · rw [same, Function.update_self]
      simp
    · rw [Function.update_of_ne same]
      simp [same]
  rw [view]
  exact touched

theorem Staffed.ackExpiry (h : Staffed noOne s) {p : Page} (live : s.page? p.id = some p) : Staffed noOne (Machine.ackExpiry p s) := by
  unfold Machine.ackExpiry
  split
  · next e state target =>
    split
    · exact (h.touch p.id (f := fun p => { p with step := 1, ackTimer := none }) (fun _ => rfl) (fun _ => rfl) fun _ => rfl).same rfl
        h.pages.2.2 rfl
    · exact h.requeue live (.inl state) target (f := fun p => { p with step := 2, excluded := some e }) fun _ => rfl
    · exact h.requeue live (.inl state) target
        (f := fun p => { p with step := 3, role := .captain, group := .any, excluded := some e }) fun _ => rfl
    · exact h.close _ live (.inl state) target
  · exact h

theorem Staffed.withdraw (h : Staffed noOne s) {p : Page} (live : s.page? p.id = some p) : Staffed noOne (withdrawPage p s) := by
  unfold withdrawPage
  split
  · next e state target => exact h.requeue live (.inl state) target (f := fun p => p) fun _ => rfl
  · exact h

theorem Staffed.takeAnswer (h : Staffed noOne s) {x : PagerAnswer} {p : Page} {e : EntryId} (live : s.page? p.id = some p)
    (fits : x.fits p.state = true) (target : p.target = some e) : Staffed noOne (Machine.takeAnswer x p e s) := by
  cases x with
  | accept =>
    have offered : p.state = .offered := by simpa [PagerAnswer.fits] using fits
    unfold Machine.takeAnswer answerAccept
    dsimp only
    split
    · exact h.close _ live (.inl offered) target
    all_goals
      have accepted := h.crew.accepted live offered target (p' := { p with state := .accepted, ackTimer := none })
        (since := s.roster.nextStamp) rfl rfl rfl
      refine ⟨h.pages.shrink ?_ rfl, ?_⟩
      · exact (updatePage_ids (i := p.id) (f := fun p => { p with state := .accepted, ackTimer := none }) (fun _ => rfl) s) ▸
          List.Sublist.refl _
      · have page : (becomeAssigned e p.id (s.staff e).suspended (dropReoffer p.id (updatePage p.id (fun p =>
            { p with state := .accepted, ackTimer := none }) s))).page? =
            (updatePage p.id (fun p => { p with state := .accepted, ackTimer := none }) s).page? := page?_of_pages rfl
        have staff : (becomeAssigned e p.id (s.staff e).suspended (dropReoffer p.id (updatePage p.id (fun p =>
            { p with state := .accepted, ackTimer := none }) s))).staff = update s.staff e { s.staff e with
              duty := .assigned, current := some p.id, since := s.roster.nextStamp } := staff_setStaff s e _
        have view := page?_updatePage p.id (f := fun p => { p with state := .accepted, ackTimer := none }) (fun _ => rfl) s
        rw [live] at view
        change Crew _ (becomeAssigned e p.id (s.staff e).suspended _).page? (becomeAssigned e p.id (s.staff e).suspended _).staff _
        rw [page, staff, view]
        exact accepted
  | decline =>
    have offered : p.state = .offered := by simpa [PagerAnswer.fits] using fits
    exact h.requeue live (.inl offered) target (f := fun p => { p with step := max 2 p.step, excluded := some e }) fun _ => rfl
  | done =>
    have state : p.state = .offered ∨ p.state = .accepted := by simpa [PagerAnswer.fits] using fits
    exact h.close _ live state target

end

end Sys2Proof.Machine
end

section
/-! PROOF. Staff going on and off duty, the grants of the arbiter and the events of the link keep pages and staff together
(R153, R154, R160 to R162, R174 to R178). -/

namespace Sys2Proof.Machine

open Function (update)

/-! ### Duty -/

/-- A page that goes back to QUEUED (R154). -/
def requeued (p : Page) : Page := { p with state := .queued, target := none, ackTimer := none }

theorem pageLaw.pushCancel {s : State} (law : pageLaw s) (r : CancelRequest) : pageLaw (pushCancel r s) := by
  refine ⟨law.1, law.2.1, ?_⟩
  have fits := law.2.2
  unfold Machine.pushCancel cancelCapacity
  dsimp only
  split
  · rw [List.length_append]
    exact Nat.succ_le_of_lt (by assumption)
  · rw [List.length_append, List.length_drop, List.length_singleton]
    omega

/-- What the pages of an entry that goes off duty come to. -/
theorem requeue_view (i : PageId) {s u : State} (pages : u.desk.pages = s.desk.pages) (law : pageLaw s → pageLaw u) :
    ((requeuePage i (fun p => p) u).page? = fun j => if j = i then (s.page? j).map requeued else s.page? j) ∧
    (pageLaw s → pageLaw (requeuePage i (fun p => p) u)) := by
  obtain ⟨page, -, -, cancels, ids⟩ := requeuePage_view i (f := fun p => p) (fun _ => rfl) u
  refine ⟨?_, fun h => (law h).shrink ids cancels⟩
  rw [page, page?_of_pages pages]
  funext j
  by_cases same : j = i
  · rw [same, Function.update_self, if_pos rfl]
    rfl
  · rw [Function.update_of_ne same, if_neg same]

theorem dropCurrent_view (m : Staff) (s : State) :
    ((dropCurrent m s).page? = fun j => if some j = m.current then (s.page? j).map requeued else s.page? j) ∧
    (dropCurrent m s).roster = s.roster ∧ (pageLaw s → pageLaw (dropCurrent m s)) := by
  unfold dropCurrent
  split
  · next i held =>
    have asked : ∀ p : Page, (if p.state = .offered then pushCancel { page := i, address := m.address } s else s).desk.pages =
        s.desk.pages ∧ (if p.state = .offered then pushCancel { page := i, address := m.address } s else s).roster = s.roster ∧
        (pageLaw s → pageLaw (if p.state = .offered then pushCancel { page := i, address := m.address } s else s)) := fun p => by
      split
      · exact ⟨rfl, rfl, fun h => h.pushCancel _⟩
      · exact ⟨rfl, rfl, id⟩
    rw [held]
    split
    · next p _ =>
      obtain ⟨pages, roster, law⟩ := asked p
      obtain ⟨page, kept⟩ := requeue_view i pages law
      exact ⟨by simpa using page, roster, kept⟩
    · obtain ⟨page, kept⟩ := requeue_view i (rfl : s.desk.pages = s.desk.pages) id
      exact ⟨by simpa using page, rfl, kept⟩
  · next held => exact ⟨by simp [held], rfl, id⟩

theorem dropSuspended_view (m : Staff) (s : State) :
    ((dropSuspended m s).page? = fun j => if some j = m.suspended then (s.page? j).map requeued else s.page? j) ∧
    (dropSuspended m s).roster = s.roster ∧ (pageLaw s → pageLaw (dropSuspended m s)) := by
  unfold dropSuspended
  split
  · next i held =>
    obtain ⟨page, kept⟩ := requeue_view i (rfl : s.desk.pages = s.desk.pages) id
    exact ⟨by simpa [held] using page, rfl, kept⟩
  · next held => exact ⟨by simp [held], rfl, id⟩

theorem staff_of_roster {s t : State} (h : t.roster = s.roster) : t.staff = s.staff := funext fun e => by
  rw [State.staff, h]
  rfl

/-- What leaving the free list does to the lists. -/
theorem leaveFree_free (e : EntryId) (s : State) : (leaveFree e s).roster.free.get =
    update s.roster.free.get (s.staff e).role.index ((s.roster.free.get (s.staff e).role.index).filter (· ≠ e)) := free_setFree _ _ _

section
variable {s : State} (h : Staffed noOne s)
include h

theorem Staffed.goOffDuty (e : EntryId) : Staffed noOne (goOffDuty e s) := by
  obtain ⟨first, roster, law⟩ := dropCurrent_view (s.staff e) (leaveFree e s)
  obtain ⟨second, roster', law'⟩ := dropSuspended_view (s.staff e) (dropCurrent (s.staff e) (leaveFree e s))
  rw [goOffDuty_eq]
  dsimp only
  generalize dropSuspended (s.staff e) (dropCurrent (s.staff e) (leaveFree e s)) = t at second roster' law' ⊢
  have rostered : t.roster = (leaveFree e s).roster := roster'.trans roster
  refine ⟨law' (law h.pages), ?_⟩
  have off := h.crew.offDuty (e := e) (page' := t.page?) fun i => by
    rw [second, first]
    dsimp only
    have page : (leaveFree e s).page? i = s.page? i := rfl
    rw [page]
    by_cases current : some i = (s.staff e).current
    · by_cases suspended : some i = (s.staff e).suspended
      · rw [if_pos suspended, if_pos current, if_pos (.inl current), Option.map_map]
        rfl
      · rw [if_neg suspended, if_pos current, if_pos (.inl current)]
        rfl
    · by_cases suspended : some i = (s.staff e).suspended
      · rw [if_pos suspended, if_neg current, if_pos (.inr suspended)]
        rfl
      · rw [if_neg suspended, if_neg current, if_neg (by simp [current, suspended])]
  have staff : t.staff = s.staff := (staff_of_roster rostered).trans rfl
  have page : (t.setStaff e { t.staff e with duty := .offDuty, current := none, suspended := none }).page? = t.page? :=
    page?_of_pages rfl
  have free : (t.setStaff e { t.staff e with duty := .offDuty, current := none, suspended := none }).roster.free.get =
      (leaveFree e s).roster.free.get := by rw [← rostered]; rfl
  rw [page, free, staff_setStaff, staff, leaveFree_free]
  exact off

/-- An OFF_DUTY entry comes on duty (R153). -/
theorem Staffed.becomeFree {e : EntryId} (reach : (s.staff e).address ≠ 0) (off : (s.staff e).duty = .offDuty) :
    Staffed noOne (becomeFree e s) := by
  have freed := h.crew.freed (fun _ => False.elim) reach (by rw [off]; nofun) fun i p live => h.crew.no_page_of_idle (.inl off) live
  refine ⟨h.pages, ?_⟩
  have page : (Machine.becomeFree e s).page? = s.page? := page?_of_pages rfl
  have staff : (Machine.becomeFree e s).staff = update s.staff e
    { s.staff e with duty := .free, current := none, suspended := none } := staff_setStaff s e _
  have lists : (Machine.becomeFree e s).roster.free.get = update s.roster.free.get (s.staff e).role.index
    (s.freeList (s.staff e).role ++ [e]) := free_setFree (s.setStaff e _) _ _
  rw [page, staff, lists]
  exact freed

theorem Staffed.set {e : EntryId} (off : (s.staff e).duty = .offDuty) (address : Nat) (role : StaffRole) (group : Fin 8) :
    Staffed noOne (s.setStaff e { s.staff e with address := address, role := role, group := group }) := by
  refine ⟨h.pages, ?_⟩
  have page : (s.setStaff e { s.staff e with address := address, role := role, group := group }).page? = s.page? := page?_of_pages rfl
  rw [page, staff_setStaff]
  exact h.crew.set off address role group

end

/-! ### The arbiter's choice -/

theorem mem_sortBy {α : Type} {before : α → α → Bool} {l : List α} {a : α} : a ∈ sortBy before l ↔ a ∈ l := by
  rw [sortBy_eq]
  exact (List.perm_insertionSort _ l).mem_iff

theorem nextOffer_spec {s : State} {p : Page} {e : EntryId} (h : nextOffer s = some (p, e)) :
    p ∈ s.desk.pages ∧ p.state = .queued ∧ candidate s p = some e := by
  obtain ⟨q, head, paired⟩ := Option.bind_eq_some_iff.mp h
  obtain ⟨d, found, same⟩ := Option.map_eq_some_iff.mp paired
  cases same
  have mem := List.mem_filter.mp (mem_sortBy.mp (List.mem_of_mem_head? head))
  simp only [Bool.and_eq_true, beq_iff_eq] at mem
  exact ⟨mem.1, mem.2.1, found⟩

theorem freeCandidate_spec {s : State} {p : Page} {e : EntryId} (h : freeCandidate s p = some e) :
    e ∈ s.freeList p.role ∧ entryMatches s p e = true :=
  ⟨List.mem_of_find?_eq_some h, List.find?_some h⟩

theorem preemptionCandidate_spec {s : State} {p : Page} {e : EntryId} (h : preemptionCandidate s p = some e) :
    p.level = 3 ∧ entryMatches s p e = true ∧ (s.staff e).duty = .assigned ∧ (s.staff e).suspended = none ∧
      ∃ i q, (s.staff e).current = some i ∧ s.page? i = some q ∧ q.level ≤ 2 := by
  unfold preemptionCandidate at h
  split at h
  · cases h
  · next level =>
    have mem := (List.mem_filter.mp (mem_sortBy.mp (List.mem_of_mem_head? h))).2
    simp only [Bool.and_eq_true, beq_iff_eq, Option.isNone_iff_eq_none] at mem
    obtain ⟨⟨⟨fits, duty⟩, suspended⟩, low⟩ := mem
    refine ⟨not_not.mp level, fits, duty, suspended, ?_⟩
    split at low
    · next l held =>
      obtain ⟨q, live, rfl⟩ := Option.map_eq_some_iff.mp held
      obtain ⟨i, current, found⟩ := Option.bind_eq_some_iff.mp live
      exact ⟨i, q, current, found, of_decide_eq_true low⟩
    · cases low

theorem candidate_spec {s : State} {p : Page} {e : EntryId} (h : candidate s p = some e) :
    freeCandidate s p = some e ∨ (freeCandidate s p = none ∧ preemptionCandidate s p = some e) := by
  unfold candidate at h
  split at h
  · next d found => exact .inl (found.trans h)
  · next none_ => exact .inr ⟨none_, h⟩

/-! ### Offers -/

/-- A page put on offer to an entry (R162). -/
def offered (e : EntryId) (p : Page) : Page := { p with state := .offered, target := some e, ackTimer := none }

theorem offerPage_of_free {s : State} {p : Page} {e : EntryId} (idle : (s.staff e).duty = .free) : offerPage p e s =
    sendPage p (s.staff e).address ((leaveFree e (updatePage p.id (offered e) s)).setStaff e
      { s.staff e with duty := .paged, current := some p.id }) := by
  unfold offerPage
  simp only [idle]
  rfl

theorem offerPage_of_assigned {s : State} {p : Page} {e : EntryId} {i : PageId} (assigned : (s.staff e).duty = .assigned)
    (current : (s.staff e).current = some i) : offerPage p e s =
    sendPage p (s.staff e).address ((updatePage i (fun p => { p with state := .suspended }) (updatePage p.id (offered e) s)).setStaff e
      { s.staff e with duty := .paged, current := some p.id, suspended := some i }) := by
  unfold offerPage
  simp only [assigned, current]
  rfl

theorem Staffed.offer {s : State} (h : Staffed noOne s) {p : Page} {e : EntryId} (live : s.page? p.id = some p) (queued : p.state = .queued)
    (chosen : candidate s p = some e) : Staffed noOne (offerPage p e s) := by
  have view := page?_updatePage p.id (f := offered e) (fun _ => rfl) s
  rw [live, Option.map_some] at view
  have ids := updatePage_ids (i := p.id) (f := offered e) (fun _ => rfl) s
  rcases candidate_spec chosen with found | ⟨-, found⟩
  · have idle : (s.staff e).duty = .free := ((h.crew.listed e _).mp (freeCandidate_spec found).1).2
    rw [offerPage_of_free idle]
    refine ⟨h.pages.shrink (ids ▸ List.Sublist.refl _) rfl, ?_⟩
    have done := h.crew.offered live queued idle (p' := offered e p) rfl rfl rfl
    rw [← view] at done
    have staff := staff_setStaff (leaveFree e (updatePage p.id (offered e) s)) e
      { s.staff e with duty := .paged, current := some p.id }
    change Crew noOne (updatePage p.id (offered e) s).page? (State.setStaff _ e _).staff (leaveFree e s).roster.free.get
    rw [staff, leaveFree_free]
    exact done
  · obtain ⟨-, -, assigned, alone, i, q, current, held, -⟩ := preemptionCandidate_spec found
    have apart : i ≠ p.id := fun same => by
      obtain ⟨j, hj, x, hx, state, -⟩ := h.crew.assigned e id assigned
      cases current.symm.trans hj
      rw [same] at hx
      cases live.symm.trans hx
      rw [state] at queued
      cases queued
    have view' := page?_updatePage i (f := fun p : Page => { p with state := .suspended }) (fun _ => rfl) (updatePage p.id (offered e) s)
    rw [view, Function.update_of_ne apart, held, Option.map_some] at view'
    rw [offerPage_of_assigned assigned current]
    have ids' := updatePage_ids (i := i) (f := fun p : Page => { p with state := .suspended }) (fun _ => rfl)
      (updatePage p.id (offered e) s)
    refine ⟨h.pages.shrink ((ids'.trans ids) ▸ List.Sublist.refl _) rfl, ?_⟩
    have done := h.crew.preempted live queued assigned current alone held (p' := offered e p)
      (q' := { q with state := .suspended }) rfl rfl rfl rfl rfl rfl
    rw [← view'] at done
    have staff := staff_setStaff (updatePage i (fun p => { p with state := .suspended }) (updatePage p.id (offered e) s)) e
      { s.staff e with duty := .paged, current := some p.id, suspended := some i }
    change Crew noOne (updatePage i _ (updatePage p.id (offered e) s)).page? (State.setStaff _ e _).staff s.roster.free.get
    rw [staff]
    exact done

section
variable {s : State} (h : Staffed noOne s)
include h

theorem Staffed.grantCancel : Staffed noOne (grantCancel s) := by
  have fits := h.pages.2.2
  unfold Machine.grantCancel
  split
  · next r rest cancels =>
    split
    · refine h.same rfl ?_ rfl
      rw [cancels] at fits
      exact (Nat.le_succ _).trans fits
    · exact h
  · exact h

theorem Staffed.grantReOffer : Staffed noOne (grantReOffer s) := by
  unfold Machine.grantReOffer
  split
  · split
    · dsimp only
      split
      · split
        · exact h.same rfl h.pages.2.2 rfl
        · exact h.same rfl h.pages.2.2 rfl
      · exact h.same rfl h.pages.2.2 rfl
    · exact h
  · exact h

theorem Staffed.grantOffer : Staffed noOne (grantOffer s) := by
  unfold Machine.grantOffer
  split
  · split
    · next p e next =>
      obtain ⟨mem, queued, chosen⟩ := nextOffer_spec next
      exact h.offer (h.live mem) queued chosen
    · exact h
  · exact h

end

/-! ### The link -/

theorem offeredTo_spec {s : State} {i : PageId} {a : Nat} {p : Page} (h : offeredTo s i a = some p) : s.page? i = some p :=
  (Option.filter_eq_some_iff.mp h).1

section
variable {s : State} (h : Staffed noOne s)
include h

theorem Staffed.live_of (i : PageId) {p : Page} (found : s.page? i = some p) : s.page? p.id = some p := by
  rw [h.crew.named i p found]
  exact found

theorem Staffed.sent (i : PageId) : Staffed noOne (sentMessage i s) := by
  have ended : Staffed noOne (endMessage s) := h.of_same rfl rfl
  unfold sentMessage
  dsimp only
  split
  · next j a _ =>
    split
    · split
      · exact ended.touch j (f := fun p => { p with ackTimer := _ }) (fun _ => rfl) (fun _ => rfl) fun _ => rfl
      · exact ended
    · exact h.of_same rfl rfl
  · split
    · exact ended
    · exact h.of_same rfl rfl
  all_goals exact h.of_same rfl rfl

theorem Staffed.unreachable (i : PageId) : Staffed noOne (unreachableMessage i s) := by
  have ended : Staffed noOne (endMessage s) := h.of_same rfl rfl
  unfold unreachableMessage
  dsimp only
  split
  · split
    · split
      · next p found => exact ended.ackExpiry (ended.live_of _ (offeredTo_spec found))
      · exact ended
    · exact h.of_same rfl rfl
  all_goals exact h.of_same rfl rfl

theorem Staffed.ack (i : PageId) (a x : Nat) : Staffed noOne (ackMessage i a x s) := by
  unfold ackMessage
  split
  · next y p answer found =>
    split
    · next e target =>
      split
      · next fits => exact h.takeAnswer (h.live_of i found) fits.1 target
      · exact h.of_same rfl rfl
    · exact h.of_same rfl rfl
  · exact h.of_same rfl rfl

theorem Staffed.timeOut (o : Outstanding) : Staffed noOne (timeOutMessage o s) := by
  unfold timeOutMessage
  split
  · split
    · next p found => exact h.withdraw (h.live_of _ (offeredTo_spec found))
    · exact h
  · split
    · next room => exact h.same rfl (Nat.succ_le_of_lt room) rfl
    · exact h
  all_goals exact h

theorem Staffed.responseExpiry : Staffed noOne (responseExpiry s) := by
  have linked : ∀ l, Staffed noOne { s with link := l } := fun _ => h.of_same rfl rfl
  unfold Machine.responseExpiry
  split
  · exact h
  dsimp only
  split
  · split
    · exact ((linked _).timeOut _).of_same rfl rfl
    · exact (linked _).timeOut _
  · exact linked _

end

end Sys2Proof.Machine
end

section
/-! PROOF. Every command keeps the laws of pages and staff (R151, R155, R162; O59). -/

namespace Sys2Proof.Machine

section
variable {s t : State}

theorem moveZone_desk (z : ZoneId) (st : ZoneState) (s : State) : SameDesk s (moveZone z st s) := by
  have changed : SameDesk s (s.changeZone z fun r => r.enter st) := ⟨State.changeZone_desk _ _ _, State.changeZone_roster _ _ _⟩
  exact changed.trans (SameDesk.of_within (testPermit_within _) (by simp))

theorem leaving_desk (z : ZoneId) (st : ZoneState) (s : State) : SameDesk s (leaving z st s) :=
  (moveZone_desk z st s).trans ((SameDesk.of_within (zeroMinimums_within z _) (by simp)).trans
    (SameDesk.of_within (cutLoads_touches _ _).within (by simp)))

theorem refreshStandby_desk (z : ZoneId) (s : State) : SameDesk s (refreshStandby z s) := by
  unfold refreshStandby
  split
  · split
    · split
      · split
        · exact .refl s
        · exact .refl s
      · exact .refl s
    · exact .refl s
  · exact .refl s

theorem CourseEdit.desk (h : CourseEdit s t) : SameDesk s t := by
  cases h <;> exact .refl s

/-! ### What the field side does to pages and staff -/

/-- A command keeps the laws of pages and staff. -/
def KeepsStaff (s t : State) : Prop := Staffed noOne s → Staffed noOne t

theorem KeepsStaff.refl (s : State) : KeepsStaff s s := id

theorem KeepsStaff.trans {u : State} (h : KeepsStaff s t) (k : KeepsStaff t u) : KeepsStaff s u := k ∘ h

theorem KeepsStaff.of_desk (h : SameDesk s t) : KeepsStaff s t := fun law => law.of_same h.1 h.2

theorem KeepsStaff.of_within {bs : List Block} (h : Within bs s t) (apart : Block.paging ∉ bs) : KeepsStaff s t :=
  .of_desk (.of_within h apart)

theorem staffed_zoneOps : ZoneOps KeepsStaff where
  refl := KeepsStaff.refl
  trans := KeepsStaff.trans
  post _ _ _ s := .of_desk (.refl s)
  raise c g o _ law := law.raise c g o
  clear c o _ law := law.clear c o
  opened _ _ s _ _ := .of_desk (.refl s)
  closed _ s := .of_desk (.refl s)
  woken _ s := .of_desk (.refl s)
  refresh z s := .of_desk (refreshStandby_desk z s)
  wake z s _ := .of_desk (moveZone_desk _ _ _)
  reserve z c n s _ := .of_desk ⟨State.changeZone_desk _ _ _, State.changeZone_roster _ _ _⟩
  courses h := .of_desk h.desk
  move z st _ s _ _ _ _ := .of_desk (moveZone_desk z st s)
  leave z st _ s _ _ _ := .of_desk (leaving_desk z st s)
  edit _ _ _ s _ _ := .of_desk (.refl s)
  cabinet _ _ _ _ _ := .of_desk ⟨State.changeZone_desk _ _ _, State.changeZone_roster _ _ _⟩
  define _ _ _ _ _ _ _ s _ _ := .of_desk (.refl s)
  ware _ _ s := .of_desk (.refl s)
  scan _ s := .of_desk (.refl s)
  line _ s _ _ _ := .of_desk (.refl s)
  lower _ _ _ := .of_within (lowerMinimums_within _ _ _) (by simp)
  head s := .of_desk (.refl s)
  port _ _ s := .of_desk (.refl s)

theorem stagedMove_staffed (s : State) : KeepsStaff s (stagedMove s) := fun law => by
  have desk := stagedMove_desk s
  split at desk
  · exact (law.clear .feedSag 0).of_same desk.1 desk.2
  · exact law.of_same desk.1 desk.2

theorem frameBoundary_staffed (s : State) : KeepsStaff s (frameBoundary s) := fun law => by
  obtain ⟨p, shape⟩ := frameBoundary_shape s
  have moved : Staffed noOne (boundaryMoved s) := stagedMove_staffed { s with time := newFrameTime s.time } (law.of_same rfl rfl)
  rw [shape, buildFrame_eq]
  exact moved.of_same rfl rfl

theorem enterSag_staffed (s : State) : KeepsStaff s (enterSag s) := fun law => by
  have discarded : SameDesk s (testPermit (discardFrame { s with feed := s.feed.sagged })) :=
    (SameDesk.of_within (discardFrame_touches { s with feed := s.feed.sagged }).within (by simp)).trans
      (SameDesk.of_within (testPermit_within _) (by simp))
  rw [enterSag_eq]
  generalize testPermit (discardFrame { s with feed := s.feed.sagged }) = t at discarded ⊢
  exact ((law.of_same discarded.1 discarded.2).raise .feedSag .any 0).of_same rfl rfl

theorem feedConversion_staffed (code : BitVec 12) (s : State) : KeepsStaff s (feedConversion code s) := by
  have stored : ∀ f, KeepsStaff s { s with feed := f } := fun _ => .of_desk (.refl s)
  unfold feedConversion testFeed
  dsimp only
  split
  · split
    · split
      · exact (stored _).trans (.of_desk (enterRestoreWait_desk _))
      · exact stored _
    · exact stored _
  · split
    · split
      · exact (stored _).trans (enterSag_staffed _)
      · exact stored _
    · exact stored _

/-! ### What every command does to pages and staff -/

theorem effect_staffed {i : Instr} (s : State) (running : isReset i = false) : KeepsStaff s (effect i s) := by
  by_cases quiet : Block.paging ∉ writes i
  · exact .of_within (effect_within running s) quiet
  rw [not_not] at quiet
  have left : ∀ why, KeepsStaff s (refuse why s).state := fun _ => .refl s
  by_cases zones : ((writes i).contains .zones && !(writes i).contains .time) = true
  · simp only [Bool.and_eq_true, Bool.not_eq_true', List.contains_iff_mem, Bool.eq_false_iff, ne_eq] at zones
    exact staffed_zoneOps.effect i s zones.1 zones.2 fun _ _ _ _ _ _ _ _ => .of_desk (leaving_desk _ _ _)
  cases i
  case linePurge =>
    exact foldl_related KeepsStaff.refl KeepsStaff.trans (fun s r => condemn r (dropHead s))
      (fun s r => (staffed_zoneOps.head s).trans (staffed_zoneOps.condemn r _)) s.line.racks s
  case staffSet => exact staffSet_cases (motive := fun a => KeepsStaff s a.state) left fun _ _ _ off law => law.set off _ _ _
  case staffDuty =>
    exact staffDuty_cases (motive := fun a => KeepsStaff s a.state) left (.refl s) (fun _ reach off law => law.becomeFree reach off)
      fun e _ law => law.goOffDuty e
  case pageSend => exact pageSend_cases (motive := fun a => KeepsStaff s a.state) left fun _ _ _ room law => law.add room _ _ _ _ _ _
  case pageDone =>
    exact pageDone_cases (motive := fun a => KeepsStaff s a.state) left fun i _ live law => law.retire _ (law.live_of i live)
  case pageLevels =>
    exact pageLevels_cases (motive := fun a => KeepsStaff s a.state) left fun _ law => law.same rfl law.pages.2.2 rfl
  case pageTiming =>
    exact pageTiming_cases (motive := fun a => KeepsStaff s a.state) left fun law => law.same rfl law.pages.2.2 rfl
  case ackTimerExpiry i =>
    rw [effect_event (f := ackTimerExpiry i) rfl, ackTimerExpiry]
    split
    · next p live =>
      split
      · exact fun law => law.ackExpiry (law.live_of i live)
      · exact .refl s
    · exact .refl s
  case sliceAdvance =>
    rw [effect_event (f := sliceAdvance) rfl, sliceAdvance]
    split
    · exact .of_desk (.refl s)
    · exact frameBoundary_staffed s
  case frameBoundary => rw [effect_event (f := frameBoundary) rfl]; exact frameBoundary_staffed s
  case feedConversion code => rw [effect_event (f := feedConversion code) rfl]; exact feedConversion_staffed code s
  case offer => exact fun law => law.grantOffer
  case reOffer => exact fun law => law.grantReOffer
  case cancel => exact fun law => law.grantCancel
  case sent i => rw [effect_event (f := sentMessage i) rfl]; exact fun law => law.sent i
  case unreachable i => rw [effect_event (f := unreachableMessage i) rfl]; exact fun law => law.unreachable i
  case ack i a x => rw [effect_event (f := ackMessage i a x) rfl]; exact fun law => law.ack i a x
  case responseTimerExpiry => rw [effect_event (f := responseExpiry) rfl]; exact fun law => law.responseExpiry
  all_goals first
    | exact (not_writes (List.mem_singleton_self _) quiet rfl).elim
    | exact (zones rfl).elim

end

/-! ### What every step does to pages and staff -/

theorem Staffed.tick {s : State} (h : Staffed noOne s) : Staffed noOne (countTick s) := by
  have ids : ∀ l : List Page, (l.map fun p => { p with ackTimer := countDown p.ackTimer }).map (·.id) = l.map (·.id) := fun l => by
    rw [List.map_map]
    rfl
  rw [countTick_eq]
  refine ⟨h.pages.shrink ((ids s.desk.pages) ▸ List.Sublist.refl _) rfl, ?_⟩
  have view : ∀ t : State, (t.desk.pages = s.desk.pages.map fun p => { p with ackTimer := countDown p.ackTimer }) →
      t.page? = fun i => (s.page? i).map fun p => { p with ackTimer := countDown p.ackTimer } := fun t pages => by
    funext i
    rw [State.page?, pages, List.find?_map]
    rfl
  rw [view _ rfl]
  exact h.crew.touch (fun _ p => { p with ackTimer := countDown p.ackTimer }) (fun _ _ => rfl) (fun _ _ => rfl) fun _ _ => rfl

theorem Staffed.framed {s : State} (h : Staffed noOne s) (p : PortId) : Staffed noOne (takeFrame p s) := by
  unfold takeFrame
  dsimp only
  split
  · exact (Staffed.clear (s := s.setPort p { s.ports.get p with silent := false }) (h.of_same rfl rfl) .portSilent p.val).of_same rfl rfl
  · exact h.of_same rfl rfl

theorem staffed_kept : KeptBy (Staffed noOne) where
  queue _ _ h := h.of_same rfl rfl
  counted _ h := h.tick
  opened p _ _ h := (h.framed p).of_same rfl rfl
  ignored _ _ h := h.of_same rfl rfl
  refused _ _ _ h := h.of_same rfl rfl
  requests e s h := by
    have done := effect_staffed s (notReset_of_meaning e (by simp)) h
    rw [effect_request e] at done
    exact done.of_same rfl rfl
  events e s h := by
    rw [← effect_event e]
    exact effect_staffed s (notReset_of_meaning e (by simp)) h
  grants e s h := by
    have done := effect_staffed s (notReset_of_meaning e (by simp)) h
    rwa [Machine.effect, e] at done
  resets e s h := by
    rcases meaning_reset_cases e s with same | ⟨chip, ports, reset, -⟩
    · rw [same]; exact h
    · rw [reset]
      exact (staffed_iff _).mp ⟨resetBlocks_page _ _ _, resetBlocks_staffLaw _ _ _⟩

/-- Settles O59. -/
theorem everyStepKeepsStaffAndPages : Obligations.EveryStepKeepsStaffAndPages := by
  intro s w
  rw [staffed_iff s, staffed_iff w]
  exact fun law stepped => staffed_kept.step law stepped

end Sys2Proof.Machine
end

section
/-! PROOF. Reports and restock tests at one zone (R128 to R134), and the entries of a zone into its states (04 section 4.4). -/

namespace Sys2Proof.Machine

section
variable {s w : State}

theorem within_restock (s : State) (l : List RestockTask) : Within [.restock] s { s with restock := l } :=
  ⟨rfl, rfl, rfl, fun b hb => by cases b <;> simp_all [SameBlock]⟩

theorem changeZone_within (z : ZoneId) (f : Zone → Zone) (s : State) : Within [.zones] s (s.changeZone z f) := by
  unfold State.changeZone
  split
  · exact within_zones s _
  · exact Within.refl _ s

theorem changeZone_of {z : ZoneId} {r : Zone} (zone : s.zones.get z = some r) (f : Zone → Zone) :
    s.changeZone z f = s.setZone z (f r) := by rw [State.changeZone, zone]

theorem setZone_get (s : State) (z y : ZoneId) (r : Zone) :
    (s.setZone z r).zones.get y = if y = z then some r else s.zones.get y := by
  rw [State.setZone_zones, Table.get_set]

theorem moveZone_within (z : ZoneId) (st : ZoneState) (s : State) : Within [.zones, .permit, .ports] s (moveZone z st s) :=
  ((changeZone_within z _ s).mono (by simp)).trans ((testPermit_within _).mono (by simp))

theorem moveZone_of {z : ZoneId} {r : Zone} (zone : s.zones.get z = some r) (st : ZoneState) :
    (moveZone z st s).zones = s.zones.set z (some (r.enter st)) := by
  rw [moveZone_zones, changeZone_of zone]
  rfl

theorem refreshStandby_within (z : ZoneId) (s : State) : Within [.zones] s (refreshStandby z s) := by
  unfold refreshStandby
  split
  · split
    · split
      · split
        · exact Within.refl _ s
        · exact within_zones s _
      · exact within_zones s _
    · exact Within.refl _ s
  · exact Within.refl _ s

theorem wakeStandby_within (z : ZoneId) (s : State) : Within [.zones, .permit, .ports] s (wakeStandby z s) := by
  unfold wakeStandby
  split
  · exact moveZone_within _ _ _
  · exact Within.refl _ s

/-- A report changes the zones, the permit and the notices alone (R134). -/
theorem report_within (z : ZoneId) (wakes : Bool) (s : State) : Within [.zones, .permit, .ports] s (report z wakes s) := by
  have first := (refreshStandby_within z s).mono (cs := [.zones, .permit, .ports]) (by simp)
  unfold report
  dsimp only
  split
  · exact first.trans (wakeStandby_within _ _)
  · exact first

theorem zoneState_of {z : ZoneId} {r : Zone} (zone : s.zones.get z = some r) : s.zoneState z = r.state := by
  rw [State.zoneState, zone]

/-- A report leaves a zone that is neither READY nor in STANDBY (R71, R72). -/
theorem report_of_away {z : ZoneId} (ready : s.zoneState z ≠ .ready) (standby : s.zoneState z ≠ .standby) (wakes : Bool) :
    report z wakes s = s := by
  have same : refreshStandby z s = s := by
    unfold refreshStandby
    unfold State.zoneState at ready
    split
    · next r zone =>
      rw [zone] at ready
      rw [if_neg fun h => ready h.2]
    · rfl
  unfold report
  dsimp only
  rw [same, wakeStandby, if_neg standby, ite_self]

/-! ### The restock test (R129) -/

/-- The task that the restock test opens. -/
def openedTask (z : ZoneId) (c : Cabinet) (k : WareId) (s : State) : RestockTask :=
  { cabinet := z, kind := k, wanted := max 1 (c.high - c.stock), paged := decide (1 ≤ (s.wares.get k).clean), opened := s.time.clock }

/-- The state in which the opened task is reported to its zone (R133 to R135). -/
def taskOpened (z : ZoneId) (c : Cabinet) (k : WareId) (s : State) : State :=
  post .restockTask z.val (if (openedTask z c k s).paged then 1 else 0)
    (if (openedTask z c k s).paged then raise .restock (s.zoneGroup z) z.val { s with restock := s.restock ++ [openedTask z c k s] }
    else { s with restock := s.restock ++ [openedTask z c k s] })

theorem testRestock_of_not_due {z : ZoneId} (due : taskDue s z = false) : testRestock z s = s := by
  rw [testRestock, if_pos due]

theorem testRestock_of_due {z : ZoneId} {c : Cabinet} {k : WareId} (cab : s.cabinet? z = some c) (kind : c.kind = some k)
    (due : taskDue s z = true) : testRestock z s = report z (openedTask z c k s).paged (taskOpened z c k s) := by
  rw [testRestock, if_neg (by rw [due]; nofun), cab]
  dsimp only
  rw [kind]
  rfl

theorem taskDue_of_cabinet {z : ZoneId} {c : Cabinet} (cab : s.cabinet? z = some c) : taskDue s z = true ↔
    s.zoneState z ≠ .off ∧ s.zoneState z ≠ .fault ∧ c.kind.isSome = true ∧ c.available < c.low ∧ s.task? z = none := by
  rw [taskDue, cab]
  simp [and_assoc]

theorem taskOpened_within (z : ZoneId) (c : Cabinet) (k : WareId) (s : State) :
    Within [.restock, .paging, .ports] s (taskOpened z c k s) := by
  have added : Within [.restock, .paging, .ports] s { s with restock := s.restock ++ [openedTask z c k s] } :=
    (within_restock s _).mono (by simp)
  unfold taskOpened
  refine Within.trans ?_ ((post_touches _ _ _ _).within.mono (by simp))
  split
  · exact added.trans ((raise_touches _ _ _ _).within.mono (by simp))
  · exact added

/-- R129, R133 and R135: what the restock test does to the restock list, the pages and the notices. -/
theorem testRestock_tested {z : ZoneId} {c : Cabinet} (cab : s.cabinet? z = some c) (on : s.zoneState z ≠ .off)
    (sound : s.zoneState z ≠ .fault) : TaskTest z c s (testRestock z s) := by
  unfold TaskTest
  split
  · next none_ => rw [testRestock_of_not_due]; rw [Bool.eq_false_iff, ne_eq, taskDue_of_cabinet cab, none_]; simp
  · next k kind =>
    dsimp only
    split
    · next low =>
      have due : taskDue s z = true := (taskDue_of_cabinet cab).mpr ⟨on, sound, by rw [kind]; rfl, low⟩
      rw [testRestock_of_due cab kind due]
      have opened : (taskOpened z c k s).restock = s.restock ++ [openedTask z c k s] := by
        unfold taskOpened
        rw [post_restock]
        split
        · exact (raise_touches _ _ _ _).within.restock (by simp)
        · rfl
      have reported := report_within z (openedTask z c k s).paged (taskOpened z c k s)
      refine ⟨(reported.restock (by simp)).trans opened, fun paged => ?_, ?_⟩
      · refine PagedOrFull.of_desk (s := taskOpened z c k s) ?_ (reported.desk (by simp))
        have raised : (openedTask z c k s).paged = true := paged
        unfold taskOpened
        rw [if_pos raised, if_pos raised]
        exact (raise_paged .restock (s.zoneGroup z) z.val _).of_desk rfl
      · refine Noticed.grown (u := taskOpened z c k s) ?_ (grown_ops.toStockOps.report _ _ _)
        unfold taskOpened
        refine noticed_post _ _ _ (fun p => ?_) ?_
        · split
          · exact (raise_grown _ _ _ _ p).role
          · rfl
        · split
          · exact congrArg TimeBase.clock ((raise_touches _ _ _ _).within.time (by simp))
          · rfl
    · next low =>
      rw [testRestock_of_not_due]
      rw [Bool.eq_false_iff, ne_eq, taskDue_of_cabinet cab]
      exact fun h => low h.2.2.2

/-- The restock test reads CLEAN of the wares, the restock list, the clock and the roles of a state. -/
theorem TaskTest.from_clean {z : ZoneId} {c : Cabinet} {s u w : State} (h : TaskTest z c u w)
    (clean : ∀ k, (u.wares.get k).clean = (s.wares.get k).clean) (restock : u.restock = s.restock)
    (clock : u.time.clock = s.time.clock) (role : ∀ p, (u.ports.get p).role = (s.ports.get p).role) : TaskTest z c s w := by
  have task : ∀ y, u.task? y = s.task? y := fun y => by rw [State.task?, restock]; rfl
  unfold TaskTest at h ⊢
  split at h
  · exact h.trans restock
  · dsimp only at h ⊢
    rw [task, restock, clean, clock] at h
    split at h
    · next low =>
      obtain ⟨opened, paged, noticed⟩ := h
      rw [if_pos low]
      exact ⟨opened, paged, noticed.from role clock⟩
    · next low => rw [if_neg low]; exact h

theorem TaskTest.from {z : ZoneId} {c : Cabinet} {s u w : State} (h : TaskTest z c u w) (wares : u.wares = s.wares)
    (restock : u.restock = s.restock) (clock : u.time.clock = s.time.clock)
    (role : ∀ p, (u.ports.get p).role = (s.ports.get p).role) : TaskTest z c s w :=
  h.from_clean (fun k => by rw [wares]) restock clock role

end

end Sys2Proof.Machine
end

section
/-! PROOF. Zone commands: what they share (R59), ZONE_SETPOINT, ZONE_START, ZONE_RESUME and ZONE_PAUSE, and the expiry of a port's
supervision (R62, R66, R73, R187). -/

namespace Sys2Proof.Machine

/-! ### Entries that post nothing, and PAUSED -/

section
variable {s u w : State}

theorem cabinet?_congr (h : u.zones = s.zones) (z : ZoneId) : u.cabinet? z = s.cabinet? z := by
  rw [State.cabinet?, h]
  rfl

theorem cabinet?_entered {z : ZoneId} {r : Zone} {st : ZoneState} (zone : s.zones.get z = some r)
    (zones : u.zones = s.zones.set z (some (r.enter st))) : u.cabinet? z = s.cabinet? z := by
  rw [State.cabinet?, State.cabinet?, zones, Table.get_set_same, zone]
  simp only [Zone.enter_kind, Zone.enter_cabinet]

theorem zoneState_entered {z : ZoneId} {r : Zone} {st : ZoneState} (zones : u.zones = s.zones.set z (some (r.enter st))) :
    u.zoneState z = st := by
  rw [State.zoneState, zones, Table.get_set_same]
  exact r.enter_state st

/-- The restock test leaves every zone where its own is neither READY nor in STANDBY. -/
theorem testRestock_zones_of_away {z : ZoneId} (ready : s.zoneState z ≠ .ready) (standby : s.zoneState z ≠ .standby) :
    (testRestock z s).zones = s.zones := by
  cases due : taskDue s z with
  | false => rw [testRestock_of_not_due due]
  | true =>
    cases cab : s.cabinet? z with
    | none => rw [taskDue, cab] at due; cases due
    | some c =>
      have opened := (taskDue_of_cabinet cab).mp due
      obtain ⟨k, kind⟩ := Option.isSome_iff_exists.mp opened.2.2.1
      have zones := (taskOpened_within z c k s).zones (by simp)
      have state : (taskOpened z c k s).zoneState z = s.zoneState z := by rw [State.zoneState, zones]; rfl
      rw [testRestock_of_due cab kind due, report_of_away (state ▸ ready) (state ▸ standby), zones]

/-- The states whose entry a restock test follows without a report that acts (R129). -/
def ZoneState.settled (st : ZoneState) : Prop := st ≠ .off ∧ st ≠ .fault ∧ st ≠ .ready ∧ st ≠ .standby

/-- The restock test after the entry into a state. -/
theorem tested_after_entry {z : ZoneId} {r : Zone} {st : ZoneState} (settled : st.settled) (zone : s.zones.get z = some r)
    (zones : u.zones = s.zones.set z (some (r.enter st))) (same : Within [.zones, .permit, .ports] s u) (grown : Grown s u) :
    (testRestock z u).zones = s.zones.set z (some (r.enter st)) ∧
      (∀ c, s.cabinet? z = some c → TaskTest z c s (testRestock z u)) ∧
      (s.cabinet? z = none → (testRestock z u).restock = s.restock ∧ (testRestock z u).desk = s.desk) := by
  obtain ⟨on, sound, ready, standby⟩ := settled
  have state := zoneState_entered zones
  refine ⟨?_, fun c cab => ?_, fun none_ => ?_⟩
  · rw [testRestock_zones_of_away (by rwa [state]) (by rwa [state]), zones]
  · have tested := testRestock_tested ((cabinet?_entered zone zones).trans cab) (by rwa [state]) (by rwa [state])
    exact tested.from (same.wares (by simp)) (same.restock (by simp)) (congrArg TimeBase.clock (same.time (by simp)))
      fun p => (grown p).role
  · rw [testRestock_of_not_due (by rw [taskDue, cabinet?_entered zone zones, none_])]
    exact ⟨same.restock (by simp), same.desk (by simp)⟩

theorem enterQuietly_entry {z : ZoneId} {r : Zone} {st : ZoneState} (settled : st.settled) (zone : s.zones.get z = some r) :
    (enterQuietly z st s).zones = s.zones.set z (some (r.enter st)) ∧
      (∀ c, s.cabinet? z = some c → TaskTest z c s (enterQuietly z st s)) ∧
      (s.cabinet? z = none → (enterQuietly z st s).restock = s.restock ∧ (enterQuietly z st s).desk = s.desk) :=
  tested_after_entry settled zone (moveZone_of zone st) (moveZone_within z st s) (moveZone_grown z st s)

theorem enterPaused_entry {z : ZoneId} {r : Zone} (zone : s.zones.get z = some r) :
    (enterPaused z s).zones = s.zones.set z (some (r.enter .paused)) ∧
      (∀ c, s.cabinet? z = some c → TaskTest z c s (enterPaused z s)) ∧
      (s.cabinet? z = none → (enterPaused z s).restock = s.restock ∧ (enterPaused z s).desk = s.desk) := by
  refine tested_after_entry (st := .paused) ⟨nofun, nofun, nofun, nofun⟩ zone (moveZone_of zone .paused)
    ((moveZone_within z .paused s).trans ?_) ((moveZone_grown z .paused s).trans (post_grown _ _ _ _))
  exact (within_ports (moveZone z .paused s) _).mono (by simp)

theorem enterPaused_noticed (z : ZoneId) (s : State) : Noticed .zoneState z.val 6 s (enterPaused z s) := by
  refine Noticed.grown (noticed_post _ _ _ (fun p => (moveZone_grown z .paused s p).role) ?_) (grown_ops.toStockOps.testRestock z _)
  exact congrArg TimeBase.clock ((moveZone_within z .paused s).time (by simp))

end

/-! ### What the commands of a zone share (R59) -/

section
variable {t : Transfer} {z : ZoneId} {r : Zone} {s : State}

theorem ZoneKind.commandedBy_mem (k : ZoneKind) : k.commandedBy ∈ kindRoles := by cases k <;> decide

/-- A command of a zone from the role with its kind rights is judged by its own checks. -/
theorem exec_zone {i : Instr} {body : State → Answer} (h : meaning i = .request t kindRoles body) (judged : ZoneJudged t z r s) :
    exec i s = .next (placeAnswer t.port (body (heard t s))) := by
  obtain ⟨⟨quiet, taken, role, whole⟩, -⟩ := judged
  rw [exec_of_request h, command_judged ⟨quiet, taken, ?_, whole⟩]
  rw [List.mem_singleton.mp role]
  exact r.kind.commandedBy_mem

theorem withZone_judged (judged : ZoneJudged t z r s) (body : ZoneId → Zone → Answer) :
    withZone t.port z.val (heard t s) body = body z r := by
  obtain ⟨⟨-, -, role, -⟩, zone⟩ := judged
  simp only [withZone, index?_val, heard_zones, zone, State.roleOf, heard_role, List.mem_singleton.mp role, if_true]

theorem withOven_judged (judged : ZoneJudged t z r s) (oven : r.kind = .oven) {g : Program} (program : r.program = some g)
    (body : ZoneId → Zone → Program → Answer) : withOven t.port z.val (heard t s) body = body z r g := by
  rw [withOven, withZone_judged judged, if_neg (not_not.mpr oven), program]

/-- The commands of a zone make the checks of R59 first; those of a program make that of its kind behind them. -/
theorem zone_command_meaning (t : Transfer) (n a b c d e : Nat) :
    (∀ i ∈ [Instr.zoneSetpoint t n a b c, .zoneStart t n, .zoneStop t n, .zonePause t n, .zoneResume t n, .zoneClear t n,
      .programQuery t n], ∃ body : State → ZoneId → Zone → Answer,
        meaning i = .request t kindRoles fun s => withZone t.port n s (body s)) ∧
    ∀ i ∈ [Instr.programStep t n a b c d e, .programLoad t n a b, .programRun t n, .programAdvance t n, .programAbort t n],
      ∃ body : State → ZoneId → Zone → Program → Answer,
        meaning i = .request t kindRoles fun s => withOven t.port n s (body s) := by
  simp only [List.mem_cons, List.not_mem_nil, or_false]
  constructor
  · rintro i (rfl | rfl | rfl | rfl | rfl | rfl | rfl) <;> exact ⟨_, rfl⟩
  · rintro i (rfl | rfl | rfl | rfl | rfl) <;> exact ⟨_, rfl⟩

theorem withZone_outOfRange {n : Nat} (out : 31 < n) (p : PortId) (s : State) (body : ZoneId → Zone → Answer) :
    withZone p n s body = refuse .range s := by
  rw [withZone, index?_eq_none_iff.mpr out]

theorem withZone_undefined (none_ : s.zones.get z = none) (p : PortId) (body : ZoneId → Zone → Answer) :
    withZone p z.val s body = refuse .notFound s := by
  simp only [withZone, index?_val, none_]

theorem withZone_denied (zone : s.zones.get z = some r) {p : PortId} (denied : s.roleOf p ≠ r.kind.commandedBy)
    (body : ZoneId → Zone → Answer) : withZone p z.val s body = refuse .denied s := by
  simp only [withZone, index?_val, zone, if_neg denied]

/-- Settles O21: the checks of a zone command in their order. -/
theorem zoneCommandsShareTheirRefusals : Obligations.ZoneCommandsShareTheirRefusals := by
  intro t n a b c d e s judged
  obtain ⟨plain, oven⟩ := zone_command_meaning t n a b c d e
  refine ⟨fun i mem => ?_, fun i mem z r hz zone permitted other => ?_⟩
  · have shared : ∃ body : State → ZoneId → Zone → Answer,
        meaning i = .request t kindRoles fun s => withZone t.port n s (body s) := by
      rcases List.mem_append.mp mem with zone | program
      · exact plain i zone
      · obtain ⟨body, h⟩ := oven i program
        exact ⟨_, h⟩
    obtain ⟨body, h⟩ := shared
    rw [exec_of_request h, command_judged (roles := kindRoles) judged]
    refine ⟨fun out => ?_, fun z hz => ?_⟩
    · rw [withZone_outOfRange out]
      rfl
    · subst hz
      refine ⟨fun none_ => ?_, fun r zone denied => ?_⟩
      · rw [withZone_undefined (by rw [heard_zones]; exact none_)]
        rfl
      · rw [withZone_denied (r := r) (by rw [heard_zones]; exact zone)]
        · rfl
        · rw [State.roleOf, heard_role]
          exact fun same => denied (List.mem_singleton.mpr same)
  · subst hz
    obtain ⟨body, h⟩ := oven i mem
    obtain ⟨quiet, taken, -, whole⟩ := judged
    have zoned : ZoneJudged t z r s := ⟨⟨quiet, taken, permitted, whole⟩, zone⟩
    rw [exec_zone h zoned, withOven, withZone_judged zoned, if_pos other]
    rfl

end

/-! ### The record at an entry (04 sections 4.3 to 4.5) -/

/-- Settles O20: by the state entered, and by whether the active setpoint falls. -/
theorem entrySetsTheZoneRecord : Obligations.EntrySetsTheZoneRecord := by
  intro r st
  have lowered : ∀ (k : Zone) v, k.setActive v = { k with
      active := v, overArmed := if v < k.active then false else k.overArmed
      overCount := if v < k.active then 0 else k.overCount } := fun k v => by
    unfold Zone.setActive
    split
    · rfl
    · rfl
  cases st <;> simp [Zone.enter, lowered, Zone.setpointFor, soakTicks]

/-! ### ZONE_START, ZONE_RESUME and ZONE_PAUSE (R66, R73) -/

/-- Settles O24. -/
theorem startResumeAndPauseMoveTheZone : Obligations.StartResumeAndPauseMoveTheZone := by
  intro t z r s judged
  have zone : (heard t s).zones.get z = some r := by rw [heard_zones]; exact judged.2
  have cab := cabinet?_congr (heard_zones t s) z
  have clock : (heard t s).time.clock = s.time.clock := by rw [heard_time]
  have tests : ∀ w : State, ((∀ c, (heard t s).cabinet? z = some c → TaskTest z c (heard t s) w) ∧
      ((heard t s).cabinet? z = none → w.restock = (heard t s).restock ∧ w.desk = (heard t s).desk)) →
      (∀ c, s.cabinet? z = some c → TaskTest z c s w) ∧
        (s.cabinet? z = none → w.restock = s.restock ∧ w.desk = (heard t s).desk) := fun w h => by
    rw [cab, heard_restock] at h
    exact ⟨fun c hc => (h.1 c hc).from (heard_wares t s) (heard_restock t s) clock (heard_role t s), h.2⟩
  have quietly := enterQuietly_entry (st := .preheat) ⟨nofun, nofun, nofun, nofun⟩ zone
  have pausing := enterPaused_entry zone
  rw [heard_zones] at quietly pausing
  refine ⟨fun i st which => ?_, fun stands => ?_, fun paused => ?_, fun heats => ?_⟩
  · have judge : exec i s = .next (placeAnswer t.port (if r.state = st then accept (enterQuietly z .preheat (heard t s))
        else refuse .state (heard t s))) := by
      rcases which with ⟨rfl, rfl⟩ | ⟨rfl, rfl⟩
      · rw [exec_zone (body := zoneStart t.port z.val) rfl judged, zoneStart, withZone_judged judged]
      · rw [exec_zone (body := zoneResume t.port z.val) rfl judged, zoneResume, withZone_judged judged]
    rw [judge]
    refine ⟨fun other => by rw [if_neg other]; rfl, fun same => ⟨enterQuietly z .preheat (heard t s), ?_, ?_, quietly.1, ?_⟩⟩
    · rw [if_pos same]; rfl
    · exact enterQuietly_touches _ _ _
    · exact tests _ quietly.2
  all_goals rw [exec_zone (body := zonePause t.port z.val) rfl judged, zonePause, withZone_judged judged]
  · rcases stands with off | fault
    · simp only [off]; rfl
    · simp only [fault]; rfl
  · simp only [paused]; rfl
  · refine ⟨enterPaused z (heard t s), ?_, enterPaused_touches _ _, pausing.1, tests _ pausing.2,
      (enterPaused_noticed z (heard t s)).from (heard_role t s) clock⟩
    cases state : r.state with
    | off | paused | fault =>
      rw [state] at heats
      cases heats
    | preheat | soak | ready | recover | standby => rfl

end Sys2Proof.Machine
end

section
/-! PROOF. ZONE_SETPOINT (R62, R64, R70) and the expiry of a port's supervision (R73, R187). -/

namespace Sys2Proof.Machine

theorem ZoneState.settled_preheat : ZoneState.preheat.settled := ⟨nofun, nofun, nofun, nofun⟩

/-! ### A setpoint acts on a zone (R64, R70, R74) -/

/-- R74: where the active setpoint falls, the over test is disarmed and its count is 0; neither is set otherwise. -/
structure Zone.Follows (r k : Zone) : Prop where
  lowered : k.active < r.active → k.overArmed = false ∧ k.overCount = 0
  kept : r.overArmed = false ∧ r.overCount = 0 → k.overArmed = false ∧ k.overCount = 0

theorem Zone.Follows.trans {r m k : Zone} (h : r.Follows m) (g : m.Follows k) : r.Follows k :=
  ⟨fun lower => if fell : k.active < m.active then g.lowered fell else g.kept (h.lowered (by omega)), g.kept ∘ h.kept⟩

theorem Zone.Follows.of_same {r k : Zone} (active : k.active = r.active) (armed : k.overArmed = r.overArmed)
    (count : k.overCount = r.overCount) : r.Follows k :=
  ⟨fun lower => by omega, fun h => by rwa [armed, count]⟩

theorem Zone.follows_setActive (r : Zone) (v : Nat) : r.Follows (r.setActive v) := by
  unfold Zone.setActive
  split
  · exact ⟨fun _ => ⟨rfl, rfl⟩, fun _ => ⟨rfl, rfl⟩⟩
  · next high => exact ⟨fun low => absurd low high, id⟩

theorem Zone.enter_preheat_eq (r : Zone) : ∃ armed count, r.enter .preheat = { r with
    state := .preheat, active := r.setpoint, soakTimer := none, recoverTimer := none, slowRaised := false, standbyTimer := none
    overArmed := armed, overCount := count } := by
  obtain ⟨armed, count, e⟩ := ({ r with
    state := .preheat, soakTimer := none, recoverTimer := none, slowRaised := false, standbyTimer := none } : Zone).setActive_eq
      r.setpoint
  exact ⟨armed, count, e⟩

theorem Zone.follows_preheat (r : Zone) : r.Follows (r.enter .preheat) := by
  have first : r.Follows { r with
      state := .preheat, soakTimer := none, recoverTimer := none, slowRaised := false, standbyTimer := none } := .of_same rfl rfl rfl
  exact first.trans (Zone.follows_setActive _ _)

/-- What a setpoint that takes a value does to a zone's record: a changed one takes SOAK, READY and RECOVER to PREHEAT (R70). -/
def Zone.withSetpoint (r : Zone) (v : Nat) : Zone :=
  if r.setpoint = v then r
  else if r.state = .soak ∨ r.state = .ready ∨ r.state = .recover then ({ r with setpoint := v } : Zone).enter .preheat
  else ({ r with setpoint := v } : Zone).setActive (({ r with setpoint := v } : Zone).setpointFor r.state)

theorem Zone.follows_withSetpoint (r : Zone) (v : Nat) : r.Follows (r.withSetpoint v) := by
  have stored : r.Follows { r with setpoint := v } := .of_same rfl rfl rfl
  unfold Zone.withSetpoint
  split
  · exact .of_same rfl rfl rfl
  split
  · exact stored.trans (Zone.follows_preheat _)
  · exact stored.trans (Zone.follows_setActive _ _)

theorem changeSetpoint_of_runs {z : ZoneId} {r : Zone} {s : State} (zone : s.zones.get z = some r) {v : Nat} (changed : r.setpoint ≠ v)
    (runs : r.state = .soak ∨ r.state = .ready ∨ r.state = .recover) :
    changeSetpoint z v s = enterQuietly z .preheat (s.setZone z { r with setpoint := v }) := by
  unfold changeSetpoint
  rw [zone]
  dsimp only
  rw [if_neg changed]
  rcases runs with h | h | h <;> rw [h]

theorem changeSetpoint_of_stays {z : ZoneId} {r : Zone} {s : State} (zone : s.zones.get z = some r) {v : Nat} (changed : r.setpoint ≠ v)
    (stays : ¬ (r.state = .soak ∨ r.state = .ready ∨ r.state = .recover)) :
    changeSetpoint z v s = s.setZone z (({ r with setpoint := v } : Zone).setActive
      (({ r with setpoint := v } : Zone).setpointFor r.state)) := by
  unfold changeSetpoint
  rw [zone]
  dsimp only
  rw [if_neg changed]
  split
  · next h => exact (stays (.inl h)).elim
  · next h => exact (stays (.inr (.inl h))).elim
  · next h => exact (stays (.inr (.inr h))).elim
  all_goals rfl

theorem changeSetpoint_zones {z : ZoneId} {r : Zone} {s : State} (zone : s.zones.get z = some r) (v : Nat) :
    (changeSetpoint z v s).zones = s.zones.set z (some (r.withSetpoint v)) := by
  unfold Zone.withSetpoint
  split
  · next same =>
    rw [← zone, Table.set_get, changeSetpoint, zone]
    dsimp only
    rw [if_pos same]
  split
  · next changed runs =>
    have stored : (s.setZone z { r with setpoint := v }).zones.get z = some { r with setpoint := v } := by simp
    rw [changeSetpoint_of_runs zone changed runs, (enterQuietly_entry ZoneState.settled_preheat stored).1, State.setZone_zones,
      Table.set_set]
  · next changed stays => rw [changeSetpoint_of_stays zone changed stays, State.setZone_zones]

/-- R62, R64 and R70: the fields of a zone whose setpoint takes a value, its active setpoint being its state's. -/
theorem Zone.withSetpoint_eq (r : Zone) (v : Nat) (follows : r.active = r.setpointFor r.state) :
    ∃ armed count, r.withSetpoint v = { r with
      setpoint := v
      state := if v ≠ r.setpoint ∧ (r.state = .soak ∨ r.state = .ready ∨ r.state = .recover) then .preheat else r.state
      active := ({ r with setpoint := v } : Zone).setpointFor
        (if v ≠ r.setpoint ∧ (r.state = .soak ∨ r.state = .ready ∨ r.state = .recover) then .preheat else r.state)
      soakTimer := if v ≠ r.setpoint ∧ (r.state = .soak ∨ r.state = .ready ∨ r.state = .recover) then none else r.soakTimer
      recoverTimer := if v ≠ r.setpoint ∧ (r.state = .soak ∨ r.state = .ready ∨ r.state = .recover) then none else r.recoverTimer
      slowRaised := if v ≠ r.setpoint ∧ (r.state = .soak ∨ r.state = .ready ∨ r.state = .recover) then false else r.slowRaised
      standbyTimer := if v ≠ r.setpoint ∧ (r.state = .soak ∨ r.state = .ready ∨ r.state = .recover) then none else r.standbyTimer
      overArmed := armed, overCount := count } := by
  unfold Zone.withSetpoint
  split
  · next same =>
    subst same
    refine ⟨r.overArmed, r.overCount, ?_⟩
    simp only [ne_eq, not_true_eq_false, false_and, if_false]
    rw [← follows]
  split
  · next changed runs =>
    obtain ⟨armed, count, e⟩ := ({ r with setpoint := v } : Zone).enter_preheat_eq
    refine ⟨armed, count, ?_⟩
    simp only [if_pos (And.intro (Ne.symm changed) runs)]
    exact e
  · next changed stays =>
    obtain ⟨armed, count, e⟩ := ({ r with setpoint := v } : Zone).setActive_eq (({ r with setpoint := v } : Zone).setpointFor r.state)
    refine ⟨armed, count, ?_⟩
    simp only [if_neg fun h : v ≠ r.setpoint ∧ _ => stays h.2]
    exact e

/-! ### ZONE_SETPOINT (R62) -/

/-- The record whose setpoint ZONE_SETPOINT then changes: its other setpoints stored, its active one following. -/
def Zone.resettled (r : Zone) (fallback : Nat) (standby : Option Nat) : Zone :=
  ({ r with fallback := fallback, standby := standby } : Zone).setActive
    (({ r with fallback := fallback, standby := standby } : Zone).setpointFor r.state)

theorem Zone.resettled_eq (r : Zone) (fallback : Nat) (standby : Option Nat) : ∃ armed count,
    r.resettled fallback standby = { r with
      fallback := fallback, standby := standby, overArmed := armed, overCount := count
      active := ({ r with fallback := fallback, standby := standby } : Zone).setpointFor r.state } := by
  obtain ⟨armed, count, e⟩ := ({ r with fallback := fallback, standby := standby } : Zone).setActive_eq
    (({ r with fallback := fallback, standby := standby } : Zone).setpointFor r.state)
  exact ⟨armed, count, e⟩

theorem Zone.follows_resettled (r : Zone) (fallback : Nat) (standby : Option Nat) : r.Follows (r.resettled fallback standby) := by
  have stored : r.Follows { r with fallback := fallback, standby := standby } := .of_same rfl rfl rfl
  exact stored.trans (Zone.follows_setActive _ _)

theorem Zone.resettled_active (r : Zone) (fallback : Nat) (standby : Option Nat) :
    (r.resettled fallback standby).active = (r.resettled fallback standby).setpointFor (r.resettled fallback standby).state := by
  obtain ⟨armed, count, eq⟩ := r.resettled_eq fallback standby
  rw [eq]
  cases state : r.state <;> rfl

/-- R62, R64 and R70: the record that ZONE_SETPOINT leaves, apart from its over test. -/
theorem Zone.resettled_withSetpoint (r : Zone) (sp fb : Nat) (sb : Option Nat) :
    let st := if sp ≠ r.setpoint ∧ (r.state = .soak ∨ r.state = .ready ∨ r.state = .recover) then .preheat else r.state
    let k := (r.resettled fb sb).withSetpoint sp
    k = { r with
      setpoint := sp, fallback := fb, standby := sb, state := st
      active := ({ r with setpoint := sp, fallback := fb, standby := sb } : Zone).setpointFor st
      soakTimer := if st = r.state then r.soakTimer else none
      recoverTimer := if st = r.state then r.recoverTimer else none
      slowRaised := if st = r.state then r.slowRaised else false
      standbyTimer := if st = r.state then r.standbyTimer else none
      overArmed := k.overArmed, overCount := k.overCount } := by
  obtain ⟨armed, count, settled⟩ := r.resettled_eq fb sb
  obtain ⟨armed', count', set⟩ := Zone.withSetpoint_eq _ sp (r.resettled_active fb sb)
  dsimp only
  rw [set, settled]
  by_cases runs : sp ≠ r.setpoint ∧ (r.state = .soak ∨ r.state = .ready ∨ r.state = .recover)
  · have moved : ZoneState.preheat ≠ r.state := by
      rcases runs.2 with h | h | h <;> rw [h] <;> nofun
    simp only [if_pos runs, if_neg moved]
    rfl
  · simp only [if_neg runs, if_true]
    cases state : r.state <;> rfl

theorem zoneSetpoint_judged {t : Transfer} {z : ZoneId} {r : Zone} {s : State} (judged : ZoneJudged t z r s) (a b c : Nat) :
    zoneSetpoint t.port z.val a b c (heard t s) =
      acceptClamped (r.kind.clampSetpoint a != a || r.kind.clampSetpoint b != b ||
        (if r.kind = .warmer then ZoneKind.clampSetpoint .warmer c != c else false)) []
        (changeSetpoint z (r.kind.clampSetpoint a) ((heard t s).setZone z (r.resettled (r.kind.clampSetpoint b)
          (if r.kind = .warmer then some (ZoneKind.clampSetpoint .warmer c) else none)))) := by
  rw [zoneSetpoint, withZone_judged judged]
  split
  · rfl
  · rfl

/-- Settles O23: the setpoints stored, and then the one that changes. -/
theorem zoneSetpointActsOnTheState : Obligations.ZoneSetpointActsOnTheState := by
  intro t z r a b c s judged
  rw [exec_zone (body := zoneSetpoint t.port z.val a b c) rfl judged, zoneSetpoint_judged judged, placeAnswer_acceptClamped]
  have stored : ∀ k, ((heard t s).setZone z k).zones.get z = some k := fun k => by simp
  have record := r.resettled_withSetpoint (r.kind.clampSetpoint a) (r.kind.clampSetpoint b)
    (if r.kind = .warmer then some (ZoneKind.clampSetpoint .warmer c) else none)
  have follows := r.follows_resettled (r.kind.clampSetpoint b)
    (if r.kind = .warmer then some (ZoneKind.clampSetpoint .warmer c) else none)
  generalize r.resettled (r.kind.clampSetpoint b) (if r.kind = .warmer then some (ZoneKind.clampSetpoint .warmer c) else none) = k
    at record follows ⊢
  refine ⟨changeSetpoint z (r.kind.clampSetpoint a) ((heard t s).setZone z k), k.withSetpoint (r.kind.clampSetpoint a), ?_,
    (setZone_touches z k _).trans (changeSetpoint_touches z _ _), ?_, record.trans ?_,
    (follows.trans (Zone.follows_withSetpoint _ _)).lowered⟩
  · refine congrArg (fun moved => Host.Outcome.next (answered t (okOr moved) [] _)) ?_
    change _ = decide (r.kind.clampSetpoint a ≠ a ∨ r.kind.clampSetpoint b ≠ b ∨
      (r.kind = .warmer ∧ (if r.kind = .warmer then some (ZoneKind.clampSetpoint .warmer c) else none) ≠ some c))
    rw [Bool.eq_iff_iff]
    by_cases warm : r.kind = .warmer
    · simp [warm, or_assoc]
    · simp [warm]
  · rw [changeSetpoint_zones (stored _), State.setZone_zones, Table.set_set, heard_zones]
  · by_cases runs : r.kind.clampSetpoint a ≠ r.setpoint ∧ (r.state = .soak ∨ r.state = .ready ∨ r.state = .recover)
    · have clamped : max r.kind.setpointRange.1 (min r.kind.setpointRange.2 a) ≠ r.setpoint ∧
        (r.state = .soak ∨ r.state = .ready ∨ r.state = .recover) := runs
      simp only [if_pos runs, if_pos clamped]
      rfl
    · have clamped : ¬ (max r.kind.setpointRange.1 (min r.kind.setpointRange.2 a) ≠ r.setpoint ∧
        (r.state = .soak ∨ r.state = .ready ∨ r.state = .recover)) := runs
      simp only [if_neg runs, if_neg clamped]
      cases state : r.state <;> rfl

/-! ### The expiry of a port's supervision (R187) -/

/-- What the expiry does to a zone: it pauses each of the port's that heats. -/
def Zone.pausedBy (p : PortId) (r : Zone) : Zone := if r.owner = p ∧ r.state.heating = true then r.enter .paused else r

theorem pauseOwned_zones (p : PortId) (s : State) (z y : ZoneId) : (pauseOwned p s z).zones.get y =
    if y = z then (s.zones.get y).map (Zone.pausedBy p) else s.zones.get y := by
  unfold pauseOwned
  cases zone : s.zones.get z with
  | none =>
    dsimp only
    split
    · next same => rw [same, zone]; rfl
    · rfl
  | some r =>
    dsimp only
    split
    · next owned =>
      rw [(enterPaused_entry zone).1, Table.get_set]
      split
      · next same => rw [same, zone, Option.map_some, Zone.pausedBy, if_pos owned]
      · rfl
    · next other =>
      split
      · next same => rw [same, zone, Option.map_some, Zone.pausedBy, if_neg other]
      · rfl

theorem foldl_pauseOwned_zones (p : PortId) (y : ZoneId) : ∀ (l : List ZoneId) (s : State), l.Nodup →
    (l.foldl (pauseOwned p) s).zones.get y = if y ∈ l then (s.zones.get y).map (Zone.pausedBy p) else s.zones.get y
  | [], s, _ => by simp
  | z :: l, s, nodup => by
    obtain ⟨fresh, rest⟩ := List.nodup_cons.mp nodup
    rw [List.foldl_cons, foldl_pauseOwned_zones p y l _ rest, pauseOwned_zones]
    by_cases same : y = z
    · subst same
      simp [fresh]
    · simp [same]

theorem pauseOwned_grown (p : PortId) (s : State) (z : ZoneId) : Grown s (pauseOwned p s z) := by
  unfold pauseOwned
  split
  · split
    · exact ((moveZone_grown z .paused s).trans (post_grown _ _ _ _)).trans (grown_ops.toStockOps.testRestock z _)
    · exact Grown.refl s
  · exact Grown.refl s

/-- The state in which a port is SILENT and its zones are still to be paused. -/
def silenced (p : PortId) (s : State) : State := s.setPort p { s.ports.get p with silent := true, timer := none }

theorem enterSilent_eq (p : PortId) (s : State) : enterSilent p s =
    post .portState p.val 0 (raise .portSilent .any p.val (allZones.foldl (pauseOwned p) (silenced p s))) := rfl

/-- Settles O12: the zones are paused one after another, each by itself. -/
theorem supervisionExpiryPausesOwnedZones : Obligations.SupervisionExpiryPausesOwnedZones := by
  intro p s quiet
  rw [exec_quiet (f := supervisionExpiry p) rfl quiet]
  refine ⟨fun stopped => ?_, fun runs => ?_⟩
  · rw [supervisionExpiry, stopped]
    rfl
  · have role : ∀ q, ((silenced p s).ports.get q).role = (s.ports.get q).role := fun q => by
      rw [silenced, State.setPort_ports, Table.get_set]
      split
      · next same => rw [same]
      · rfl
    have paused := foldl_related StockOnly.refl StockOnly.trans _ (pauseOwned_touches p) allZones (silenced p s)
    have grown := foldl_related Grown.refl Grown.trans _ (pauseOwned_grown p) allZones (silenced p s)
    have zones : ∀ z, (allZones.foldl (pauseOwned p) (silenced p s)).zones.get z = (s.zones.get z).map (Zone.pausedBy p) :=
      fun z => by
        rw [foldl_pauseOwned_zones p z allZones _ (List.nodup_finRange 32), if_pos (show z ∈ allZones from List.mem_finRange z)]
        rfl
    rw [supervisionExpiry, if_pos (Option.isSome_iff_ne_none.mpr runs), enterSilent_eq]
    generalize allZones.foldl (pauseOwned p) (silenced p s) = u at paused grown zones ⊢
    have raised := (raise_touches .portSilent .any p.val u).within
    refine ⟨_, rfl, paused.trans ((raise_touches _ _ _ _).trans (post_touches _ _ _ _)).stock,
      (raise_paged .portSilent .any p.val u).of_desk rfl, ?_, fun z => ?_⟩
    · refine Noticed.from (t := silenced p s) ?_ role rfl
      refine noticed_post _ _ _ (fun q => ?_) (congrArg TimeBase.clock ?_)
      · exact ((raise_grown _ _ _ _ q).role).trans (grown q).role
      · exact (raised.time (by simp)).trans (paused.within.time (by simp))
    · rw [post_zones, raised.zones (by simp), zones]
      rfl

end Sys2Proof.Machine
end

section
/-! PROOF. Oven programs: drafted, loaded, aborted, run, stepped, held and done (05_oven_programs.md). -/

namespace Sys2Proof.Machine

section
variable {t : Transfer} {z : ZoneId} {r : Zone} {g : Program} {s : State}

/-! ### PROGRAM_STEP, PROGRAM_LOAD and PROGRAM_ABORT (R81, R82, R90) -/

theorem clampSetpoint_oven_bne (v : Nat) : (ZoneKind.clampSetpoint .oven v != v) = decide (v < 300 ∨ 2800 < v) := by
  have clamp : ZoneKind.clampSetpoint .oven v = max 300 (min 2800 v) := rfl
  rw [clamp, Bool.eq_iff_iff]
  simp only [bne_iff_ne, decide_eq_true_eq]
  omega

theorem mapM_id_eq_none {α : Type} {l : List (Option α)} : l.mapM id = none ↔ none ∈ l := by
  induction l with
  | nil => simp
  | cons a l ih =>
    cases a with
    | none => simp
    | some a => cases e : l.mapM id <;> simp [List.mapM_cons, ← ih, e]

theorem mapM_id_of_not_mem {α : Type} {l : List (Option α)} (h : none ∉ l) : l.mapM id = some (l.filterMap id) := by
  induction l with
  | nil => rfl
  | cons a l ih =>
    cases a with
    | none => exact (h List.mem_cons_self).elim
    | some a => simp [List.mapM_cons, ih fun mem => h (List.mem_cons_of_mem _ mem)]

theorem abortProgram_eq (zone : s.zones.get z = some r) (program : r.program = some g) : abortProgram z s =
    post .programState z.val 5 (if g.state = .held then
      clearEvent .stepHold z.val (s.setZone z { r with program := some { g with
        state := .aborted, lastRun := g.current, timer := 0 } })
      else s.setZone z { r with program := some { g with state := .aborted, lastRun := g.current, timer := 0 } }) := by
  unfold abortProgram
  rw [zone, Option.bind_some, program]
  dsimp only
  rw [changeZone_of zone]
  rfl

/-- Settles O28: each command's checks in their order, and then its one change. -/
theorem programIsDraftedLoadedAndAborted : Obligations.ProgramIsDraftedLoadedAndAborted := by
  refine ⟨fun t z r g s judged oven program => ⟨fun slot sp soak dur act => ?_, fun count hold => ?_⟩,
    fun t z r g s judged oven program => ?_⟩
  · rw [exec_zone (body := programStep t.port z.val slot sp soak dur act) rfl judged, programStep, withOven_judged judged oven program]
    congr 1
    generalize EndAction.ofCode? act = action
    by_cases first : slot = 0
    · rw [if_pos first]
      generalize index? 8 (slot - 1) = number
      cases number with
      | none => rfl
      | some i =>
        cases action with
        | none => rfl
        | some a =>
          dsimp only
          rw [if_pos (.inl first)]
          rfl
    · rw [if_neg first]
      generalize index? 8 (slot - 1) = number
      cases number with
      | none => rfl
      | some i =>
        cases action with
        | none => rfl
        | some a =>
          simp only [first, false_or]
          split
          · rfl
          · rw [placeAnswer_acceptClamped, clampSetpoint_oven_bne]
            rfl
  · rw [exec_zone (body := programLoad t.port z.val count hold) rfl judged, programLoad, withOven_judged judged oven program]
    congr 1
    split
    · rfl
    split
    · rfl
    unfold Program.draftSteps?
    by_cases missing : none ∈ g.draft.items.take count
    · rw [if_pos missing, mapM_id_eq_none.mpr missing]
      rfl
    · rw [if_neg missing, mapM_id_of_not_mem missing]
      dsimp only
      rw [placeAnswer_acceptClamped, clampSetpoint_oven_bne]
      rfl
  · rw [exec_zone (body := programAbort t.port z.val) rfl judged, programAbort, withOven_judged judged oven program]
    refine ⟨fun ended => ?_, fun aborted => ?_, fun live => ?_⟩
    · rcases ended with e | e <;> rw [e] <;> rfl
    · rw [aborted]; rfl
    · have zone : (heard t s).zones.get z = some r := by rw [heard_zones]; exact judged.2
      refine ⟨abortProgram z (heard t s), ?_, ?_, abortProgram_eq zone program, ?_⟩
      · rcases live with e | e | e <;> rw [e] <;> rfl
      · rw [abortProgram_eq zone program]
        refine PagingOnly.trans ?_ (post_touches _ _ _ _)
        split
        · exact clearEvent_touches _ _ _
        · exact PagingOnly.refl _
      · rw [abortProgram_eq zone program]
        refine noticed_post _ _ _ (fun p => ?_) ?_
        · refine Eq.trans ?_ (heard_role t s p)
          split
          · exact (clearEvent_grown _ _ _ p).role
          · rfl
        · refine Eq.trans ?_ (congrArg TimeBase.clock (heard_time t s))
          split
          · exact congrArg TimeBase.clock ((clearEvent_touches _ _ _).within.time (by simp))
          · rfl

/-! ### A step is applied (R84) -/

/-- The zone's record when a step is applied, its setpoint still to be changed. -/
def Zone.stepped (r : Zone) (g : Program) (k : Nat) (st : ProgramStep) : Zone :=
  { r with soakTime := st.soakTime, program := some { g with state := .running, current := k, timer := 6000 * st.duration } }

theorem applyStep_eq (zone : s.zones.get z = some r) (program : r.program = some g) {k : Nat} {st : ProgramStep}
    (step : g.step? k = some st) : applyStep z k s = changeSetpoint z st.setpoint (s.setZone z (r.stepped g k st)) := by
  simp only [applyStep, zone, program, step]
  rfl

theorem step?_of_get {k : Nat} {st : ProgramStep} (step : g.steps[k]? = some st) : g.step? (k + 1) = some st := by
  rw [Program.step?, if_neg (Nat.succ_ne_zero k), Nat.add_sub_cancel]
  exact step

theorem applyStep_zones (zone : s.zones.get z = some r) (program : r.program = some g) {k : Nat} {st : ProgramStep}
    (step : g.step? k = some st) :
    (applyStep z k s).zones = s.zones.set z (some ((r.stepped g k st).withSetpoint st.setpoint)) := by
  have stored : (s.setZone z (r.stepped g k st)).zones.get z = some (r.stepped g k st) := by simp
  rw [applyStep_eq zone program step, changeSetpoint_zones stored, State.setZone_zones, Table.set_set]

/-- What a setpoint that takes a value leaves of a record (R70). -/
theorem Zone.withSetpoint_fields (r : Zone) (v : Nat) : (r.withSetpoint v).setpoint = v ∧ (r.withSetpoint v).soakTime = r.soakTime ∧
    (r.withSetpoint v).fallback = r.fallback ∧ (r.withSetpoint v).program = r.program ∧ (r.withSetpoint v).loads = r.loads ∧
    (r.withSetpoint v).channel = r.channel ∧ (r.withSetpoint v).state =
      if v ≠ r.setpoint ∧ (r.state = .soak ∨ r.state = .ready ∨ r.state = .recover) then .preheat else r.state := by
  unfold Zone.withSetpoint
  split
  · next same => exact ⟨same, rfl, rfl, rfl, rfl, rfl, by rw [if_neg fun h => h.1 same.symm]⟩
  split
  · next changed runs =>
    obtain ⟨_, _, e⟩ := ({ r with setpoint := v } : Zone).enter_preheat_eq
    rw [e, if_pos ⟨Ne.symm changed, runs⟩]
    exact ⟨rfl, rfl, rfl, rfl, rfl, rfl, rfl⟩
  · next changed stays =>
    obtain ⟨_, _, e⟩ := ({ r with setpoint := v } : Zone).setActive_eq (({ r with setpoint := v } : Zone).setpointFor r.state)
    rw [e, if_neg fun h => stays h.2]
    exact ⟨rfl, rfl, rfl, rfl, rfl, rfl, rfl⟩

/-- Settles O29: step 1 is applied with the zone still OFF, which then enters PREHEAT. -/
theorem programRunStartsStepOne : Obligations.ProgramRunStartsStepOne := by
  intro t z r g s judged oven program
  rw [exec_zone (body := programRun t.port z.val) rfl judged, programRun, withOven_judged judged oven program]
  refine ⟨fun not => ?_, fun off state st rest steps => ?_⟩
  · rcases not with on | e | e | e
    · rw [if_pos on]; rfl
    all_goals
      rw [e]
      split <;> rfl
  · have zone : (heard t s).zones.get z = some r := by rw [heard_zones]; exact judged.2
    have step : g.step? 1 = some st := step?_of_get (k := 0) (by rw [steps]; rfl)
    have applied := applyStep_zones zone program step
    have stored : (applyStep z 1 (heard t s)).zones.get z = some ((r.stepped g 1 st).withSetpoint st.setpoint) := by
      rw [applied, Table.get_set_same]
    obtain ⟨setpoint, soak, fallback, prog, loads, channel, -⟩ := (r.stepped g 1 st).withSetpoint_fields st.setpoint
    have entry := (enterQuietly_entry ZoneState.settled_preheat stored).1
    refine ⟨enterQuietly z .preheat (applyStep z 1 (heard t s)), _, ?_,
      (applyStep_touches _ _ _).trans (enterQuietly_touches _ _ _), entry.trans (by rw [applied, Table.set_set, heard_zones]), ?_⟩
    · rw [if_neg (not_not.mpr off)]
      rcases state with e | e | e <;> rw [e] <;> rfl
    · obtain ⟨_, _, e⟩ := ((r.stepped g 1 st).withSetpoint st.setpoint).enter_preheat_eq
      rw [e]
      exact ⟨rfl, setpoint, setpoint, soak, prog, fallback, loads, channel, rfl⟩

end

end Sys2Proof.Machine
end

section
/-! PROOF. The end of a step: the next one is applied, the program is held, or it is done (R85 to R89). -/

namespace Sys2Proof.Machine

/-! ### Pages by their cause -/

section
variable {s : State}

/-- Pages have at most left the queue, and the cancel list is no longer than it may be. -/
def Fewer (s t : State) : Prop :=
  (t.desk.pages.map (·.id)).Sublist (s.desk.pages.map (·.id)) ∧ (s.desk.cancels.length ≤ 32 → t.desk.cancels.length ≤ 32)

theorem Fewer.trans {t u : State} (h : Fewer s t) (k : Fewer t u) : Fewer s u := ⟨k.1.trans h.1, k.2 ∘ h.2⟩

theorem Fewer.of_desk {t : State} (h : t.desk = s.desk) : Fewer s t := by
  unfold Fewer
  rw [h]
  exact ⟨.refl _, id⟩

theorem Fewer.law {t : State} (h : Fewer s t) (law : pageLaw s) : pageLaw t := by
  have shorter := h.1.length_le
  rw [List.length_map, List.length_map] at shorter
  exact ⟨shorter.trans law.1, h.1.nodup law.2.1, h.2 law.2.2⟩

theorem Fewer.length {t : State} (h : Fewer s t) : t.desk.pages.length ≤ s.desk.pages.length := by
  have shorter := h.1.length_le
  rwa [List.length_map, List.length_map] at shorter

theorem release_fewer (e : EntryId) (s : State) : Fewer s (release e s) := by
  unfold release
  split
  · next q _ =>
    have ids := updatePage_ids (i := q) (f := fun p => { p with state := .accepted }) (fun _ => rfl) (becomeAssigned e q none s)
    exact ⟨ids ▸ .refl _, id⟩
  · exact .of_desk rfl

theorem closePage_fewer (p : Page) (o : Outcome) (s : State) : Fewer s (closePage p o s) := by
  obtain ⟨-, -, -, cancels, ids⟩ := closePage_view p o s
  exact ⟨ids, fun fits => cancels ▸ fits⟩

theorem pushCancel_fewer (r : CancelRequest) (s : State) : Fewer s (pushCancel r s) := by
  refine ⟨.refl _, fun fits => ?_⟩
  unfold pushCancel cancelCapacity
  dsimp only
  split
  · rw [List.length_append]
    exact Nat.succ_le_of_lt (by assumption)
  · rw [List.length_append, List.length_drop, List.length_singleton]
    omega

theorem retirePage_fewer (p : Page) (o : Outcome) (s : State) : Fewer s (retirePage p o s) := by
  unfold retirePage
  split
  · exact ((pushCancel_fewer _ _).trans (closePage_fewer p o _)).trans (release_fewer _ _)
  · exact (closePage_fewer p o _).trans (release_fewer _ _)
  · exact (closePage_fewer p o _).trans (.of_desk rfl)
  · exact closePage_fewer p o _

theorem clearEvent_fewer (c : Cause) (o : Nat) (s : State) : Fewer s (clearEvent c o s) := by
  unfold clearEvent
  split
  · exact retirePage_fewer _ _ _
  · exact .of_desk rfl

/-- A frame heard may close a page, and adds none. -/
theorem heard_fewer (t : Transfer) (s : State) : Fewer s (heard t s) := by
  have framed : Fewer s (takeFrame t.port s) := by
    unfold takeFrame
    dsimp only
    split
    · refine Fewer.trans (t := s.setPort t.port { s.ports.get t.port with silent := false }) (.of_desk rfl) ?_
      exact (clearEvent_fewer _ _ _).trans (.of_desk rfl)
    · exact .of_desk rfl
  exact framed.trans (.of_desk rfl)

/-- A page of a cause and an object is live. -/
def Live (cause object : Nat) (s : State) : Prop := ∃ p ∈ s.desk.pages, p.cause = cause ∧ p.object = object

theorem Live.of_desk {cause object : Nat} {t : State} (live : Live cause object s) (h : t.desk = s.desk) : Live cause object t := by
  unfold Live
  rwa [h]

theorem Live.release {cause object : Nat} (live : Live cause object s) (e : EntryId) : Live cause object (release e s) := by
  obtain ⟨p, mem, fits⟩ := live
  unfold Machine.release
  split
  · next q _ =>
    refine ⟨if p.id = q then { p with state := .accepted } else p, List.mem_map_of_mem mem, ?_⟩
    split <;> exact fits
  · exact ⟨p, mem, fits⟩

theorem Live.close {cause object : Nat} (live : Live cause object s) (law : pageLaw s) {q : Page} (mem : q ∈ s.desk.pages)
    (other : q.cause ≠ cause) (o : Outcome) : Live cause object (closePage q o s) := by
  obtain ⟨p, hp, fits⟩ := live
  refine ⟨p, List.mem_filter.mpr ⟨hp, ?_⟩, fits⟩
  have apart : p.id ≠ q.id := fun same => other ((List.inj_on_of_nodup_map law.2.1 hp mem same) ▸ fits.1)
  simpa using apart

/-- The clearing event of another cause leaves a live page of this one. -/
theorem Live.clear {cause object : Nat} (live : Live cause object s) (law : pageLaw s) (c : Cause) (other : c.code ≠ cause) (o : Nat) :
    Live cause object (clearEvent c o s) := by
  unfold clearEvent
  split
  · next q found =>
    have mem := List.mem_of_find?_eq_some found
    have its : q.cause = c.code := by
      have fits := List.find?_some found
      simp only [Bool.and_eq_true, beq_iff_eq] at fits
      exact fits.1.2
    have apart : q.cause ≠ cause := its ▸ other
    unfold retirePage
    split
    · next e _ _ =>
      have asked : Live cause object (pushCancel { page := q.id, address := (s.staff e).address } s) := live
      exact (asked.close (law.pushCancel _) mem apart .event).release _
    · exact (live.close law mem apart .event).release _
    · exact live.close law mem apart .event
    · exact live.close law mem apart .event
  · exact live

/-- With room in the queue a raised cause has its page (R156). -/
theorem raise_live (c : Cause) (g : PageGroup) (o : Nat) (room : s.desk.pages.length < 32) : Live c.code o (raise c g o s) := by
  simp only [raise]
  split
  · next live =>
    obtain ⟨p, hp, same⟩ := List.any_eq_true.mp live
    simp only [Bool.and_eq_true, beq_iff_eq] at same
    exact ⟨p, hp, same⟩
  · rw [if_pos (show s.desk.pages.length < pageCapacity from room)]
    exact ⟨_, List.mem_append_right _ List.mem_cons_self, rfl, rfl⟩

theorem pageLaw.add (law : pageLaw s) (room : s.desk.pages.length < 32) (source : Fin 6) (cause object : Nat) (role : StaffRole)
    (group : PageGroup) (closure : Closure) : pageLaw (addPage source cause object role group closure s) := by
  have fresh := fresh_freePageId room.le
  rw [addPage_eq]
  refine ⟨?_, ?_, law.2.2⟩
  · rw [List.length_append]
    exact room
  · rw [List.map_append, List.nodup_append]
    refine ⟨law.2.1, List.nodup_singleton _, fun a ha b hb same => ?_⟩
    rw [List.map_singleton, List.mem_singleton] at hb
    obtain ⟨p, hp, rfl⟩ := List.mem_map.mp ha
    have found := (page?_eq_some law.2.1).mpr ⟨hp, same.trans hb⟩
    exact nomatch fresh.symm.trans found

/-- The page that a raised cause drops from a full queue stands in it (R157). -/
def droppedFor (c : Cause) (s : State) : Option Page :=
  match lowestQueued s.desk.pages with
  | some m => if m < s.desk.levels.get c.source then youngestQueued s.desk.pages m else none
  | none => none

theorem droppedFor_spec {c : Cause} {p : Page} (h : droppedFor c s = some p) : p ∈ s.desk.pages ∧ p.state = .queued := by
  unfold droppedFor at h
  split at h
  · split at h
    · exact ⟨(mem_of_youngestQueued h).1, (mem_of_youngestQueued h).2.1⟩
    · cases h
  · cases h

/-- A raised cause, by what it finds in the queue (R156, R157). -/
theorem raise_eq (c : Cause) (g : PageGroup) (o : Nat) (s : State) : raise c g o s =
    if s.desk.pages.any fun p => p.cause == c.code && p.object == o then s
    else if s.desk.pages.length < 32 then addPage c.source c.code o c.role g c.closure s
    else match droppedFor c s with
      | some p => addPage c.source c.code o c.role g c.closure (closePage p .dropped s)
      | none => post .pageDropped c.code o s := rfl

theorem length_closePage (law : pageLaw s) {p : Page} (mem : p ∈ s.desk.pages) (o : Outcome) :
    (closePage p o s).desk.pages.length + 1 = s.desk.pages.length := by
  have once : (s.desk.pages.countP fun q => q.id = p.id) = 1 := by
    have count := List.count_eq_one_of_mem law.2.1 (List.mem_map_of_mem (f := (·.id)) mem)
    rw [List.count, List.countP_map] at count
    rw [← count]
    refine List.countP_congr fun q _ => ?_
    simp
  have split := List.length_eq_countP_add_countP (fun q : Page => decide (q.id = p.id)) (l := s.desk.pages)
  have rest : (closePage p o s).desk.pages.length = s.desk.pages.countP fun q => !decide (q.id = p.id) := by
    rw [List.countP_eq_length_filter]
    change (s.desk.pages.filter fun q => q.id ≠ p.id).length = _
    refine congrArg List.length (List.filter_congr fun q _ => ?_)
    simp
  rw [rest]
  have same : (s.desk.pages.countP fun q => decide ¬ (decide (q.id = p.id) = true)) =
      s.desk.pages.countP fun q => !decide (q.id = p.id) := List.countP_congr fun q _ => by simp
  omega

theorem pageLaw.raise (law : pageLaw s) (c : Cause) (g : PageGroup) (o : Nat) : pageLaw (raise c g o s) := by
  rw [raise_eq]
  split
  · exact law
  split
  · next room => exact law.add room _ _ _ _ _ _
  split
  · next p dropped =>
    have mem := (droppedFor_spec dropped).1
    refine ((closePage_fewer p .dropped s).law law).add ?_ _ _ _ _ _ _
    have fewer := length_closePage law mem .dropped
    have most := law.1
    omega
  · exact law

/-- A page of one cause stands, or the queue is full, behind the raise of another (R157). -/
theorem PagedOrFull.raise {cause object : Nat} (h : PagedOrFull cause object s) (law : pageLaw s) (c : Cause) (g : PageGroup) (o : Nat) :
    PagedOrFull cause object (raise c g o s) := by
  rw [raise_eq]
  split
  · exact h
  split
  · next room =>
    rcases h with ⟨p, mem, fits⟩ | full
    · exact .inl ⟨p, List.mem_append_left _ mem, fits⟩
    · omega
  · next full =>
    refine .inr ?_
    split
    · next p dropped =>
      have fewer := length_closePage law (droppedFor_spec dropped).1 .dropped
      rw [addPage_eq, List.length_append, List.length_singleton]
      omega
    · exact Nat.not_lt.mp full

end

section
variable {z : ZoneId} {r : Zone} {g : Program} {s : State}

/-! ### A step's end -/

theorem stepCounts_iff : stepCounts r g = true ↔ g.state = .running ∧ (r.state = .ready ∨ r.state = .recover) := by
  simp [stepCounts]

theorem step?_current {cur : ProgramStep} (some_ : 1 ≤ g.current) (step : g.steps[g.current - 1]? = some cur) :
    g.step? g.current = some cur := by
  rw [Program.step?, if_neg (Nat.one_le_iff_ne_zero.mp some_)]
  exact step

/-- What a step that ends before the last, otherwise than by PAGE_HOLD, does (R86). -/
def nextStep (z : ZoneId) (r : Zone) (g : Program) (cur : ProgramStep) (s : State) : State :=
  if cur.action = .pageNext then raise .stepDone r.group z.val (applyStep z (g.current + 1) s) else applyStep z (g.current + 1) s

theorem stepExpiry_eq (zone : s.zones.get z = some r) (program : r.program = some g) (counts : stepCounts r g = true)
    {cur : ProgramStep} (step : g.step? g.current = some cur) : stepExpiry z s =
    if cur.action = .pageHold then holdProgram z s
    else if g.current < g.steps.length then nextStep z r g cur s else finishProgram z s := by
  unfold stepExpiry nextStep
  simp only [zone, program, counts, step, Bool.true_eq_false, if_false]
  cases cur.action <;> simp

/-- The record that the next step leaves. -/
theorem next_record (r : Zone) (g : Program) (st : ProgramStep) (k : Nat) :
    let k' := (r.stepped g k st).withSetpoint st.setpoint
    k'.setpoint = st.setpoint ∧ k'.soakTime = st.soakTime ∧ k'.fallback = r.fallback ∧
      k'.program = some { g with state := .running, current := k, timer := 6000 * st.duration } ∧
      k'.state = if st.setpoint ≠ r.setpoint ∧ (r.state = .soak ∨ r.state = .ready ∨ r.state = .recover) then .preheat
        else r.state := by
  obtain ⟨setpoint, soak, fallback, prog, -, -, state⟩ := (r.stepped g k st).withSetpoint_fields st.setpoint
  exact ⟨setpoint, soak, fallback, prog, state⟩

/-- Without a cabinet, a setpoint does nothing to pages and staff. -/
theorem changeSetpoint_desk {v : Nat} (zone : s.zones.get z = some r) (oven : r.kind = .oven) :
    SameDesk s (changeSetpoint z v s) := by
  by_cases same : r.setpoint = v
  · have left : changeSetpoint z v s = s := by
      simp only [changeSetpoint, zone, if_pos same]
    rw [left]
    exact .refl s
  by_cases runs : r.state = .soak ∨ r.state = .ready ∨ r.state = .recover
  · rw [changeSetpoint_of_runs zone same runs, enterQuietly]
    have stored : (s.setZone z { r with setpoint := v }).zones.get z = some { r with setpoint := v } := by simp
    have none_ : (moveZone z .preheat (s.setZone z { r with setpoint := v })).cabinet? z = none := by
      rw [cabinet?_entered stored (moveZone_of stored .preheat), State.cabinet?, stored]
      simp [oven]
    rw [testRestock_of_not_due (by rw [taskDue, none_])]
    exact SameDesk.trans (t := s.setZone z { r with setpoint := v }) ⟨rfl, rfl⟩ (moveZone_desk _ _ _)
  · rw [changeSetpoint_of_stays zone same runs]
    exact ⟨rfl, rfl⟩

theorem applyStep_desk (zone : s.zones.get z = some r) (program : r.program = some g) (oven : r.kind = .oven) {k : Nat}
    {st : ProgramStep} (step : g.step? k = some st) : SameDesk s (applyStep z k s) := by
  have stored : (s.setZone z (r.stepped g k st)).zones.get z = some (r.stepped g k st) := by simp
  rw [applyStep_eq zone program step]
  exact SameDesk.trans (t := s.setZone z (r.stepped g k st)) ⟨rfl, rfl⟩ (changeSetpoint_desk stored oven)

/-- Settles O30: the next step is applied by the timer's expiry or by PROGRAM_ADVANCE. -/
theorem nextStepIsApplied : Obligations.NextStepIsApplied := by
  intro z r g st s quiet zone program before step
  have following : g.step? (g.current + 1) = some st := step?_of_get step
  refine ⟨fun cur running waits some_ current notHold => ?_, fun t judged oven held => ?_⟩
  · rw [exec_quiet (f := stepExpiry z) rfl quiet, stepExpiry_eq zone program (stepCounts_iff.mpr ⟨running, waits⟩)
      (step?_current some_ current), if_neg notHold, if_pos before]
    have zones := applyStep_zones zone program following
    refine ⟨_, rfl, ?_, ⟨_, ?_, next_record r g st (g.current + 1)⟩, fun paged => ?_⟩
    · unfold nextStep
      split
      · exact (applyStep_touches _ _ _).trans (raise_touches _ _ _ _).stock
      · exact applyStep_touches _ _ _
    · unfold nextStep
      split
      · exact ((raise_touches _ _ _ _).within.zones (by simp)).trans zones
      · exact zones
    · rw [nextStep, if_pos paged]
      exact raise_paged .stepDone r.group z.val _
  · have zone' : (heard t s).zones.get z = some r := by rw [heard_zones]; exact zone
    have desk := applyStep_desk zone' program oven following
    rw [exec_zone (body := programAdvance t.port z.val) rfl judged, programAdvance, withOven_judged judged oven program,
      if_neg (not_not.mpr held), if_pos before]
    refine ⟨_, applyStep z (g.current + 1) (heard t s), rfl, (applyStep_touches _ _ _).trans (clearEvent_touches _ _ _).stock,
      ⟨_, ?_, next_record r g st (g.current + 1)⟩, rfl, desk.1, desk.2⟩
    rw [(clearEvent_touches _ _ _).within.zones (by simp), applyStep_zones zone' program following, heard_zones]

/-! ### HELD and DONE (R87, R88) -/

theorem holdProgram_eq (zone : s.zones.get z = some r) (program : r.program = some g) : holdProgram z s =
    post .programState z.val 3 (raise .stepHold r.group z.val
      (s.setZone z { r with program := some { g with state := .held, timer := 0 } })) := by
  unfold holdProgram
  rw [zone, Option.bind_some, program]
  dsimp only
  rw [changeZone_of zone]
  have group : (s.setZone z { r with program := some { g with state := .held, timer := 0 } }).zoneGroup z = r.group := by
    rw [State.zoneGroup, State.setZone_zones, Table.get_set_same]
  rw [group]
  rfl

/-- The record of a zone whose program is done, its hold setpoint still to be applied. -/
def Zone.finished (r : Zone) (g : Program) : Zone :=
  { r with program := some { g with state := .done, lastRun := g.current, timer := 0 } }

theorem finishProgram_eq (zone : s.zones.get z = some r) (program : r.program = some g) : ∃ group, finishProgram z s =
    post .programState z.val 4 (raise .programDone group z.val (changeSetpoint z g.hold (s.setZone z (r.finished g)))) := by
  unfold finishProgram
  rw [zone, Option.bind_some, program]
  dsimp only
  rw [changeZone_of zone]
  exact ⟨_, rfl⟩

theorem finishProgram_zones (zone : s.zones.get z = some r) (program : r.program = some g) :
    (finishProgram z s).zones = s.zones.set z (some ((r.finished g).withSetpoint g.hold)) := by
  have stored : (s.setZone z (r.finished g)).zones.get z = some (r.finished g) := by simp
  obtain ⟨group, eq⟩ := finishProgram_eq zone program
  rw [eq, post_zones, (raise_touches _ _ _ _).within.zones (by simp), changeSetpoint_zones stored, State.setZone_zones, Table.set_set]

theorem changeSetpoint_grown (zone : s.zones.get z = some r) (v : Nat) : Grown s (changeSetpoint z v s) := by
  by_cases same : r.setpoint = v
  · have left : changeSetpoint z v s = s := by simp only [changeSetpoint, zone, if_pos same]
    rw [left]
    exact Grown.refl s
  by_cases runs : r.state = .soak ∨ r.state = .ready ∨ r.state = .recover
  · rw [changeSetpoint_of_runs zone same runs]
    exact Grown.trans (t := s.setZone z { r with setpoint := v }) (Grown.of_ports rfl)
      ((moveZone_grown _ _ _).trans (grown_ops.toStockOps.testRestock z _))
  · rw [changeSetpoint_of_stays zone same runs]
    exact Grown.of_ports rfl

/-- What the end of the last step does (R88). -/
theorem finishProgram_done (zone : s.zones.get z = some r) (program : r.program = some g) :
    (∃ k, (finishProgram z s).zones = s.zones.set z (some k) ∧ k.setpoint = g.hold ∧ k.soakTime = r.soakTime ∧
      k.program = some { g with state := .done, lastRun := g.current, timer := 0 } ∧
      k.state = if g.hold ≠ r.setpoint ∧ (r.state = .soak ∨ r.state = .ready ∨ r.state = .recover) then .preheat else r.state) ∧
    PagedOrFull 66 z.val (finishProgram z s) ∧ Noticed .programState z.val 4 s (finishProgram z s) := by
  obtain ⟨setpoint, soak, -, prog, -, -, state⟩ := (r.finished g).withSetpoint_fields g.hold
  refine ⟨⟨_, finishProgram_zones zone program, setpoint, soak, prog, state⟩, ?_⟩
  obtain ⟨group, eq⟩ := finishProgram_eq zone program
  have stored : (s.setZone z (r.finished g)).zones.get z = some (r.finished g) := by simp
  have grown := changeSetpoint_grown stored g.hold
  have time := (changeSetpoint_touches z g.hold (s.setZone z (r.finished g))).within.time (by simp)
  rw [eq]
  generalize changeSetpoint z g.hold (s.setZone z (r.finished g)) = u at grown time ⊢
  refine ⟨(raise_paged .programDone group z.val u).of_desk rfl, noticed_post _ _ _ (fun p => ?_) ?_⟩
  · exact (raise_grown _ _ _ _ p).role.trans (grown p).role
  · exact congrArg TimeBase.clock (((raise_touches _ _ _ _).within.time (by simp)).trans time)

/-- Settles O31: the program is held, or the last step makes it done. -/
theorem programIsHeldOrDone : Obligations.ProgramIsHeldOrDone := by
  intro z r g s quiet zone program
  refine ⟨fun stopped => ?_, fun cur counts some_ current => ⟨fun hold => ?_, fun notHold last => ?_⟩, fun t judged oven =>
    ⟨fun notHeld => ?_, fun held last => ?_⟩⟩
  · rw [exec_quiet (f := stepExpiry z) rfl quiet, stepExpiry, zone]
    dsimp only
    rw [program]
    dsimp only
    rw [if_pos (Bool.eq_false_iff.mpr fun counts => stopped (stepCounts_iff.mp counts))]
  · rw [exec_quiet (f := stepExpiry z) rfl quiet, stepExpiry_eq zone program (stepCounts_iff.mpr counts) (step?_current some_ current),
      if_pos hold]
    refine ⟨_, rfl, holdProgram_touches z s, ?_⟩
    rw [holdProgram_eq zone program]
    refine ⟨?_, (raise_paged .stepHold r.group z.val _).of_desk rfl, noticed_post _ _ _ (fun p => ?_) ?_⟩
    · rw [post_zones, (raise_touches _ _ _ _).within.zones (by simp)]
      rfl
    · exact (raise_grown _ _ _ _ p).role
    · exact congrArg TimeBase.clock ((raise_touches _ _ _ _).within.time (by simp))
  · rw [exec_quiet (f := stepExpiry z) rfl quiet, stepExpiry_eq zone program (stepCounts_iff.mpr counts) (step?_current some_ current),
      if_neg notHold, if_neg (Nat.not_lt.mpr last)]
    exact ⟨_, rfl, finishProgram_touches z s, finishProgram_done zone program⟩
  · rw [exec_zone (body := programAdvance t.port z.val) rfl judged, programAdvance, withOven_judged judged oven program, if_pos notHeld]
    rfl
  · rw [exec_zone (body := programAdvance t.port z.val) rfl judged, programAdvance, withOven_judged judged oven program,
      if_neg (not_not.mpr held), if_neg (Nat.not_lt.mpr last)]
    have zone' : (heard t s).zones.get z = some r := by rw [heard_zones]; exact zone
    obtain ⟨done, paged, noticed⟩ := finishProgram_done zone' program
    have stored : ((heard t s).setZone z (r.finished g)).zones.get z = some (r.finished g) := by simp
    have cleared := clearEvent_touches .stepHold z.val (finishProgram z (heard t s))
    have noticed' := noticed.from (s := s) (heard_role t s) (by rw [heard_time])
    have touched := finishProgram_touches z (heard t s)
    have alive : pageLaw s → s.desk.pages.length < 32 → Live 66 z.val (clearEvent .stepHold z.val (finishProgram z (heard t s))) :=
      fun law room => by
        obtain ⟨group, eq⟩ := finishProgram_eq zone' program
        have desk := SameDesk.trans (t := (heard t s).setZone z (r.finished g)) (s := heard t s) ⟨rfl, rfl⟩
          (changeSetpoint_desk (v := g.hold) stored oven)
        have room' : (changeSetpoint z g.hold ((heard t s).setZone z (r.finished g))).desk.pages.length < 32 := by
          rw [desk.1]
          exact (heard_fewer t s).length.trans_lt room
        have law' : pageLaw (changeSetpoint z g.hold ((heard t s).setZone z (r.finished g))) :=
          (Fewer.of_desk desk.1).law ((heard_fewer t s).law law)
        rw [eq]
        exact Live.clear (s := post .programState z.val 4 (raise .programDone group z.val _))
          (raise_live .programDone group z.val room') (law'.raise .programDone group z.val) .stepHold (by decide) z.val
    rw [heard_zones] at done
    refine ⟨_, finishProgram z (heard t s), rfl, touched.trans cleared.stock, ?_, noticed'.grown (clearEvent_grown _ _ _), rfl, touched,
      done, paged, noticed', alive⟩
    dsimp only
    rw [cleared.within.zones (by simp)]
    exact done

end

end Sys2Proof.Machine
end

section
/-! PROOF. The dish line: its configuration, loading and purging, and the two inner events (06_the_dish_line.md). -/

namespace Sys2Proof.Machine

/-! ### LINE_CONFIG (R99) -/

/-- Refusals with different statuses differ in the slot of their port (R182). -/
theorem refusedWith_inj {t : Transfer} {a b : Status} {s : State} (h : refusedWith t a s = refusedWith t b s) : a = b := by
  have status : ∀ why, (((refusedWith t why s).ports.get t.port).slot).map (·.status) = some why := fun why => by
    simp [refusedWith, answered, placeAnswer, placeReply]
  have slots := congrArg (fun w : State => ((w.ports.get t.port).slot).map (·.status)) h
  simp only [status] at slots
  exact Option.some.inj slots

/-- Past its four codes a polarity byte reads as NONE: the last `none` of the table is the polarity of that name. -/
theorem Polarity.ofCode?_four : Polarity.ofCode? 4 = some Polarity.none := rfl

/-- A LINE_CONFIG whose numbers read as zones, polarities and a group, with thresholds in range and both zones there, is refused with
STATE while a rack is in the queue. -/
theorem lineConfig_busy {l : LineSettings} {s : State} {wash booster : ZoneId} {pe px po : Polarity} {g : PageGroup}
    (hw : l.wash = wash.val) (hb : l.booster = booster.val) (he : Polarity.ofCode? l.enterPolarity = some pe)
    (hx : Polarity.ofCode? l.exitPolarity = some px) (ho : Polarity.ofCode? l.outPolarity = some po)
    (hg : PageGroup.ofCode? l.group = some g)
    (within : (400 ≤ l.washThreshold ∧ l.washThreshold ≤ 800) ∧ 700 ≤ l.rinseThreshold ∧ l.rinseThreshold ≤ 900)
    (washes : ∃ r ∈ s.zones.get wash, r.kind = .washTank) (rinses : ∃ r ∈ s.zones.get booster, r.kind = .rinseBooster)
    (busy : s.line.racks ≠ []) : lineConfig l s = refuse .state s := by
  obtain ⟨r, wash_, kind⟩ := washes
  obtain ⟨q, booster_, kind'⟩ := rinses
  rw [Option.mem_def] at wash_ booster_
  unfold lineConfig
  simp only [hw, hb, he, hx, ho, hg, index?_val]
  rw [if_neg (by omega), if_neg (by simp [wash_, booster_]), if_neg (by simp [zoneIsOf, wash_, booster_, kind, kind']), if_pos busy]

/-- Refutes O32: in `kitchen`, a LINE_CONFIG with polarity byte 4 for RINSE_ENTER and every other item in its range is not refused
with RANGE. The byte reads as polarity NONE (`Polarity.ofCode?_four`), and the racks in the queue refuse the command with STATE. -/
theorem not_lineConfigNamesItsZones : ¬ Obligations.LineConfigNamesItsZones := by
  intro h
  obtain ⟨judged, ⟨hw, hb, he, hx, ho, hg⟩, within, -, ⟨washes, rinses, -⟩, busy, -⟩ := meets_LineConfigNamesItsZones
  obtain ⟨outOfRange, -⟩ := h ware lineSettings 2 3 .both .none .rise (.group 7) kitchen judged hw hb he hx ho hg
  have refused := outOfRange { lineSettings with enterPolarity := 4 } (.inr (.inr (.inl (Nat.lt_succ_self 3))))
  have answer : lineConfig { lineSettings with enterPolarity := 4 } (heard ware kitchen) = refuse .state (heard ware kitchen) :=
    lineConfig_busy (wash := 2) (booster := 3) (pe := .none) (px := .none) (po := .rise) (g := .group 7) hw hb Polarity.ofCode?_four rfl
      rfl hg ⟨⟨within.1, within.2.1⟩, within.2.2⟩ (by rw [heard_zones]; exact washes) (by rw [heard_zones]; exact rinses)
      (by rw [heard_line]; exact busy)
  rw [exec_of_request (body := lineConfig { lineSettings with enterPolarity := 4 }) rfl, command_judged judged, answer] at refused
  cases refusedWith_inj (Host.Outcome.next.inj refused)

section
variable {s : State}

/-! ### RACK_LOAD (R102, R103) -/

theorem startMinimum_eq (s : State) (zone : Option ZoneId) (kind : ZoneKind) : startMinimum s zone kind =
    if standsIn s zone kind = .off ∨ standsIn s zone kind = .fault then 0
    else match zone.bind s.zones.get with | some r => zoneReading s r | none => 0 := by
  unfold startMinimum
  cases standsIn s zone kind <;> simp only [reduceCtorEq, or_self, or_true, true_or, if_true, if_false] <;> rfl

theorem rackLoad_judged (tag count : Nat) (k : WareId) (s : State) : rackLoad tag k.val count s =
    if 255 < tag ∨ count < 1 ∨ 40 < count then refuse .range s
    else if s.line.configured = false then refuse .state s
    else if (s.wares.get k).defined = false then refuse .notFound s
    else if 12 ≤ s.line.racks.length then refuse .full s
    else if ∃ r ∈ s.line.racks, r.tag = tag then refuse .duplicate s
    else if (s.wares.get k).soiled = 0 then refuse .empty s
    else acceptClamped (decide ((s.wares.get k).soiled < count)) [] { s with
      wares := s.wares.set k { s.wares.get k with soiled := (s.wares.get k).soiled - min count (s.wares.get k).soiled }
      line := { s.line with racks := s.line.racks ++ [{
        tag := tag, kind := k, count := min count (s.wares.get k).soiled, stage := .wash
        washMin := startMinimum s s.line.wash .washTank, rinseMin := none, verdict := .pending, entered := s.time.clock }] } } := by
  have tagged : (s.line.racks.any fun r => r.tag == tag) = decide (∃ r ∈ s.line.racks, r.tag = tag) := by
    rw [Bool.eq_iff_iff]
    simp
  unfold rackLoad
  simp only [index?_val, tagged, decide_eq_true_eq, min_bne_self]
  rfl

/-! ### LINE_PURGE (R111) -/

/-- A rack condemned gives its plates to SOILED, and its RACK_REWASH has a page or the queue is full (R109, R111). -/
theorem condemn_eq (r : Rack) (s : State) : ∃ d t p, (condemn r s = { s with
    wares := s.wares.set r.kind { s.wares.get r.kind with soiled := (s.wares.get r.kind).soiled + r.count }
    desk := d, roster := t, ports := p }) ∧ (∀ q, SamePort (s.ports.get q) (p.get q)) ∧
    PagedOrFull 16 r.tag (condemn r s) ∧ Grown s (condemn r s) := by
  have ran : condemn r s = raise .rackRewash s.line.group r.tag (s.setWare r.kind
    { s.wares.get r.kind with soiled := (s.wares.get r.kind).soiled + r.count }) := rfl
  generalize stored : s.setWare r.kind { s.wares.get r.kind with soiled := (s.wares.get r.kind).soiled + r.count } = u at ran
  obtain ⟨⟨d, t, p, eq⟩, ports⟩ := raise_touches .rackRewash s.line.group r.tag u
  have same : u.ports = s.ports := by rw [← stored]; rfl
  rw [eq] at ports
  refine ⟨d, t, p, ?_, fun q => ?_, ?_, ?_⟩
  · rw [ran, eq, ← stored]
    rfl
  · have kept := ports q
    rwa [same] at kept
  · rw [ran]
    exact raise_paged .rackRewash _ _ _
  · rw [ran]
    exact (Grown.of_ports same).trans (raise_grown _ _ _ _)

/-- A rack leaves the head of the queue and gives its plates to SOILED (R111). -/
def purged (s : State) (r : Rack) : State := condemn r (dropHead s)

theorem purged_eq (r : Rack) (s : State) : ∃ d t p, (purged s r = { s with
    line := { s.line with racks := s.line.racks.drop 1 }
    wares := s.wares.set r.kind { s.wares.get r.kind with soiled := (s.wares.get r.kind).soiled + r.count }
    desk := d, roster := t, ports := p }) ∧ ∀ q, SamePort (s.ports.get q) (p.get q) := by
  obtain ⟨d, t, p, eq, ports, -⟩ := condemn_eq r (dropHead s)
  exact ⟨d, t, p, eq, ports⟩

/-- Of the line, racks that leave the head of the queue change the queue alone. -/
theorem foldl_purged_touches (l : List Rack) : ∀ s : State,
    ServiceOnly { s with line := { s.line with racks := s.line.racks.drop l.length } } (l.foldl purged s) ∧
      (l.foldl purged s).line.permit = s.line.permit ∧ (l.foldl purged s).zones = s.zones ∧
      (l.foldl purged s).restock = s.restock ∧ (l.foldl purged s).courses = s.courses := by
  induction l with
  | nil => exact fun s => ⟨ServiceOnly.refl s, rfl, rfl, rfl, rfl⟩
  | cons r l ih =>
    intro s
    obtain ⟨d, t, p, eq, ports⟩ := purged_eq r s
    rw [List.foldl_cons, eq]
    obtain ⟨touched, permit, zones, restock, courses⟩ := ih { s with
      line := { s.line with racks := s.line.racks.drop 1 }
      wares := s.wares.set r.kind { s.wares.get r.kind with soiled := (s.wares.get r.kind).soiled + r.count }
      desk := d, roster := t, ports := p }
    refine ⟨ServiceOnly.trans ?_ touched, permit, zones, restock, courses⟩
    dsimp only
    rw [List.drop_drop, List.length_cons, Nat.add_comm 1]
    exact ⟨⟨s.zones, s.line.permit, _, s.restock, s.courses, d, t, p, rfl⟩, ports⟩

theorem foldl_purged_ware (k : WareId) (l : List Rack) : ∀ s : State, (l.foldl purged s).wares.get k =
    { s.wares.get k with soiled := (s.wares.get k).soiled + ((l.filter fun r => r.kind == k).map (·.count)).sum } := by
  induction l with
  | nil => exact fun s => rfl
  | cons r l ih =>
    intro s
    obtain ⟨d, t, p, eq, -⟩ := purged_eq r s
    rw [List.foldl_cons, ih, eq]
    dsimp only
    rw [Table.get_set]
    by_cases same : r.kind = k
    · rw [List.filter_cons_of_pos (by simpa using same), List.map_cons, List.sum_cons, if_pos same.symm, same, Nat.add_assoc]
    · rw [List.filter_cons_of_neg (by simpa using same), if_neg (Ne.symm same)]

/-- With room a raised cause adds one page at most, and keeps every live one. -/
theorem raise_room (c : Cause) (g : PageGroup) (o : Nat) (room : s.desk.pages.length < 32) :
    (raise c g o s).desk.pages.length ≤ s.desk.pages.length + 1 ∧
      ∀ {cause object}, Live cause object s → Live cause object (raise c g o s) := by
  rw [raise_eq, if_pos room]
  split
  · exact ⟨Nat.le_succ _, id⟩
  · rw [addPage_eq]
    refine ⟨by rw [List.length_append]; rfl, ?_⟩
    rintro cause object ⟨p, mem, fits⟩
    exact ⟨p, List.mem_append_left _ mem, fits⟩

/-- With room for all, every rack purged has its page. -/
theorem foldl_purged_live (l : List Rack) : ∀ s : State, l.length + s.desk.pages.length ≤ 32 →
    (∀ r ∈ l, Live 16 r.tag (l.foldl purged s)) ∧ ∀ {cause object}, Live cause object s → Live cause object (l.foldl purged s) := by
  induction l with
  | nil => exact fun s _ => ⟨nofun, id⟩
  | cons r l ih =>
    intro s room
    rw [List.length_cons] at room
    have fits : s.desk.pages.length < 32 := by omega
    have grown := raise_room (s := (dropHead s).setWare r.kind
      { s.wares.get r.kind with soiled := (s.wares.get r.kind).soiled + r.count }) .rackRewash s.line.group r.tag fits
    have raised : Live 16 r.tag (purged s r) := raise_live (s := (dropHead s).setWare r.kind _) .rackRewash s.line.group r.tag fits
    have longer : (purged s r).desk.pages.length ≤ s.desk.pages.length + 1 := grown.1
    obtain ⟨all, kept⟩ := ih (purged s r) (by omega)
    refine ⟨fun q mem => ?_, fun live => kept (grown.2 live)⟩
    rcases List.mem_cons.mp mem with rfl | later
    · exact kept raised
    · exact all q later

/-- Settles O33. -/
theorem racksAreLoadedAndPurged : Obligations.RacksAreLoadedAndPurged := by
  refine ⟨fun t tag kind count s judged past => ?_, fun t tag count k s judged => ?_, fun t s judged => ?_⟩
  · rw [exec_of_request (body := rackLoad tag kind count) rfl, command_judged judged, rackLoad, index?_eq_none_iff.mpr past]
    rfl
  · have start : startMinimum (heard t s) s.line.wash .washTank = if washState s = .off ∨ washState s = .fault then 0
        else match s.line.wash.bind s.zones.get with | some r => zoneReading s r | none => 0 := by
      have stands : standsIn (heard t s) s.line.wash .washTank = washState s := by
        unfold washState standsIn
        rw [heard_zones]
      have reads : ∀ r, zoneReading (heard t s) r = zoneReading s r := fun r => by rw [zoneReading, heard_scan]; rfl
      rw [startMinimum_eq, stands, heard_zones]
      simp only [reads]
    rw [exec_of_request (body := rackLoad tag k.val count) rfl, command_judged judged, rackLoad_judged]
    simp only [heard_line, heard_wares, heard_time, start]
    congr 1
    split_ifs <;> rfl
  · have purging : exec (.linePurge t) s = .next (answered t .ok (bigEndian 1 s.line.racks.length)
        ((heard t s).line.racks.foldl purged (heard t s))) := by
      rw [exec_of_request (body := linePurge) rfl, command_judged judged, linePurge, placeAnswer_reply, heard_line]
      rfl
    rw [purging, heard_line]
    obtain ⟨touched, permit, zones, restock, courses⟩ := foldl_purged_touches s.line.racks (heard t s)
    rw [heard_line, List.drop_length] at touched
    refine ⟨_, rfl, touched, by rw [permit, heard_line], by rw [zones, heard_zones], by rw [restock, heard_restock],
      by rw [courses, heard_courses], fun k => ?_, fun room => ?_⟩
    · rw [foldl_purged_ware, heard_wares]
      rfl
    · have fewer := (heard_fewer t s).length
      exact (foldl_purged_live s.line.racks (heard t s) (by omega)).1

/-! ### RINSE_ENTER and RINSE_EXIT (R106, R107) -/

theorem advanceRack_split {stage : Stage} (f : Rack → Rack) {front back : List Rack} {r : Rack} (here : r.stage = stage)
    (others : ∀ q ∈ front, q.stage ≠ stage) : advanceRack stage f (front ++ r :: back) = some (front ++ f r :: back) :=
  advanceRack_eq_some.mpr ⟨front, r, back, rfl, others, here, rfl⟩

/-- Settles O34. -/
theorem rinseEventsMoveTheOldestRack : Obligations.RinseEventsMoveTheOldestRack := by
  intro s front r back quiet
  have low : startMinimum (seeTransition .rinseEnter s) s.line.booster .rinseBooster =
      if boosterState s = .off ∨ boosterState s = .fault then 0
      else match s.line.booster.bind s.zones.get with | some b => zoneReading s b | none => 0 := startMinimum_eq _ _ _
  refine ⟨fun racks stage others => ?_, fun missing => ?_, fun racks stage others => ?_, fun missing => ?_,
    exec_quiet (f := seeTransition .rinseEnter) rfl quiet, exec_quiet (f := seeTransition .rinseExit) rfl quiet,
    exec_quiet (f := seeTransition .rackOut) rfl quiet⟩
  · rw [exec_quiet (f := rinseEnter) rfl quiet, rinseEnter, enterRinse]
    have seen : (seeTransition .rinseEnter s).line.racks = front ++ r :: back := racks
    rw [seen, advanceRack_split _ stage others]
    dsimp only
    rw [show (seeTransition .rinseEnter s).line.booster = s.line.booster from rfl, low]
    rfl
  · rw [exec_quiet (f := rinseEnter) rfl quiet, rinseEnter, enterRinse]
    have seen : (seeTransition .rinseEnter s).line.racks = s.line.racks := rfl
    dsimp only
    rw [seen, advanceRack_eq_none.mpr missing]
    rfl
  · rw [exec_quiet (f := rinseExit) rfl quiet, rinseExit, leaveRinse]
    have seen : (seeTransition .rinseExit s).line.racks = front ++ r :: back := racks
    have found : (front ++ r :: back).find? (fun r => r.stage == .rinse) = some r := by
      rw [List.find?_append, List.find?_eq_none.mpr fun q hq => by simpa using others q hq, Option.none_or,
        List.find?_cons_of_pos (by simpa using stage)]
    rw [seen, advanceRack_split _ stage others, found]
    rfl
  · rw [exec_quiet (f := rinseExit) rfl quiet, rinseExit, leaveRinse]
    have seen : (seeTransition .rinseExit s).line.racks = s.line.racks := rfl
    rw [seen, advanceRack_eq_none.mpr missing]
    split
    · next h => cases h
    · rfl

end

end Sys2Proof.Machine
end

section
/-! PROOF. WAITING tasks that a rise of CLEAN wakes (R130), and the head of the rack queue unloaded (R108, R109). -/

namespace Sys2Proof.Machine

section
variable {k : WareId} {z : ZoneId} {s : State}

/-! ### One task wakes -/

/-- The open task of a cabinet waits for plates of a kind. -/
def AwaitedAt (k : WareId) (s : State) (z : ZoneId) : Prop := ∃ t ∈ s.restock, t.cabinet = z ∧ t.kind = k ∧ t.paged = false

theorem task?_eq_some (law : taskLaw s) {t : RestockTask} : s.task? z = some t ↔ t ∈ s.restock ∧ t.cabinet = z := by
  unfold State.task?
  refine ⟨fun found => ⟨List.mem_of_find?_eq_some found, by simpa using List.find?_some found⟩, fun ⟨mem, its⟩ => ?_⟩
  cases found : s.restock.find? fun t => t.cabinet == z with
  | none => exact absurd its (by simpa using List.find?_eq_none.mp found t mem)
  | some q =>
    have its' : q.cabinet = z := by simpa using List.find?_some found
    rw [List.inj_on_of_nodup_map law (List.mem_of_find?_eq_some found) mem (its'.trans its.symm)]

/-- What the woken task's report does to its zone's record (R71, R72). -/
def Zone.reported (r : Zone) : Zone :=
  if r.state = .standby then r.enter .preheat
  else if r.kind = .warmer ∧ r.state = .ready then { r with standbyTimer := none } else r

/-- The restock list with the task of a cabinet PAGED. -/
def pagedAt (z : ZoneId) (l : List RestockTask) : List RestockTask :=
  l.map fun t => if t.cabinet = z then { t with paged := true } else t

/-- A PAGED task does not let the standby timer run. -/
theorem standbyHolds_pagedAt (l : List RestockTask) (restock : s.restock = pagedAt z l) : standbyHolds s z = false := by
  unfold standbyHolds
  split
  · next t _ found =>
    have paged : t.paged = true := by
      rw [State.task?, restock] at found
      obtain ⟨q, -, rfl⟩ := List.mem_map.mp (List.mem_of_find?_eq_some found)
      have its := List.find?_some found
      split at its <;> split
      · rfl
      · contradiction
      · contradiction
      · next other _ => exact absurd (by simpa using its) other
    rw [paged]
    simp
  · rfl

/-- The report of a task that became PAGED, on the zones. -/
theorem report_zones_of_paged (l : List RestockTask) (restock : s.restock = pagedAt z l) (y : ZoneId) :
    (report z true s).zones.get y = (s.zones.get y).map fun r => if y = z then Zone.reported r else r := by
  have stopped := standbyHolds_pagedAt l restock
  unfold report
  dsimp only
  rw [if_pos rfl]
  cases zone : s.zones.get z with
  | none =>
    have same : refreshStandby z s = s := by simp only [refreshStandby, zone]
    have off : s.zoneState z ≠ .standby := by rw [State.zoneState, zone]; nofun
    rw [same, wakeStandby, if_neg off]
    by_cases here : y = z
    · rw [here, zone]; rfl
    · simp [if_neg here]
  | some r =>
    have refreshed : (refreshStandby z s).zones.get y = (s.zones.get y).map fun r =>
        if y = z then (if r.kind = .warmer ∧ r.state = .ready then { r with standbyTimer := none } else r) else r := by
      simp only [refreshStandby, zone, stopped]
      by_cases ready : r.kind = .warmer ∧ r.state = .ready
      · rw [if_pos ready, if_neg Bool.false_ne_true, setZone_get]
        by_cases here : y = z
        · simp [here, zone, ready]
        · simp [here]
      · rw [if_neg ready]
        by_cases here : y = z
        · simp [here, zone, ready]
        · simp [here]
    by_cases standby : r.state = .standby
    · have same : refreshStandby z s = s := by simp [refreshStandby, zone, standby]
      have state : s.zoneState z = .standby := (zoneState_of zone).trans standby
      rw [same, wakeStandby, if_pos state, moveZone_of zone, Table.get_set]
      by_cases here : y = z
      · simp [here, zone, Zone.reported, standby]
      · simp [here]
    · have state : (refreshStandby z s).zoneState z ≠ .standby := by
        intro h
        rcases refreshStandby_eq z s with same | ⟨q, t, zone', set⟩
        · rw [same, zoneState_of zone] at h
          exact standby h
        · rw [zone] at zone'
          cases zone'
          rw [set, zoneState_of (r := { r with standbyTimer := t }) (by simp)] at h
          exact standby h
      rw [wakeStandby, if_neg state, refreshed]
      by_cases here : y = z
      · simp [here, zone, Zone.reported, standby]
      · simp [here]

theorem wakeTask_left (none_ : ¬ AwaitedAt k s z) : wakeTask k s z = s := by
  unfold wakeTask
  split
  · next t found =>
    refine if_neg fun waits => none_ ⟨t, List.mem_of_find?_eq_some found, by simpa using List.find?_some found, waits⟩
  · rfl

/-- The state in which a task that becomes PAGED is reported to its zone (R130, R133, R135). -/
def taskWoken (z : ZoneId) (s : State) : State :=
  post .restockTask z.val 1 (raise .restock (s.zoneGroup z) z.val { s with restock := pagedAt z s.restock })

theorem wakeTask_eq (law : taskLaw s) (waits : AwaitedAt k s z) : wakeTask k s z = report z true (taskWoken z s) := by
  obtain ⟨t, mem, its, kind, paged⟩ := waits
  rw [wakeTask, (task?_eq_some law).mpr ⟨mem, its⟩]
  dsimp only
  rw [if_pos ⟨kind, paged⟩]
  rfl

/-- What one wakening does where the task waits. -/
structure Woken (z : ZoneId) (s u : State) : Prop where
  restock : u.restock = pagedAt z s.restock
  zones : ∀ y, u.zones.get y = (s.zones.get y).map fun r => if y = z then Zone.reported r else r
  paged : PagedOrFull 48 z.val u
  noticed : Noticed .restockTask z.val 1 s u
  keeps : ∀ {cause object}, pageLaw s → PagedOrFull cause object s → PagedOrFull cause object u
  pages : pageLaw s → pageLaw u

theorem wakeTask_woken (law : taskLaw s) (waits : AwaitedAt k s z) : Woken z s (wakeTask k s z) := by
  rw [wakeTask_eq law waits]
  have reported := report_within z true (taskWoken z s)
  have raised := (raise_touches .restock (s.zoneGroup z) z.val { s with restock := pagedAt z s.restock }).within
  have restock : (taskWoken z s).restock = pagedAt z s.restock := by
    rw [taskWoken, post_restock]
    exact raised.restock (by simp)
  have zones : (taskWoken z s).zones = s.zones := by
    rw [taskWoken, post_zones]
    exact raised.zones (by simp)
  have desk := reported.desk (by simp)
  refine ⟨(reported.restock (by simp)).trans restock, fun y => ?_, ?_, ?_, fun law full => ?_, fun law => ?_⟩
  · rw [report_zones_of_paged s.restock restock, zones]
  · exact PagedOrFull.of_desk (s := taskWoken z s) ((raise_paged .restock _ _ _).of_desk rfl) desk
  · refine Noticed.grown (u := taskWoken z s) ?_ (grown_ops.toStockOps.report _ _ _)
    exact noticed_post _ _ _ (fun p => (raise_grown _ _ _ _ p).role) (congrArg TimeBase.clock (raised.time (by simp)))
  · refine PagedOrFull.of_desk (s := taskWoken z s) ?_ desk
    have before : PagedOrFull _ _ { s with restock := pagedAt z s.restock } := full.of_desk rfl
    exact (before.raise (s := { s with restock := pagedAt z s.restock }) law .restock _ _).of_desk rfl
  · refine (Fewer.of_desk (s := taskWoken z s) desk).law ?_
    exact pageLaw.raise (s := { s with restock := pagedAt z s.restock }) law .restock (s.zoneGroup z) z.val

/-! ### All tasks of a kind wake -/

/-- A woken task of the kind, of one of some cabinets. -/
def wokenOf (k : WareId) (l : List ZoneId) (t : RestockTask) : RestockTask :=
  if t.cabinet ∈ l ∧ t.kind = k ∧ t.paged = false then { t with paged := true } else t

theorem awaitedAt_pagedAt {y : ZoneId} (other : y ≠ z) {u : State} (restock : u.restock = pagedAt z s.restock) :
    AwaitedAt k u y ↔ AwaitedAt k s y := by
  unfold AwaitedAt
  rw [restock]
  constructor
  · rintro ⟨t, mem, its, waits⟩
    obtain ⟨q, hq, rfl⟩ := List.mem_map.mp mem
    by_cases here : q.cabinet = z
    · rw [if_pos here] at its
      exact absurd (its.symm.trans here) other
    · rw [if_neg here] at its waits
      exact ⟨q, hq, its, waits⟩
  · rintro ⟨t, mem, its, waits⟩
    refine ⟨t, List.mem_map.mpr ⟨t, mem, if_neg fun here => other (its.symm.trans here)⟩, its, waits⟩

/-- What the wakening of the tasks of some cabinets does. -/
structure AllWoken (k : WareId) (l : List ZoneId) (s u : State) : Prop where
  restock : u.restock = s.restock.map (wokenOf k l)
  zones : ∀ y, (y ∈ l ∧ AwaitedAt k s y → u.zones.get y = (s.zones.get y).map Zone.reported) ∧
    (¬ (y ∈ l ∧ AwaitedAt k s y) → u.zones.get y = s.zones.get y)
  paged : ∀ z ∈ l, AwaitedAt k s z → (pageLaw s → PagedOrFull 48 z.val u) ∧ Noticed .restockTask z.val 1 s u
  keeps : ∀ {cause object}, pageLaw s → PagedOrFull cause object s → PagedOrFull cause object u

theorem allWoken_cons {l : List ZoneId} {u w : State} (law : taskLaw s) (fresh : z ∉ l) (waits : AwaitedAt k s z) (first : Woken z s u)
    (role : ∀ p, (u.ports.get p).role = (s.ports.get p).role) (clock : u.time.clock = s.time.clock) (grown : Grown u w)
    (rest : AllWoken k l u w) : AllWoken k (z :: l) s w := by
  obtain ⟨t, mem, its, kind, paged⟩ := waits
  have waits : AwaitedAt k s z := ⟨t, mem, its, kind, paged⟩
  have apart : ∀ y ∈ l, y ≠ z := fun y hy same => fresh (same ▸ hy)
  refine ⟨?_, fun y => ?_, fun y hy waits' => ?_, fun law full => rest.keeps (first.pages law) (first.keeps law full)⟩
  · rw [rest.restock, first.restock, pagedAt, List.map_map]
    refine List.map_congr_left fun q hq => ?_
    dsimp only [Function.comp]
    by_cases here : q.cabinet = z
    · have same : q = t := List.inj_on_of_nodup_map law hq mem (here.trans its.symm)
      subst same
      rw [if_pos here, wokenOf, if_neg (by simp), wokenOf, if_pos ⟨by simp [here], kind, paged⟩]
    · rw [if_neg here, wokenOf, wokenOf]
      simp [here]
  · by_cases here : y = z
    · subst here
      have still := (rest.zones y).2 fun h => fresh h.1
      refine ⟨fun _ => ?_, fun h => absurd ⟨List.mem_cons_self, waits⟩ h⟩
      rw [still, first.zones]
      simp
    · have same : u.zones.get y = s.zones.get y := by
        rw [first.zones]
        simp [here]
      have awaited := awaitedAt_pagedAt (k := k) here first.restock
      refine ⟨fun ⟨hy, h⟩ => ?_, fun h => ?_⟩
      · rw [← same]
        exact (rest.zones y).1 ⟨(List.mem_cons.mp hy).resolve_left here, awaited.mpr h⟩
      · rw [← same]
        exact (rest.zones y).2 fun ⟨hy, h'⟩ => h ⟨List.mem_cons_of_mem _ hy, awaited.mp h'⟩
  · rcases List.mem_cons.mp hy with rfl | later
    · exact ⟨fun law => rest.keeps (first.pages law) first.paged, first.noticed.grown grown⟩
    · obtain ⟨full, noticed⟩ := rest.paged y later ((awaitedAt_pagedAt (apart y later) first.restock).mpr waits')
      exact ⟨fun law => full (first.pages law), noticed.from role clock⟩

theorem allWoken_skip {l : List ZoneId} {w : State} (waits : ¬ AwaitedAt k s z) (rest : AllWoken k l s w) : AllWoken k (z :: l) s w := by
  refine ⟨?_, fun y => ?_, fun y hy waits' => ?_, rest.keeps⟩
  · rw [rest.restock]
    refine List.map_congr_left fun q hq => ?_
    have : ¬ (q.cabinet = z ∧ q.kind = k ∧ q.paged = false) := fun h => waits ⟨q, hq, h⟩
    unfold wokenOf
    by_cases here : q.cabinet = z
    · rw [if_neg fun h => this ⟨here, h.2⟩, if_neg fun h => this ⟨here, h.2⟩]
    · simp [here]
  · have same : (y ∈ z :: l ∧ AwaitedAt k s y) ↔ (y ∈ l ∧ AwaitedAt k s y) :=
      ⟨fun ⟨hy, h⟩ => ⟨(List.mem_cons.mp hy).resolve_left fun here => waits (here ▸ h), h⟩,
        fun ⟨hy, h⟩ => ⟨List.mem_cons_of_mem _ hy, h⟩⟩
    rw [same]
    exact rest.zones y
  · rcases List.mem_cons.mp hy with rfl | later
    · exact absurd waits' waits
    · exact rest.paged y later waits'

theorem foldl_wakeTask (k : WareId) (l : List ZoneId) : ∀ s : State, taskLaw s → l.Nodup →
    AllWoken k l s (l.foldl (wakeTask k) s) ∧ Grown s (l.foldl (wakeTask k) s) := by
  induction l with
  | nil =>
    refine fun s _ _ => ⟨⟨?_, fun y => ⟨fun ⟨none_, _⟩ => (List.not_mem_nil none_).elim, fun _ => rfl⟩, nofun, fun _ => id⟩, Grown.refl s⟩
    rw [List.foldl_nil]
    exact ((List.map_congr_left fun t _ => by simp [wokenOf]).trans (List.map_id _)).symm
  | cons z l ih =>
    intro s law nodup
    obtain ⟨fresh, nodup⟩ := List.nodup_cons.mp nodup
    rw [List.foldl_cons]
    by_cases waits : AwaitedAt k s z
    · have first := wakeTask_woken law waits
      have grown : Grown s (wakeTask k s z) := grown_ops.toStockOps.wakeTask k s z
      have clock : (wakeTask k s z).time.clock = s.time.clock :=
        congrArg TimeBase.clock ((wakeTask_touches k s z).within.time (by simp))
      obtain ⟨rest, later⟩ := ih (wakeTask k s z) (task_zoneOps.toStockOps.wakeTask k s z law) nodup
      exact ⟨allWoken_cons law fresh waits first (fun p => (grown p).role) clock later rest, grown.trans later⟩
    · rw [wakeTask_left waits]
      obtain ⟨rest, later⟩ := ih s law nodup
      exact ⟨allWoken_skip waits rest, later⟩

/-- R130: the WAITING tasks of a kind become PAGED. -/
theorem wakeTasks_allWoken (k : WareId) (law : taskLaw s) : AllWoken k (s.restock.map (·.cabinet)) s (wakeTasks k s) :=
  (foldl_wakeTask k _ s law law).1

theorem wakeTasks_restock (k : WareId) (law : taskLaw s) : (wakeTasks k s).restock =
    s.restock.map fun q => if q.kind = k ∧ q.paged = false then { q with paged := true } else q := by
  rw [(wakeTasks_allWoken k law).restock]
  refine List.map_congr_left fun q hq => ?_
  have mem : q.cabinet ∈ s.restock.map (·.cabinet) := List.mem_map_of_mem hq
  simp [wokenOf, mem]

/-! ### RACK_OUT (R108, R109) -/

/-- The state behind RACK_OUT's transition, its head rack gone. -/
def unloading (rest : List Rack) (s : State) : State :=
  { s with line := { s.line with outLevel := !s.line.outLevel, racks := rest } }

theorem unloading_eq {r : Rack} {rest : List Rack} (racks : s.line.racks = r :: rest) :
    dropHead (seeTransition .rackOut s) = unloading rest s := by
  have left : (seeTransition .rackOut s).line.racks.drop 1 = rest := by
    rw [show (seeTransition .rackOut s).line.racks = s.line.racks from rfl, racks]
    rfl
  rw [dropHead, left]
  rfl

/-- RACK_OUT, by the head of the queue (R108, R109). -/
theorem rackOut_eq {r : Rack} {rest : List Rack} (racks : s.line.racks = r :: rest) : rackOut s =
    if r.stage = .done then
      if r.verdict = .clean then
        wakeTasks r.kind ((unloading rest s).setWare r.kind { s.wares.get r.kind with clean := (s.wares.get r.kind).clean + r.count })
      else condemn r (unloading rest s)
    else condemn r (lineFault (.outEarly r.tag) (unloading rest s)) := by
  rw [rackOut, unloadRack, show (seeTransition .rackOut s).line.racks = s.line.racks from rfl, racks]
  dsimp only
  rw [unloading_eq racks]
  cases r.stage <;> cases r.verdict <;> rfl

theorem rackOut_empty (empty : s.line.racks = []) : rackOut s = lineFault .outNoRack (seeTransition .rackOut s) := by
  rw [rackOut, unloadRack, show (seeTransition .rackOut s).line.racks = s.line.racks from rfl, empty]

/-- What a condemned rack leaves of the state before (R109). -/
theorem condemned_spec (r : Rack) {u : State} (wares : u.wares = s.wares) (zones : u.zones = s.zones) (restock : u.restock = s.restock)
    (courses : u.courses = s.courses) (permit : u.line.permit = s.line.permit) :
    ServiceOnly u (condemn r u) ∧ (condemn r u).courses = s.courses ∧ (condemn r u).line.permit = s.line.permit ∧
      ((condemn r u).wares = s.wares.set r.kind { s.wares.get r.kind with soiled := (s.wares.get r.kind).soiled + r.count } ∧
        (condemn r u).zones = s.zones ∧ (condemn r u).restock = s.restock ∧ PagedOrFull 16 r.tag (condemn r u)) ∧
      Grown u (condemn r u) := by
  obtain ⟨d, t, p, eq, ports, paged, grown⟩ := condemn_eq r u
  rw [← wares]
  rw [eq] at paged grown ⊢
  exact ⟨⟨⟨u.zones, u.line.permit, _, u.restock, u.courses, d, t, p, rfl⟩, ports⟩, courses, permit, ⟨rfl, zones, restock, paged⟩, grown⟩

/-- Settles O35. -/
theorem rackOutUnloadsTheHead : Obligations.RackOutUnloadsTheHead := by
  intro s r rest quiet
  refine ⟨fun empty => ?_, fun racks => ⟨fun done clean => ?_, fun done dirty => ?_, fun early => ?_⟩⟩
  · rw [exec_quiet (f := rackOut) rfl quiet, rackOut_empty empty]
    rfl
  all_goals rw [exec_quiet (f := rackOut) rfl quiet, rackOut_eq racks]
  · rw [if_pos done, if_pos clean]
    refine ⟨_, rfl, wakeTasks_touches r.kind _, fun law q mem kind => ?_⟩
    rw [wakeTasks_restock r.kind (by exact law)] at mem
    obtain ⟨t, -, rfl⟩ := List.mem_map.mp mem
    split
    · rfl
    · next awake =>
      rw [if_neg awake] at kind
      exact Bool.of_not_eq_false fun waits => awake ⟨kind, waits⟩
  · rw [if_pos done, if_neg dirty]
    obtain ⟨touched, courses, permit, condemned, -⟩ :=
      condemned_spec (s := s) r (u := unloading rest s) rfl rfl rfl rfl rfl
    exact ⟨_, rfl, touched, courses, permit, condemned⟩
  · rw [if_neg early]
    obtain ⟨touched, courses, permit, condemned, grown⟩ :=
      condemned_spec (s := s) r (u := lineFault (.outEarly r.tag) (unloading rest s)) rfl rfl rfl rfl rfl
    have posted : Noticed .lineFault 3 r.tag s (lineFault (.outEarly r.tag) (unloading rest s)) :=
      noticed_post _ _ _ (fun _ => rfl) rfl
    refine ⟨_, rfl, ServiceOnly.trans ?_ touched, courses, permit, condemned, posted.grown grown⟩
    exact (post_touches .lineFault 3 r.tag { s with
      line := { s.line with outLevel := !s.line.outLevel, racks := rest, faults := min 65535 (s.line.faults + 1) } }).stock.service

end

end Sys2Proof.Machine
end

section
/-! PROOF. What one zone's cabinet has done to it leaves the other zones; WARE_ADJUST (R121). -/

namespace Sys2Proof.Machine

section
variable {z : ZoneId} {s t u : State}

/-! ### One zone at a time -/

/-- Every zone but one is as it was. -/
def OthersKept (z : ZoneId) (s t : State) : Prop := ∀ y, y ≠ z → t.zones.get y = s.zones.get y

theorem OthersKept.of_zones (h : t.zones = s.zones) : OthersKept z s t := fun y _ => by rw [h]

theorem OthersKept.trans (h : OthersKept z s t) (k : OthersKept z t u) : OthersKept z s u :=
  fun y other => (k y other).trans (h y other)

theorem setZone_others (z : ZoneId) (r : Zone) (s : State) : OthersKept z s (s.setZone z r) := fun y other => by
  rw [setZone_get, if_neg other]

theorem changeZone_others (z : ZoneId) (f : Zone → Zone) (s : State) : OthersKept z s (s.changeZone z f) := by
  unfold State.changeZone
  split
  · exact setZone_others _ _ _
  · exact .of_zones rfl

theorem moveZone_others (z : ZoneId) (st : ZoneState) (s : State) : OthersKept z s (moveZone z st s) :=
  (changeZone_others z _ s).trans (.of_zones (by rw [moveZone_zones]))

theorem refreshStandby_others (z : ZoneId) (s : State) : OthersKept z s (refreshStandby z s) := by
  rcases refreshStandby_eq z s with same | ⟨r, t, -, set⟩
  · rw [same]; exact .of_zones rfl
  · rw [set]; exact setZone_others _ _ _

theorem report_others (z : ZoneId) (wakes : Bool) (s : State) : OthersKept z s (report z wakes s) := by
  have woken : OthersKept z (refreshStandby z s) (wakeStandby z (refreshStandby z s)) := by
    unfold wakeStandby
    split
    · exact moveZone_others _ _ _
    · exact .of_zones rfl
  unfold report
  dsimp only
  split
  · exact (refreshStandby_others z s).trans woken
  · exact refreshStandby_others z s

theorem testRestock_others (z : ZoneId) (s : State) : OthersKept z s (testRestock z s) := by
  cases due : taskDue s z with
  | false => rw [testRestock_of_not_due due]; exact .of_zones rfl
  | true =>
    cases cab : s.cabinet? z with
    | none => rw [taskDue, cab] at due; cases due
    | some c =>
      obtain ⟨-, -, some_, -⟩ := (taskDue_of_cabinet cab).mp due
      obtain ⟨k, kind⟩ := Option.isSome_iff_exists.mp some_
      rw [testRestock_of_due cab kind due]
      exact OthersKept.trans (.of_zones ((taskOpened_within z c k s).zones (by simp))) (report_others _ _ _)

/-- The standby timer apart, a refresh keeps the state of a zone. -/
theorem refreshStandby_zoneState (z y : ZoneId) (s : State) : (refreshStandby z s).zoneState y = s.zoneState y := by
  rcases refreshStandby_eq z s with same | ⟨r, t, zone, set⟩
  · rw [same]
  · rw [set]
    unfold State.zoneState
    rw [setZone_get]
    by_cases here : y = z
    · rw [if_pos here, here, zone]
    · rw [if_neg here]

/-- A stock that fell is reported to the zone: its cabinet has what it was given, and no zone's state moves. -/
theorem setCabinet_zoneState (z y : ZoneId) (c : Cabinet) (s : State) : (s.setCabinet z c).zoneState y = s.zoneState y := by
  unfold State.setCabinet State.changeZone State.zoneState
  cases zone : s.zones.get z with
  | none => rfl
  | some r =>
    dsimp only
    rw [setZone_get]
    by_cases here : y = z
    · rw [if_pos here, here, zone]
    · rw [if_neg here]

theorem setCabinet_within (z : ZoneId) (c : Cabinet) (s : State) : Within [.zones] s (s.setCabinet z c) := changeZone_within z _ s

/-- The restock test behind a change of a cabinet that is reported without wakening its zone (R134, R129). -/
theorem testRestock_after_change {b c : Cabinet} (cab : s.cabinet? z = some b) :
    (testRestock z (report z false (s.setCabinet z c))).cabinet? z = some c ∧
    OthersKept z s (testRestock z (report z false (s.setCabinet z c))) ∧
    (s.zoneState z = .off ∨ s.zoneState z = .fault →
      (testRestock z (report z false (s.setCabinet z c))).restock = s.restock) ∧
    (s.zoneState z ≠ .off → s.zoneState z ≠ .fault → TaskTest z c s (testRestock z (report z false (s.setCabinet z c)))) := by
  have stored : (s.setCabinet z c).cabinet? z = some c := by rw [setCabinet_cabinet? cab, if_pos rfl]
  have reported := report_within z false (s.setCabinet z c)
  have set := setCabinet_within z c s
  have state : (report z false (s.setCabinet z c)).zoneState z = s.zoneState z :=
    (refreshStandby_zoneState z z _).trans (setCabinet_zoneState z z c s)
  have cab' : (report z false (s.setCabinet z c)).cabinet? z = some c :=
    ((sameStock_ops.report z false _).cabinets z).trans stored
  have restock : (report z false (s.setCabinet z c)).restock = s.restock := (reported.restock (by simp)).trans (set.restock (by simp))
  refine ⟨((sameStock_ops.testRestock z _).cabinets z).trans cab',
    ((changeZone_others z _ s).trans (report_others _ _ _)).trans (testRestock_others _ _), fun away => ?_, fun on sound => ?_⟩
  · rw [testRestock_of_not_due, restock]
    rw [Bool.eq_false_iff, ne_eq, taskDue_of_cabinet cab', state]
    exact fun ⟨on, sound, _⟩ => away.elim on sound
  · have tested := testRestock_tested cab' (state ▸ on) (state ▸ sound)
    refine tested.from ((reported.wares (by simp)).trans (set.wares (by simp))) restock ?_ fun p => ?_
    · rw [reported.time (by simp), set.time (by simp)]
    · rw [(grown_ops.toStockOps.report z false _ p).role, set.ports (by simp)]

/-! ### WARE_ADJUST, by its location and amount -/

section
variable {k : WareId} {code zone : Nat} {l : Location} (loc : location? code zone = some l) (known : (s.wares.get k).defined = true)
  (holds : holdsKind s k l = true)
include loc known holds

theorem wareAdjust_zero : wareAdjust k.val code zone 0 s = reply (bigEndian 2 0) s := by
  unfold wareAdjust
  rw [index?_val, loc]
  simp [wareLimit, known, holds]

theorem wareAdjust_purchase {n : Nat} (some_ : 1 ≤ n) (few : n ≤ 9999) : wareAdjust k.val code zone n s =
    if takesPurchase l = false ∨ 9999 < (s.wares.get k).total + n then refuse .range s
    else reply (bigEndian 2 n) (purchase k n s l) := by
  have small : ¬ wareLimit < ((n : Int)).natAbs := by simpa [wareLimit] using few
  unfold wareAdjust
  rw [index?_val, loc]
  dsimp only
  rw [if_neg small, if_neg (by rw [known]; nofun), if_neg (by rw [holds]; nofun), if_neg (by omega), if_pos (by omega), Int.natAbs_natCast]
  rfl

theorem wareAdjust_removal {n : Nat} (some_ : 1 ≤ n) (few : n ≤ 9999) : wareAdjust k.val code zone (-(n : Int)) s =
    if canGive s k l = 0 then refuse .empty s
    else acceptClamped (decide (canGive s k l < n)) (bigEndian 2 (min n (canGive s k l))) (removal k (min n (canGive s k l)) s l) := by
  have size : (-(n : Int)).natAbs = n := by rw [Int.natAbs_neg, Int.natAbs_natCast]
  have none_ : min n (canGive s k l) = 0 ↔ canGive s k l = 0 := by omega
  unfold wareAdjust
  rw [index?_val, loc]
  dsimp only
  rw [size, if_neg (by simpa [wareLimit] using few), if_neg (by rw [known]; nofun), if_neg (by rw [holds]; nofun), if_neg (by omega),
    if_neg (by omega), min_bne_self]
  simp only [none_]

end

/-- The refusals of WARE_ADJUST in their order (R121). -/
theorem wareAdjust_refused (k code z : Nat) (a : Int) (s : State) :
    (¬ (k ≤ 7 ∧ code ≤ 3 ∧ a.natAbs ≤ 9999 ∧ (code = 3 → z ≤ 31)) → wareAdjust k code z a s = refuse .range s) ∧
    (k ≤ 7 ∧ code ≤ 3 ∧ a.natAbs ≤ 9999 ∧ (code = 3 → z ≤ 31) → (∀ i : WareId, i.val = k → (s.wares.get i).defined = false) →
      wareAdjust k code z a s = refuse .notFound s) := by
  have located : code ≤ 3 ∧ (code = 3 → z ≤ 31) ↔ ∃ l, location? code z = some l := by
    rcases code with _ | _ | _ | _ | code
    · exact ⟨fun _ => ⟨_, rfl⟩, fun _ => by omega⟩
    · exact ⟨fun _ => ⟨_, rfl⟩, fun _ => by omega⟩
    · exact ⟨fun _ => ⟨_, rfl⟩, fun _ => by omega⟩
    · change _ ↔ ∃ l, (index? 32 z).map Location.cabinet = some l
      by_cases inside : z < 32
      · exact ⟨fun _ => ⟨_, by rw [show index? 32 z = some ⟨z, inside⟩ from index?_val ⟨z, inside⟩]; rfl⟩, fun _ => by omega⟩
      · rw [index?_eq_none_iff.mpr (by omega)]
        exact ⟨fun ⟨_, small⟩ => by omega, nofun⟩
    · exact ⟨fun _ => by omega, nofun⟩
  refine ⟨fun outside => ?_, fun ⟨kind, three, size, four⟩ unknown => ?_⟩
  · unfold wareAdjust
    split
    · next i l his hl =>
      have inside : k ≤ 7 := by
        by_contra past
        rw [index?_eq_none_iff.mpr (by omega)] at his
        cases his
      obtain ⟨three, four⟩ := located.mpr ⟨l, hl⟩
      exact if_pos (by unfold wareLimit; by_contra h; exact outside ⟨inside, three, by omega, four⟩)
    · rfl
  · obtain ⟨l, hl⟩ := located.mp ⟨three, four⟩
    have known := unknown ⟨k, by omega⟩ rfl
    unfold wareAdjust
    rw [show index? 8 k = some ⟨k, by omega⟩ from index?_val ⟨k, by omega⟩, hl]
    dsimp only
    rw [if_neg (by unfold wareLimit; omega), if_pos known]

/-- A cabinet that holds another kind refuses WARE_ADJUST (R121). -/
theorem wareAdjust_elsewhere {k : WareId} {y : ZoneId} {a : Int} (size : a.natAbs ≤ 9999) (known : (s.wares.get k).defined = true)
    (other : ∀ c, s.cabinet? y = some c → c.kind ≠ some k) : wareAdjust k.val 3 y.val a s = refuse .state s := by
  have away : holdsKind s k (.cabinet y) = false := by
    cases cab : s.cabinet? y with
    | none => simp [holdsKind, cab]
    | some c => simpa [holdsKind, cab] using other c cab
  have loc : location? 3 y.val = some (.cabinet y) := by
    change (index? 32 y.val).map Location.cabinet = _
    rw [index?_val]; rfl
  unfold wareAdjust
  rw [index?_val, loc]
  dsimp only
  rw [if_neg (by unfold wareLimit; omega), if_neg (by rw [known]; nofun), if_pos away]

/-- What a purchase to CLEAN wakes (R130, R71, R72), from the state in which CLEAN has risen. -/
theorem wakeTasks_spec (k : WareId) (law : taskLaw s) : let waits (q : RestockTask) : Prop := q.kind = k ∧ q.paged = false
    (wakeTasks k s).restock = s.restock.map (fun q => if waits q then { q with paged := true } else q) ∧
    (∀ q ∈ s.restock, waits q → (pageLaw s → PagedOrFull 48 q.cabinet.val (wakeTasks k s)) ∧
      Noticed .restockTask q.cabinet.val 1 s (wakeTasks k s)) ∧
    ∀ y : ZoneId, (wakeTasks k s).zones.get y = (s.zones.get y).map fun r =>
      if ∃ q ∈ s.restock, q.cabinet = y ∧ waits q then r.reported else r := by
  have woken := wakeTasks_allWoken k law
  refine ⟨wakeTasks_restock k law, fun q mem waits => ?_, fun y => ?_⟩
  · exact woken.paged q.cabinet (List.mem_map_of_mem mem) ⟨q, mem, rfl, waits⟩
  · obtain ⟨awake, left⟩ := woken.zones y
    by_cases awaited : AwaitedAt k s y
    · have mem : y ∈ s.restock.map (·.cabinet) := by
        obtain ⟨q, hq, its, -⟩ := awaited
        exact its ▸ List.mem_map_of_mem hq
      rw [awake ⟨mem, awaited⟩]
      congr 1
      funext r
      exact (if_pos awaited).symm
    · rw [left fun h => awaited h.2]
      have same : (fun r : Zone => if ∃ q ∈ s.restock, q.cabinet = y ∧ q.kind = k ∧ q.paged = false then r.reported else r) = id :=
        funext fun r => if_neg awaited
      rw [same, Option.map_id]
      rfl

/-- Settles O37. -/
theorem wareAdjustBuysAndRemoves : Obligations.WareAdjustBuysAndRemoves := by
  constructor
  · intro t k code z a s judged
    obtain ⟨outside, unknown⟩ := wareAdjust_refused k code z a (heard t s)
    refine ⟨fun out => ?_, fun inside none_ => ?_, fun i y inside number known three its other => ?_⟩
    all_goals rw [exec_of_request (body := wareAdjust k code z a) rfl, command_judged judged]
    · rw [outside out]; rfl
    · rw [unknown inside (by rw [heard_wares]; exact none_)]; rfl
    · subst number its three
      rw [wareAdjust_elsewhere inside.2.2.1 (by rw [heard_wares]; exact known)
        (by rw [cabinet?_congr (heard_zones t s)]; exact other)]
      rfl
  · intro t k z n s judged known some_ few
    have known' : ((heard t s).wares.get k).defined = true := by rw [heard_wares]; exact known
    have run : ∀ code a, exec (.wareAdjust t k.val code z a) s = .next (placeAnswer t.port (wareAdjust k.val code z a (heard t s))) :=
      fun code a => by rw [exec_of_request (body := wareAdjust k.val code z a) rfl, command_judged judged]
    have taken : ∀ {code : Nat} {l : Location} {w : Nat} {v : Ware}, location? code z = some l →
        holdsKind (heard t s) k l = true → canGive (heard t s) k l = w →
        removal k (min n w) (heard t s) l = { heard t s with wares := s.wares.set k v } →
        exec (.wareAdjust t k.val code z (-n)) s = .next (if w = 0 then refusedWith t .empty s
          else answered t (okOr (decide (w < n))) (bigEndian 2 (min n w)) { heard t s with wares := s.wares.set k v }) := by
      intro code l w v loc holds gives left
      rw [run, wareAdjust_removal loc known' holds some_ few, gives, left]
      split <;> rfl
    have stock : (heard t s).wares.get k = s.wares.get k := by rw [heard_wares]
    have bought : ∀ {code : Nat} {l : Location}, location? code z = some l → holdsKind (heard t s) k l = true →
        exec (.wareAdjust t k.val code z n) s = .next (
          if takesPurchase l = false ∨ 9999 < (s.wares.get k).total + n then refusedWith t .range s
          else answered t .ok (bigEndian 2 n) (purchase k n (heard t s) l)) := by
      intro code l loc holds
      rw [run, wareAdjust_purchase loc known' holds some_ few, stock]
      split <;> rfl
    have changed : ∀ v : Ware, (heard t s).setWare k v = { heard t s with wares := s.wares.set k v } := fun v => by
      rw [State.setWare, heard_wares]
    refine ⟨fun code small => ?_, ?_, fun room => ?_, fun tooMany => ?_, bought (l := .out) rfl rfl,
      taken (l := .soiled) rfl rfl (by rw [canGive, stock]) (by rw [removal, stock]; exact changed _),
      taken (l := .clean) rfl rfl (by rw [canGive, stock]) (by rw [removal, stock]; exact changed _),
      taken (l := .out) rfl rfl (by rw [canGive, stock]) (by rw [removal, stock]; exact changed _), fun y c its cab kind => ?_⟩
    · obtain ⟨l, loc, holds⟩ : ∃ l, location? code z = some l ∧ holdsKind (heard t s) k l = true := by
        rcases code with _ | _ | _ | code
        · exact ⟨.soiled, rfl, rfl⟩
        · exact ⟨.clean, rfl, rfl⟩
        · exact ⟨.out, rfl, rfl⟩
        · omega
      rw [run, wareAdjust_zero loc known' holds]
      rfl
    · rw [bought (l := .soiled) rfl rfl, purchase, stock]
      dsimp only
      rw [changed]
      simp only [takesPurchase, false_or, Bool.true_eq_false]
    · rw [bought (l := .clean) rfl rfl, if_neg (not_or.mpr ⟨nofun, Nat.not_lt.mpr room⟩), purchase, stock]
      dsimp only
      rw [changed]
      generalize risen : ({ heard t s with wares := s.wares.set k { s.wares.get k with
        total := (s.wares.get k).total + n, clean := (s.wares.get k).clean + n } } : State) = u
      have restock : u.restock = s.restock := by rw [← risen]; exact heard_restock t s
      have zones : u.zones = s.zones := by rw [← risen]; exact heard_zones t s
      have ports : ∀ p, (u.ports.get p).role = (s.ports.get p).role := by rw [← risen]; exact heard_role t s
      have clock : u.time.clock = s.time.clock := by rw [← risen]; exact congrArg TimeBase.clock (heard_time t s)
      have pages : pageLaw s → pageLaw u := fun law => by rw [← risen]; exact (heard_fewer t s).law law
      refine ⟨_, rfl, wakeTasks_touches k u, fun law => ?_⟩
      obtain ⟨list, awake, woken⟩ := wakeTasks_spec k (s := u) (by unfold taskLaw; rw [restock]; exact law)
      rw [restock] at list awake
      rw [restock, zones] at woken
      refine ⟨list, fun q mem waits => ?_, woken⟩
      obtain ⟨paged, noticed⟩ := awake q mem waits
      exact ⟨fun law => paged (pages law), noticed.from ports clock⟩
    · rw [bought (l := .clean) rfl rfl, if_pos (.inr tooMany)]
    · subst its
      have loc : location? 3 y.val = some (.cabinet y) := by
        change (index? 32 y.val).map Location.cabinet = _
        rw [index?_val]; rfl
      have cab' : (heard t s).cabinet? y = some c := by rw [cabinet?_congr (heard_zones t s), cab]
      have holds : holdsKind (heard t s) k (.cabinet y) = true := by simp [holdsKind, cab', kind]
      have gives : canGive (heard t s) k (.cabinet y) = c.stock - c.reserved := by rw [canGive, cab']; rfl
      refine ⟨?_, bought loc holds, fun none_ => ?_, fun some' => ?_⟩
      · rw [run, wareAdjust_zero loc known' holds]
        rfl
      · rw [run, wareAdjust_removal loc known' holds some_ few, gives, if_pos none_]
        rfl
      · rw [run, wareAdjust_removal loc known' holds some_ few, gives, if_neg some', removal, cab', stock]
        dsimp only
        rw [changed]
        generalize fallen : ({ heard t s with wares := s.wares.set k { s.wares.get k with
          total := (s.wares.get k).total - min n (c.stock - c.reserved) } } : State) = u
        have zones : u.zones = s.zones := by rw [← fallen]; exact heard_zones t s
        have restock : u.restock = s.restock := by rw [← fallen]; exact heard_restock t s
        have state : u.zoneState y = s.zoneState y := by unfold State.zoneState; rw [zones]
        have cab'' : u.cabinet? y = some c := by rw [cabinet?_congr zones, cab]
        obtain ⟨given, others, away, tested⟩ :=
          testRestock_after_change (c := { c with stock := c.stock - min n (c.stock - c.reserved) }) cab''
        rw [state] at away tested
        refine ⟨_, rfl, ?_, given, fun x other => ?_, fun off => ?_, fun on sound => ?_⟩
        · exact ((setCabinet_touches _ _ _).trans (report_touches _ _ _)).trans (testRestock_touches _ _)
        · rw [others x other, zones]
        · rw [away off, restock]
        · refine (tested on sound).from_clean (fun j => ?_) restock ?_ fun p => ?_
          · rw [← fallen, Table.get_set]
            split
            · next same => rw [same]
            · rfl
          · rw [← fallen]
            exact congrArg TimeBase.clock (heard_time t s)
          · rw [← fallen]
            exact heard_role t s p

end

end Sys2Proof.Machine
end

section
/-! PROOF. Pages raised, closed and put back, and staff released, as the manual's tables say it (R155 to R157, R163, R165 to R167). -/

namespace Sys2Proof.Machine

section
variable {s u : State}

/-! ### Staff released (R163) -/

theorem released_release (e : EntryId) (s : State) : Released e s (release e s) := by
  have entry : ∀ (d : EntryId) (m : Staff) (s : State), (s.setStaff d m).staff d = m := fun d m s => by
    rw [staff_setStaff, Function.update_self]
  have other : ∀ {c d : EntryId} (m : Staff) (s : State), c ≠ d → (s.setStaff d m).staff c = s.staff c := fun m s apart => by
    rw [staff_setStaff, Function.update_of_ne apart]
  unfold release
  refine ⟨fun q held => ?_, fun held => ?_, fun d apart => ?_⟩
  · rw [held]
    refine ⟨entry e _ s, fun p mem its => ?_⟩
    obtain ⟨x, -, rfl⟩ := List.mem_map.mp mem
    by_cases here : x.id = q
    · rw [if_pos here]
    · rw [if_neg here] at its
      exact absurd its here
  · rw [held]
    refine ⟨entry e _ s, ?_⟩
    change ((s.setStaff e _).setFree _ _).roster.free.get _ = _
    rw [free_setFree, Function.update_self]
  · split
    · exact other _ s apart
    · exact other _ s apart

/-- A release reads nothing of the state before but the roster. -/
theorem Released.from {e : EntryId} {w : State} (h : Released e u w) (roster : u.roster = s.roster) : Released e s w := by
  have free : ∀ r, u.freeList r = s.freeList r := fun r => by rw [State.freeList, roster]; rfl
  unfold Released at h ⊢
  simpa only [staff_of_roster roster, roster, free] using h

/-! ### Pages closed and put back -/

theorem closed_closePage (p : Page) (o : Outcome) (s : State) : Closed p o s (closePage p o s) := by
  refine ⟨?_, ?_, noticed_post _ _ _ (fun _ => rfl) rfl⟩
  · change (s.desk.pages.filter fun q => q.id ≠ p.id).map (·.id) = _
    rw [List.filter_map]
    rfl
  · change p.id ∉ s.desk.reoffers.filter (· ≠ p.id)
    simp

theorem closePage_cancels (p : Page) (o : Outcome) (s : State) : (closePage p o s).desk.cancels = s.desk.cancels := rfl

theorem closePage_roster (p : Page) (o : Outcome) (s : State) : (closePage p o s).roster = s.roster := rfl

theorem Closed.from {p : Page} {o : Outcome} {w : State} (h : Closed p o u w) (pages : u.desk.pages = s.desk.pages)
    (ports : u.ports = s.ports) (time : u.time = s.time) : Closed p o s w := by
  obtain ⟨ids, off, noticed⟩ := h
  exact ⟨by rw [ids, pages], off, noticed.from (fun _ => by rw [ports]) (by rw [time])⟩

/-- What a release leaves of the pages: their ids, and every page but the one taken up again. -/
theorem release_pages (e : EntryId) (s : State) : (release e s).desk.pages.map (·.id) = s.desk.pages.map (·.id) ∧
    (release e s).desk.reoffers = s.desk.reoffers ∧ (release e s).desk.cancels = s.desk.cancels ∧
    ∀ p ∈ s.desk.pages, (s.staff e).suspended ≠ some p.id → p ∈ (release e s).desk.pages := by
  unfold release
  split
  · next q held =>
    refine ⟨updatePage_ids (f := fun p => { p with state := .accepted }) (fun _ => rfl) _, rfl, rfl, fun p mem apart => ?_⟩
    refine List.mem_map.mpr ⟨p, mem, if_neg fun here => apart ?_⟩
    rw [held, here]
  · exact ⟨rfl, rfl, rfl, fun p mem _ => mem⟩

theorem Closed.release {p : Page} {o : Outcome} (h : Closed p o s u) (e : EntryId) : Closed p o s (release e u) := by
  obtain ⟨same, reoffers, -⟩ := release_pages e u
  obtain ⟨ids, off, noticed⟩ := h
  exact ⟨same.trans ids, by rw [reoffers]; exact off, noticed.grown (.of_ports (release_ports e u))⟩

/-- A page that goes back to QUEUED, its step and exclusion as `f` has them. -/
theorem requeued_requeuePage {p : Page} (live : s.page? p.id = some p) (f : Page → Page) (id_ : ∀ q, (f q).id = q.id) :
    Requeued { f p with state := .queued, target := none, ackTimer := none } s (requeuePage p.id f s) := by
  refine ⟨List.mem_map.mpr ⟨p, List.mem_of_find?_eq_some live, if_pos rfl⟩, rfl, rfl, rfl, ?_, ?_⟩
  · exact updatePage_ids (f := fun p => { f p with state := .queued, target := none, ackTimer := none }) id_ s
  · change (f p).id ∉ s.desk.reoffers.filter (· ≠ p.id)
    rw [id_]
    simp

theorem Requeued.release {q : Page} (h : Requeued q s u) {e : EntryId} (apart : (u.staff e).suspended ≠ some q.id) :
    Requeued q s (release e u) := by
  obtain ⟨same, reoffers, -, kept⟩ := release_pages e u
  obtain ⟨mem, queued, none_, stopped, ids, off⟩ := h
  exact ⟨kept q mem apart, queued, none_, stopped, same.trans ids, by rw [reoffers]; exact off⟩

/-! ### Raised causes (R155 to R157) -/

/-- The lower of a level so far and a page's (R157). -/
def lowerLevel (m : Option Nat) (p : Page) : Option Nat :=
  match m with
  | none => some p.level
  | some v => some (min v p.level)

theorem lowestQueued_eq (l : List Page) : lowestQueued l = (l.filter fun p => p.state == .queued).foldl lowerLevel none := rfl

/-- A level is the lowest of some pages'; none is where there is no page. -/
def IsLowest (l : List Page) : Option Nat → Prop
  | none => l = []
  | some v => (∃ p ∈ l, p.level = v) ∧ ∀ p ∈ l, v ≤ p.level

theorem foldl_lowerLevel (l : List Page) : ∀ (seen : List Page) (m : Option Nat), IsLowest seen m →
    IsLowest (seen ++ l) (l.foldl lowerLevel m) := by
  induction l with
  | nil => exact fun seen m h => by rw [List.append_nil]; exact h
  | cons p l ih =>
    intro seen m h
    rw [List.foldl_cons, List.append_cons]
    refine ih (seen ++ [p]) _ ?_
    cases m with
    | none =>
      have empty : seen = [] := h
      subst empty
      exact ⟨⟨p, by simp, rfl⟩, by simp⟩
    | some v =>
      obtain ⟨⟨q, mem, its⟩, least⟩ := h
      refine ⟨?_, fun x hx => ?_⟩
      · rcases Nat.le_total v p.level with low | high
        · exact ⟨q, List.mem_append_left _ mem, by rw [its, Nat.min_eq_left low]⟩
        · exact ⟨p, by simp, by rw [Nat.min_eq_right high]⟩
      · rcases List.mem_append.mp hx with before | last
        · exact (Nat.min_le_left _ _).trans (least x before)
        · rw [List.mem_singleton.mp last]
          exact Nat.min_le_right _ _

theorem lowestQueued_spec (l : List Page) : IsLowest (l.filter fun p => p.state == .queued) (lowestQueued l) :=
  foldl_lowerLevel _ [] none rfl

/-- Of no QUEUED page below the cause's level, none is dropped (R157). -/
theorem droppedFor_none {c : Cause} (high : ∀ p ∈ s.desk.pages, p.state = .queued → s.desk.levels.get c.source ≤ p.level) :
    droppedFor c s = none := by
  have spec := lowestQueued_spec s.desk.pages
  unfold droppedFor
  cases found : lowestQueued s.desk.pages with
  | none => rfl
  | some m =>
    rw [found] at spec
    obtain ⟨⟨p, mem, its⟩, -⟩ := spec
    obtain ⟨mem, queued⟩ := List.mem_filter.mp mem
    exact if_neg (its ▸ Nat.not_lt.mpr (high p mem (by simpa using queued)))

/-- The youngest QUEUED page of the lowest QUEUED level is dropped where that is below the cause's level (R157). -/
theorem droppedFor_youngest {c : Cause} {a b : List Page} {out : Page} (pages : s.desk.pages = a ++ out :: b) (queued : out.state = .queued)
    (low : out.level < s.desk.levels.get c.source) (lowest : ∀ p ∈ s.desk.pages, p.state = .queued → out.level ≤ p.level)
    (youngest : ∀ p ∈ b, p.state = .queued → p.level ≠ out.level) : droppedFor c s = some out := by
  have mem : out ∈ s.desk.pages := pages ▸ List.mem_append_right _ List.mem_cons_self
  have level : lowestQueued s.desk.pages = some out.level := by
    have spec := lowestQueued_spec s.desk.pages
    have candidate : out ∈ s.desk.pages.filter fun p => p.state == .queued := List.mem_filter.mpr ⟨mem, by simpa using queued⟩
    cases found : lowestQueued s.desk.pages with
    | none =>
      rw [found] at spec
      exact (List.not_mem_nil (spec ▸ candidate)).elim
    | some m =>
      rw [found] at spec
      obtain ⟨⟨p, hp, its⟩, least⟩ := spec
      obtain ⟨hp, hq⟩ := List.mem_filter.mp hp
      rw [Nat.le_antisymm (least out candidate) (its ▸ lowest p hp (by simpa using hq))]
  have last : youngestQueued s.desk.pages out.level = some out := by
    have none_ : b.filter (fun p => p.state == .queued && p.level == out.level) = [] :=
      List.filter_eq_nil_iff.mpr fun p hp => by simpa using youngest p hp
    rw [youngestQueued, pages, List.filter_append, List.filter_cons_of_pos (by simp [queued]), none_]
    simp
  rw [droppedFor, level]
  dsimp only
  rw [if_pos low, last]

/-- Settles O44. -/
theorem raisedCauseMakesOnePage : Obligations.RaisedCauseMakesOnePage := by
  intro c g o s few
  have none_ : (∀ p ∈ s.desk.pages, p.cause = c.code → p.object ≠ o) →
      (s.desk.pages.any fun p => p.cause == c.code && p.object == o) = false := fun none_ => by
    simpa using none_
  refine ⟨?_, fun ⟨p, mem, cause, object⟩ => ?_, fun other => ⟨fun room => ?_, fun full apart => ⟨fun high => ?_, ?_⟩⟩⟩
  · obtain ⟨i, small, eq, fresh, before⟩ := freePageId_spec (d := s.desk) (by omega)
    exact ⟨fresh, i, small, eq, before⟩
  · rw [raise_eq, if_pos (List.any_eq_true.mpr ⟨p, mem, by simp [cause, object]⟩)]
  · rw [raise_eq, none_ other, if_neg Bool.false_ne_true, if_pos room, addPage_eq]
    rfl
  · rw [raise_eq, none_ other, if_neg Bool.false_ne_true, if_neg (by omega), droppedFor_none high]
  · intro a b out pages queued low lowest youngest
    have left : s.desk.pages.filter (fun q => q.id ≠ out.id) = a ++ b := by
      rw [pages, List.map_append, List.map_cons, List.nodup_append] at apart
      obtain ⟨-, behind, across⟩ := apart
      obtain ⟨behind, -⟩ := List.nodup_cons.mp behind
      rw [pages, List.filter_append, List.filter_cons_of_neg (by simp),
        List.filter_eq_self.mpr fun q hq => by simpa using across q.id (List.mem_map_of_mem hq) out.id List.mem_cons_self,
        List.filter_eq_self.mpr fun q hq => by
          simpa using fun same : q.id = out.id => behind (same ▸ List.mem_map_of_mem hq)]
    have ran : raise c g o s = addPage c.source c.code o c.role g c.closure (closePage out .dropped s) := by
      rw [raise_eq, none_ other, if_neg Bool.false_ne_true, if_neg (by omega), droppedFor_youngest pages queued low lowest youngest]
    rw [ran, addPage_eq]
    refine ⟨freePageId (closePage out .dropped s).desk, ?_, ?_⟩
    · change (s.desk.pages.filter fun q => q.id ≠ out.id) ++ _ = _
      rw [left]
      rfl
    · exact (closed_closePage out .dropped s).2.2.grown (.of_ports rfl)

/-! ### Pages closed by a master or by an event (R166, R167) -/

theorem mem_pushCancel (r : CancelRequest) (s : State) : r ∈ (pushCancel r s).desk.cancels :=
  List.mem_append_right _ List.mem_cons_self

section
variable {p : Page} {e : EntryId} (x : Outcome) (s : State)

theorem retirePage_queued (queued : p.state = .queued) : retirePage p x s = closePage p x s := by
  simp only [retirePage, queued]

theorem retirePage_offered (offered : p.state = .offered) (target : p.target = some e) : retirePage p x s =
    release e (closePage p x (pushCancel { page := p.id, address := (s.staff e).address } s)) := by
  simp only [retirePage, offered, target]

theorem retirePage_accepted (accepted : p.state = .accepted) (target : p.target = some e) : retirePage p x s =
    release e (closePage p x s) := by
  simp only [retirePage, accepted, target]

theorem retirePage_suspended (held : p.state = .suspended) (target : p.target = some e) : retirePage p x s =
    (closePage p x s).setStaff e { (closePage p x s).staff e with suspended := none } := by
  simp only [retirePage, held, target]

end

/-- Settles O45. -/
theorem pageDoneAndClearingEventsClose : Obligations.PageDoneAndClearingEventsClose := by
  refine ⟨fun t n s judged => ?_, fun c o p s found => ?_, fun p x s => ?_⟩
  · have run : exec (.pageDone t n) s = .next (placeAnswer t.port (pageDone n (heard t s))) := by
      rw [exec_of_request (body := pageDone n) rfl, command_judged judged]
    refine ⟨fun missing => ?_, fun id p number live => ⟨fun info => ?_, fun other => ?_⟩⟩
    all_goals rw [run, pageDone]
    · have gone : (index? 256 n).bind (heard t s).page? = none := by
        by_cases small : n < 256
        · rw [show index? 256 n = some ⟨n, small⟩ from index?_val ⟨n, small⟩]
          exact List.find?_eq_none.mpr fun p mem => by simpa [Fin.ext_iff] using missing p mem
        · rw [index?_eq_none_iff.mpr (by omega)]
          rfl
      rw [gone]
      rfl
    · rw [← number, index?_val, Option.bind_some, live]
      dsimp only
      rw [info]
      rfl
    · rw [← number, index?_val, Option.bind_some, live]
      dsimp only
      cases closure : p.closure with
      | info => exact absurd closure other
      | task => rfl
      | event => rfl
  · rw [clearEvent, found]
  · have asked : ∀ r : CancelRequest, Closed p x s (closePage p x (pushCancel r s)) := fun r =>
      (closed_closePage p x (pushCancel r s)).from rfl rfl rfl
    refine ⟨retirePage_touches p x s, ?_, fun queued => ?_, fun e target => ⟨fun offered => ?_, fun accepted => ?_, fun held => ?_⟩⟩
    · unfold retirePage
      split
      · exact (asked _).release _
      · exact (closed_closePage p x s).release _
      · exact closed_closePage p x s
      · exact closed_closePage p x s
    · rw [retirePage_queued x s queued]
      rfl
    · rw [retirePage_offered x s offered target]
      have asked := mem_pushCancel { page := p.id, address := (s.staff e).address } s
      have roster : (pushCancel { page := p.id, address := (s.staff e).address } s).roster = s.roster := rfl
      generalize pushCancel { page := p.id, address := (s.staff e).address } s = u at asked roster
      have same := (closePage_roster p x u).trans roster
      have kept := closePage_cancels p x u
      generalize closePage p x u = v at same kept
      rw [(release_pages e v).2.2.1, kept]
      exact ⟨(released_release e v).from same, asked⟩
    · rw [retirePage_accepted x s accepted target]
      have same := closePage_roster p x s
      have kept := closePage_cancels p x s
      generalize closePage p x s = v at same kept
      exact ⟨(released_release e v).from same, (release_pages e v).2.2.1.trans kept⟩
    · rw [retirePage_suspended x s held target, staff_setStaff, Function.update_self]
      rfl

/-! ### Offers that expire (R165) -/

/-- A page that is put back with its target released (R164, R165, R175). -/
theorem requeue_release {p : Page} {e : EntryId} (live : s.page? p.id = some p) (apart : (s.staff e).suspended ≠ some p.id)
    (f : Page → Page) (id_ : ∀ q, (f q).id = q.id) : PagingOnly s (release e (requeuePage p.id f s)) ∧
    Released e s (release e (requeuePage p.id f s)) ∧
    Requeued { f p with state := .queued, target := none, ackTimer := none } s (release e (requeuePage p.id f s)) ∧
    (release e (requeuePage p.id f s)).desk.cancels = s.desk.cancels := by
  refine ⟨(requeuePage_touches _ _ _).trans (release_touches _ _), (released_release e _).from rfl,
    (requeued_requeuePage live f id_).release ?_, (release_pages e _).2.2.1⟩
  change (s.staff e).suspended ≠ some (f p).id
  rwa [id_]

/-- A page that is closed with its target released (R164 to R166). -/
theorem close_release (p : Page) (o : Outcome) (e : EntryId) (s : State) : PagingOnly s (release e (closePage p o s)) ∧
    Released e s (release e (closePage p o s)) ∧ Closed p o s (release e (closePage p o s)) ∧
    (release e (closePage p o s)).desk.cancels = s.desk.cancels :=
  ⟨(closePage_touches _ _ _).trans (release_touches _ _), (released_release e _).from rfl, (closed_closePage p o s).release e,
    (release_pages e _).2.2.1⟩

/-- Settles O46. -/
theorem ackExpiryEscalates : Obligations.AckExpiryEscalates := by
  intro p e s quiet law live offered target apart
  have acts : ackExpiry p s = match p.step with
      | 0 => { updatePage p.id (fun p => { p with step := 1, ackTimer := none }) s with desk := {
          (updatePage p.id (fun p => { p with step := 1, ackTimer := none }) s).desk with reoffers := s.desk.reoffers ++ [p.id] } }
      | 1 => release e (requeuePage p.id (fun p => { p with step := 2, excluded := some e }) s)
      | 2 => release e (requeuePage p.id (fun p => { p with step := 3, role := .captain, group := .any, excluded := some e }) s)
      | _ => release e (closePage p .unanswered s) := by
    unfold ackExpiry
    rw [offered, target]
    rfl
  refine ⟨?_, fun first => ?_, fun second => ?_, fun third => ?_, fun last => ?_⟩
  · rw [exec_quiet (f := ackTimerExpiry p.id) rfl quiet, ackTimerExpiry, live]
    dsimp only
    cases p.ackTimer <;> rfl
  · rw [acts, first]
    rfl
  · rw [acts, second]
    obtain ⟨touched, released, requeued, -⟩ := requeue_release live apart (fun p => { p with step := 2, excluded := some e }) fun _ => rfl
    exact ⟨touched, released, requeued⟩
  · rw [acts, third]
    obtain ⟨touched, released, requeued, -⟩ := requeue_release live apart
      (fun p => { p with step := 3, role := .captain, group := .any, excluded := some e }) fun _ => rfl
    exact ⟨touched, released, requeued⟩
  · obtain ⟨n, step⟩ := Nat.exists_eq_add_of_le' last
    obtain ⟨touched, released, closed, -⟩ := close_release p .unanswered e s
    rw [acts, step]
    exact ⟨touched, released, closed⟩

end

end Sys2Proof.Machine
end

section
/-! PROOF. The station's messages, acknowledgements, the link going DOWN and coming UP, and staff on and off duty (R153, R154, R162,
R164, R172 to R178). -/

namespace Sys2Proof.Machine

section
variable {s u : State}

/-! ### SENT, UNREACHABLE and the end of a transmission (R173, R174) -/

/-- A page stands OFFERED to an entry with an address (R174). -/
def OnOffer (s : State) (i : PageId) (a : Nat) (p : Page) : Prop :=
  s.page? i = some p ∧ p.state = .offered ∧ ∃ e, p.target = some e ∧ (s.staff e).address = a

theorem offeredTo_eq_some {i : PageId} {a : Nat} {p : Page} : offeredTo s i a = some p ↔ OnOffer s i a p := by
  rw [offeredTo, Option.filter_eq_some_iff, OnOffer]
  cases p.target <;> simp

theorem offeredTo_eq_none {i : PageId} {a : Nat} (none_ : ∀ p, ¬ OnOffer s i a p) : offeredTo s i a = none :=
  Option.eq_none_iff_forall_ne_some.mpr fun p found => none_ p (offeredTo_eq_some.mp found)

/-- Settles O48. -/
theorem stationEndsTheMessage : Obligations.StationEndsTheMessage := by
  intro id s quiet
  refine ⟨?_, fun a out => ⟨fun none_ => ?_, fun p offered => ?_⟩, fun a out => ?_, fun noPage noCancel => ?_⟩
  · rw [exec_quiet (f := transmitComplete) rfl quiet]
    rfl
  all_goals rw [exec_quiet (i := .sent id) (f := sentMessage id) rfl quiet,
    exec_quiet (i := .unreachable id) (f := unreachableMessage id) rfl quiet, sentMessage, unreachableMessage]
  · have ended : offeredTo (endMessage s) id a = none := offeredTo_eq_none none_
    rw [out]
    dsimp only
    rw [if_pos rfl, if_pos rfl, ended]
    exact ⟨rfl, rfl⟩
  · have ended : offeredTo (endMessage s) id a = some p := offeredTo_eq_some.mpr offered
    rw [out]
    dsimp only
    rw [if_pos rfl, if_pos rfl, ended]
    exact ⟨rfl, rfl⟩
  · rw [out]
    dsimp only
    rw [if_pos rfl]
    exact ⟨rfl, rfl⟩
  · cases out : s.link.outstanding with
    | none => exact ⟨rfl, rfl⟩
    | probe => exact ⟨rfl, rfl⟩
    | page i a =>
      have other : i ≠ id := fun same => noPage a (same ▸ out)
      dsimp only
      rw [if_neg other, if_neg other]
      exact ⟨rfl, rfl⟩
    | cancel i a =>
      have other : i ≠ id := fun same => noCancel a (same ▸ out)
      dsimp only
      rw [if_neg other]
      exact ⟨rfl, rfl⟩

/-! ### Acknowledgements (R164, R177, R178) -/

/-- The answers that a page's state takes (R177). -/
theorem fits_iff (x : PagerAnswer) (st : PageState) : x.fits st = true ↔ st = .offered ∨ (x = .done ∧ st = .accepted) := by
  cases x <;> simp [PagerAnswer.fits]

theorem answer_of_code {x : Nat} : (PagerAnswer.ofCode? x = none ↔ x = 0 ∨ 3 < x) ∧
    (PagerAnswer.ofCode? x = some .accept ↔ x = 1) ∧ (PagerAnswer.ofCode? x = some .decline ↔ x = 2) ∧
    (PagerAnswer.ofCode? x = some .done ↔ x = 3) := by
  rcases x with _ | _ | _ | _ | x <;> simp [PagerAnswer.ofCode?]

theorem ackMessage_late {id : PageId} {a x : Nat} {p : Page} {y : PagerAnswer} (answer : PagerAnswer.ofCode? x = some y)
    (live : s.page? id = some p)
    (other : ¬ ∃ e, p.target = some e ∧ (s.staff e).address = a ∧ (p.state = .offered ∨ (y = .done ∧ p.state = .accepted))) :
    ackMessage id a x s = countLate id a s := by
  rw [ackMessage, answer, live]
  dsimp only
  split
  · next e target => exact if_neg fun ⟨fits, its⟩ => other ⟨e, target, its, (fits_iff y p.state).mp fits⟩
  · rfl

theorem ackMessage_taken {id : PageId} {a x : Nat} {p : Page} {y : PagerAnswer} {e : EntryId} (answer : PagerAnswer.ofCode? x = some y)
    (live : s.page? id = some p) (target : p.target = some e) (its : (s.staff e).address = a)
    (fits : p.state = .offered ∨ (y = .done ∧ p.state = .accepted)) : ackMessage id a x s = takeAnswer y p e s := by
  rw [ackMessage, answer, live]
  dsimp only
  rw [target]
  exact if_pos ⟨(fits_iff y p.state).mpr fits, its⟩

/-- ACCEPT of a page that is no INFO (R164). -/
theorem answerAccept_spec {p : Page} (live : s.page? p.id = some p) (other : p.closure ≠ .info) (e : EntryId) :
    let w := answerAccept p e s
    w.desk.cancels = s.desk.cancels ∧ p.id ∉ w.desk.reoffers ∧ w.page? p.id = some { p with state := .accepted, ackTimer := none } ∧
      w.staff e = { s.staff e with duty := .assigned, current := some p.id, since := s.roster.nextStamp } ∧
      ∀ d, d ≠ e → w.staff d = s.staff d := by
  have accepted : answerAccept p e s = becomeAssigned e p.id (s.staff e).suspended
      (dropReoffer p.id (updatePage p.id (fun p => { p with state := .accepted, ackTimer := none }) s)) := by
    unfold answerAccept
    cases closure : p.closure with
    | info => exact absurd closure other
    | task => rfl
    | event => rfl
  dsimp only
  rw [accepted]
  generalize before : dropReoffer p.id (updatePage p.id (fun p => { p with state := .accepted, ackTimer := none }) s) = u
  have roster : u.roster = s.roster := by rw [← before]; rfl
  have staff : u.staff = s.staff := staff_of_roster roster
  have entries : (becomeAssigned e p.id (s.staff e).suspended u).staff = Function.update s.staff e
      { s.staff e with duty := .assigned, current := some p.id, since := s.roster.nextStamp } := by
    change (u.setStaff e { u.staff e with
      duty := .assigned, current := some p.id, suspended := (s.staff e).suspended, since := u.roster.nextStamp }).staff = _
    rw [staff_setStaff, staff, roster]
  refine ⟨by rw [← before]; rfl, ?_, ?_, ?_, fun d apart => ?_⟩
  · rw [← before]
    change p.id ∉ s.desk.reoffers.filter (· ≠ p.id)
    simp
  · have pages : (becomeAssigned e p.id (s.staff e).suspended u).page? = u.page? := page?_of_pages rfl
    have view := page?_updatePage p.id (f := fun p => { p with state := .accepted, ackTimer := none }) (fun _ => rfl) s
    rw [pages, ← before]
    change (updatePage p.id (fun p => { p with state := .accepted, ackTimer := none }) s).page? p.id = _
    rw [view, Function.update_self, live]
    rfl
  · rw [entries, Function.update_self]
  · rw [entries, Function.update_of_ne apart]

/-- Settles O49. -/
theorem acknowledgementsAreSorted : Obligations.AcknowledgementsAreSorted := by
  intro id a x s quiet
  obtain ⟨unread, one, two, three⟩ := answer_of_code (x := x)
  refine ⟨fun lost => ?_, fun p live least most => ⟨fun other => ?_, fun ⟨e, target, its, fits⟩ law e' target' apart => ?_⟩⟩
  · rw [exec_quiet (f := ackMessage id a x) rfl quiet, ackMessage]
    rcases lost with gone | none_
    · rw [gone]
      cases PagerAnswer.ofCode? x <;> rfl
    · rw [unread.mpr none_]
      rfl
  · rw [exec_quiet (f := ackMessage id a x) rfl quiet]
    cases answer : PagerAnswer.ofCode? x with
    | none => have := unread.mp answer; omega
    | some y =>
      rw [ackMessage_late answer live fun ⟨e, target, its, fits⟩ => other ⟨e, target, its, fits.imp_right fun ⟨done, state⟩ => ?_⟩]
      · rfl
      · subst done
        exact ⟨three.mp answer, state⟩
  · obtain rfl : e = e' := Option.some.inj (target.symm.trans target')
    have named : p.id = id := by simpa using List.find?_some live
    subst named
    rw [exec_quiet (f := ackMessage p.id a x) rfl quiet]
    have offered : x ≠ 3 → p.state = .offered := fun two => fits.resolve_right fun ⟨three, _⟩ => two three
    obtain first | second | third : x = 1 ∨ x = 2 ∨ x = 3 := by omega
    · rw [ackMessage_taken (one.mpr first) live target its (.inl (offered (by omega))), takeAnswer]
      by_cases info : p.closure = .info
      · have closes : answerAccept p e s = release e (closePage p .acceptedInfo s) := by rw [answerAccept, info]
        obtain ⟨touched, released, closed, cancels⟩ := close_release p .acceptedInfo e s
        rw [closes]
        exact ⟨_, rfl, touched, cancels, fun _ _ => ⟨closed, released⟩, fun _ other => absurd info other, fun second => by omega,
          fun third => by omega⟩
      · obtain ⟨cancels, off, page, staff, others⟩ := answerAccept_spec live info e
        exact ⟨_, rfl, takeAnswer_touches .accept p e s, cancels, fun _ is => absurd is info, fun _ _ => ⟨off, page, staff, others⟩,
          fun second => by omega, fun third => by omega⟩
    · obtain ⟨touched, released, requeued, cancels⟩ := requeue_release live apart
        (fun p => { p with step := max 2 p.step, excluded := some e }) fun _ => rfl
      rw [ackMessage_taken (two.mpr second) live target its (.inl (offered (by omega))), takeAnswer, answerDecline]
      exact ⟨_, rfl, touched, cancels, fun first => by omega, fun first => by omega, fun _ => ⟨released, requeued⟩,
        fun third => by omega⟩
    · obtain ⟨touched, released, closed, cancels⟩ := close_release p .done e s
      rw [ackMessage_taken (three.mpr third) live target its (fits.imp_right fun ⟨_, state⟩ => ⟨rfl, state⟩), takeAnswer, answerDone]
      exact ⟨_, rfl, touched, cancels, fun first => by omega, fun first => by omega, fun second => by omega,
        fun _ => ⟨closed, released⟩⟩

/-! ### The link DOWN and UP (R172, R175, R176) -/

/-- The state in which a message that timed out is dealt with, the timeout counted (R175). -/
def timedOut (s : State) : State := { s with link := { s.link with
  outstanding := .none, transmitting := [], responseTimer := none, timeouts := s.link.timeouts + 1 } }

theorem responseExpiry_up (runs : s.link.responseTimer ≠ none) (up : s.link.up = true) : responseExpiry s =
    if timeoutLimit ≤ (timeOutMessage s.link.outstanding (timedOut s)).link.timeouts
    then enterDown (timeOutMessage s.link.outstanding (timedOut s)) else timeOutMessage s.link.outstanding (timedOut s) := by
  unfold responseExpiry
  rw [if_neg (by simpa using runs)]
  dsimp only
  rw [if_pos up]
  rfl

/-- Of the link, what the end of a message by timeout does to its page leaves everything. -/
theorem timeOutMessage_link (o : Outstanding) (s : State) : (timeOutMessage o s).link = s.link := by
  unfold timeOutMessage
  split
  · split
    · exact (withdrawPage_touches _ s).within.link (by simp)
    · rfl
  · split <;> rfl
  · rfl
  · rfl

/-- The third timeout in a row takes the link DOWN (R175). -/
theorem responseExpiry_eq (runs : s.link.responseTimer ≠ none) (up : s.link.up = true) : responseExpiry s =
    if s.link.timeouts + 1 < 3 then timeOutMessage s.link.outstanding (timedOut s)
    else enterDown (timeOutMessage s.link.outstanding (timedOut s)) := by
  rw [responseExpiry_up runs up, timeOutMessage_link]
  change (if 3 ≤ s.link.timeouts + 1 then _ else _) = _
  by_cases few : s.link.timeouts + 1 < 3
  · rw [if_neg (Nat.not_le.mpr few), if_pos few]
  · rw [if_pos (Nat.not_lt.mp few), if_neg few]

/-- Settles O50. -/
theorem linkGoesDownAndComesUp : Obligations.LinkGoesDownAndComesUp := by
  intro s quiet
  refine ⟨fun up => ?_, fun down => ?_, fun cause => ?_, ?_, ?_, fun stopped => ?_, fun runs => ⟨fun down => ?_, fun up =>
    ⟨fun i a out => ?_, fun i a out => ⟨fun none_ => ?_, fun p e live offered target its law apart => ?_⟩⟩⟩⟩
  · rw [exec_quiet (f := aliveMessage) rfl quiet, aliveMessage, if_pos up]
    rfl
  · rw [exec_quiet (f := aliveMessage) rfl quiet, aliveMessage, if_neg (by rw [down]; nofun)]
  · rw [exec_quiet (f := garble) rfl quiet]
    rfl
  · rw [exec_quiet (f := receiveGap) rfl quiet]
    rfl
  · rw [exec_quiet (f := probeExpiry) rfl quiet, probeExpiry]
    simp only [Option.isSome_iff_ne_none]
    rfl
  all_goals rw [exec_quiet (f := responseExpiry) rfl quiet]
  · rw [responseExpiry, stopped]
    rfl
  · unfold responseExpiry
    rw [if_neg (by simpa using runs)]
    dsimp only
    rw [if_neg (by rw [down]; nofun)]
  all_goals rw [responseExpiry_eq runs up, out, timeOutMessage]
  · rfl
  · have none' : offeredTo (timedOut s) i a = none :=
      offeredTo_eq_none fun p ⟨live, offered, e, target, its⟩ => none_ p live offered e target its
    rw [none']
    rfl
  · have found : offeredTo (timedOut s) i a = some p := offeredTo_eq_some.mpr ⟨live, offered, e, target, its⟩
    have named : p.id = i := by simpa using List.find?_some live
    subst named
    have withdrawn : withdrawPage p (timedOut s) = release e (requeuePage p.id (fun p => p) (timedOut s)) := by
      rw [withdrawPage, offered, target]
    obtain ⟨touched, released, requeued, cancels⟩ := requeue_release (s := timedOut s) live apart (fun p => p) fun _ => rfl
    rw [found]
    dsimp only
    rw [withdrawn]
    exact ⟨_, rfl, touched, released.from rfl, requeued, cancels⟩

/-! ### Staff on and off duty (R153, R154) -/

/-- What going off duty does to the pages of an entry, its offer cancelled where its page was OFFERED (R154). -/
theorem dropCurrent_desk (m : Staff) (s : State) :
    (dropCurrent m s).desk.pages = (s.desk.pages.map fun p => if some p.id = m.current then requeued p else p) ∧
    ∀ id p, m.current = some id → s.page? id = some p → id ∉ (dropCurrent m s).desk.reoffers ∧
      (p.state = .offered → ({ page := id, address := m.address } : CancelRequest) ∈ (dropCurrent m s).desk.cancels) := by
  have put : ∀ (i : PageId) (u : State), u.desk.pages = s.desk.pages → (requeuePage i (fun p => p) u).desk.pages =
      (s.desk.pages.map fun p => if some p.id = some i then requeued p else p) ∧ i ∉ (requeuePage i (fun p => p) u).desk.reoffers ∧
      (requeuePage i (fun p => p) u).desk.cancels = u.desk.cancels := by
    intro i u pages
    refine ⟨?_, ?_, rfl⟩
    · rw [← pages]
      refine List.map_congr_left fun p _ => ?_
      simp only [Option.some.injEq]
      rfl
    · change i ∉ u.desk.reoffers.filter (· ≠ i)
      simp
  unfold dropCurrent
  split
  · next i held =>
    rw [held]
    split
    · next p live =>
      have pages : (if p.state = .offered then pushCancel { page := i, address := m.address } s else s).desk.pages = s.desk.pages := by
        split <;> rfl
      obtain ⟨list, off, cancels⟩ := put i _ pages
      refine ⟨list, fun id q its live' => ?_⟩
      cases its
      cases live.symm.trans live'
      refine ⟨off, fun offered => ?_⟩
      rw [cancels, if_pos offered]
      exact mem_pushCancel _ s
    · next gone =>
      obtain ⟨list, off, -⟩ := put i s rfl
      refine ⟨list, fun id q its live' => ?_⟩
      cases its
      cases gone.symm.trans live'
  · next held =>
    rw [held]
    refine ⟨?_, fun id p its => nomatch its⟩
    simp

theorem dropSuspended_desk (m : Staff) (s : State) :
    (dropSuspended m s).desk.pages = (s.desk.pages.map fun p => if some p.id = m.suspended then requeued p else p) ∧
    (dropSuspended m s).desk.cancels = s.desk.cancels ∧ (dropSuspended m s).desk.reoffers.Sublist s.desk.reoffers := by
  unfold dropSuspended
  split
  · next i held =>
    rw [held]
    refine ⟨?_, rfl, List.filter_sublist⟩
    refine List.map_congr_left fun p _ => ?_
    simp only [Option.some.injEq]
    rfl
  · next held =>
    rw [held]
    refine ⟨?_, rfl, .refl _⟩
    simp

/-- Both pages of an entry put back, one after the other. -/
theorem requeued_twice (current suspended : Option PageId) (p : Page) :
    ((fun p => if some p.id = suspended then requeued p else p) ∘ fun p => if some p.id = current then requeued p else p) p =
      if some p.id = current ∨ some p.id = suspended then requeued p else p := by
  dsimp only [Function.comp]
  by_cases first : some p.id = current
  · simp only [if_pos first, if_pos (Or.inl first : some p.id = current ∨ some p.id = suspended)]
    split <;> rfl
  · simp only [if_neg first]
    by_cases second : some p.id = suspended
    · rw [if_pos second, if_pos (.inr second)]
    · rw [if_neg second, if_neg (by simp [first, second])]

/-- Settles O42. -/
theorem staffDutyOnAndOff : Obligations.StaffDutyOnAndOff := by
  intro t e s judged
  have run : ∀ n d, exec (.staffDuty t n d) s = .next (placeAnswer t.port (staffDuty n d (heard t s))) := fun n d => by
    rw [exec_of_request (body := staffDuty n d) rfl, command_judged judged]
  generalize h : heard t s = u at run
  have reads : ∀ d, staffDuty e.val d u = if (u.staff e).address = 0 then refuse .notFound u else
      match settingOr Config.otherDuty d, (u.staff e).duty with
      | true, .offDuty => accept (becomeFree e u)
      | true, .free | true, .paged | true, .assigned => accept u
      | false, .offDuty => accept u
      | false, .free | false, .paged | false, .assigned => accept (goOffDuty e u) := fun d => by
    rw [staffDuty, index?_val] <;> rfl
  refine ⟨fun n d out => ?_, fun unused d => ?_, fun d => ?_, fun used => ⟨fun on => ?_, fun off => ?_, fun off => ?_, fun on => ?_⟩⟩
  · rw [run, staffDuty, index?_eq_none_iff.mpr (by omega), refusedWith, h]
    rfl
  · rw [run, reads, if_pos unused, refusedWith, h]
    rfl
  · rw [run, run, run, reads, reads, reads]
    cases set : settingOr Config.otherDuty d with
    | false => exact .inl rfl
    | true => exact .inr rfl
  all_goals rw [run, reads, if_neg used]
  · cases duty : (u.staff e).duty with
    | offDuty => exact absurd duty on
    | free => rfl
    | paged => rfl
    | assigned => rfl
  · rw [off]
    rfl
  · rw [off]
    rfl
  · have leaves : (match settingOr Config.otherDuty 0, (u.staff e).duty with
      | true, .offDuty => accept (becomeFree e u)
      | true, .free | true, .paged | true, .assigned => accept u
      | false, .offDuty => accept u
      | false, .free | false, .paged | false, .assigned => accept (goOffDuty e u)) = accept (goOffDuty e u) := by
      cases duty : (u.staff e).duty with
      | offDuty => exact absurd duty on
      | free => rfl
      | paged => rfl
      | assigned => rfl
    rw [leaves]
    refine ⟨_, rfl, goOffDuty_touches e u, ?_⟩
    obtain ⟨first, currents⟩ := dropCurrent_desk (u.staff e) (leaveFree e u)
    obtain ⟨second, cancels, reoffers⟩ := dropSuspended_desk (u.staff e) (dropCurrent (u.staff e) (leaveFree e u))
    have roster : (dropSuspended (u.staff e) (dropCurrent (u.staff e) (leaveFree e u))).roster = (leaveFree e u).roster :=
      (dropSuspended_view _ _).2.1.trans (dropCurrent_view _ _).2.1
    rw [goOffDuty_eq]
    dsimp only
    generalize dropSuspended (u.staff e) (dropCurrent (u.staff e) (leaveFree e u)) = w at second cancels reoffers roster ⊢
    have staff : w.staff = u.staff := (staff_of_roster roster).trans rfl
    rw [staff_setStaff, staff]
    refine ⟨Function.update_self .., fun d apart => Function.update_of_ne apart .., ?_, ?_, fun id p current live => ?_⟩
    · change (w.setStaff e _).roster.free.get _ = _
      rw [show (w.setStaff e { u.staff e with duty := .offDuty, current := none, suspended := none }).roster.free = w.roster.free from rfl,
        roster, leaveFree_free, Function.update_self]
      rfl
    · change w.desk.pages = _
      rw [second, first, List.map_map]
      refine List.map_congr_left fun p _ => ?_
      exact requeued_twice _ _ p
    · obtain ⟨off, asked⟩ := currents id p current live
      refine ⟨fun mem => off (reoffers.subset mem), fun offered => ?_⟩
      change _ ∈ w.desk.cancels
      rw [cancels]
      exact asked offered

end

end Sys2Proof.Machine
end

section
/-! PROOF. The queries: each answers with its data as they stand and changes nothing (R7, R18, R40, R54, R58, R63, R96, R115, R116,
R123, R127, R136, R149, R169, R180, R190). -/

namespace Sys2Proof.Machine

section
variable {t : Transfer} {s : State}

/-! ### Data in their layout (R190) -/

theorem flagByte_of_iff {b : Bool} {p : Prop} [Decidable p] (h : b = true ↔ p) : flagByte b = bigEndian 1 (if p then 1 else 0) := by
  simp only [flagByte, h]

theorem items_eq_map {α : Type} {n : Nat} (t : Table n α) : t.items = (List.finRange n).map t.get := by
  refine List.ext_getElem (by rw [t.size, List.length_map, List.length_finRange]) fun i h _ => ?_
  rw [List.getElem_map, List.getElem_finRange]
  rfl

/-- The data of MAP_QUERY: what decides. -/
theorem decidingBytes_eq (d : Deciding) : decidingBytes d = match d with
    | .mapOff => [0, 0]
    | .fixed e => [1] ++ bigEndian 1 e.val
    | .window w => [2] ++ bigEndian 1 w.val
    | .default => [3, 0] := by
  cases d <;> rfl

/-- A query that is answered with data and changes nothing. -/
def Tells (i : Instr) (t : Transfer) (s : State) (data : List Byte) : Prop := exec i s = .next (answered t .ok data (heard t s))

theorem tells_of_reply {i : Instr} {roles : List Role} {body : State → Answer} {d : List Byte} (h : meaning i = .request t roles body)
    (judged : Judged t roles s) (replies : body (heard t s) = reply d (heard t s)) : Tells i t s d := by
  rw [Tells, exec_of_request h, command_judged judged, replies]
  rfl

theorem refused_of_body {i : Instr} {roles : List Role} {body : State → Answer} {why : Status} (h : meaning i = .request t roles body)
    (judged : Judged t roles s) (refuses : body (heard t s) = refuse why (heard t s)) : exec i s = .next (refusedWith t why s) := by
  rw [exec_of_request h, command_judged judged, refuses]
  rfl

section
variable (judged : Judged t allRoles s)
include judged

/-! ### Load points, the frame and the feed -/

theorem tells_loadQuery (n : LoadId) : let l := s.loads.get n
    Tells (.loadQuery t n.val) t s (
      bigEndian 1 n.val ++ bigEndian 2 l.rating ++ optionalBytes 1 (l.binding.map (·.val)) ++ bigEndian 1 l.effective.code ++
        bigEndian 1 l.resolved.code ++ bigEndian 1 l.requested ++ bigEndian 1 l.granted ++
        bigEndian 1 (l.onSlices.filter fun i => i < s.time.slice).length ++
        bigEndian 1 (l.onSlices.filter fun i => s.time.slice ≤ i).length ++
        bigEndian 1 (if s.time.slice ∈ l.onSlices then 1 else 0) ++ bigEndian 1 l.deficit ++ flagByte l.cut) := by
  refine tells_of_reply (body := loadQuery n.val) rfl judged ?_
  rw [loadQuery, index?_val]
  simp only [loadData, heard_loads, heard_time, LoadPoint.isOn]
  rw [flagByte_of_iff List.contains_iff_mem]
  rfl

omit judged in
/-- The windows that match a load point, as R9 says it. -/
theorem matchingWindows_eq (m : ClassMap) (n : LoadId) : matchingWindows m n = (List.finRange 6).filter fun w =>
    (m.windows.get w).valid = true ∧ BitVec.ofNat 6 n.val &&& (m.windows.get w).mask = (m.windows.get w).base &&& (m.windows.get w).mask := by
  refine List.filter_congr fun w _ => ?_
  rw [Bool.eq_iff_iff]
  simp [Window.matchesLoad]

theorem tells_mapQuery (n : LoadId) : let l := s.loads.get n
    Tells (.mapQuery t n.val) t s (
      bigEndian 1 n.val ++ bigEndian 1 l.resolved.code ++ decidingBytes l.deciding ++
        listBytes ((matchingWindows s.map n).map (·.val)) ++ bigEndian 1 l.effective.code ++
        bigEndian 1 (if l.resolved ≠ l.effective then 1 else 0) ++ flagByte s.map.enabled ++ flagByte s.map.fixedEnabled ++
        bigEndian 1 s.map.default.code) := by
  refine tells_of_reply (body := mapQuery n.val) rfl judged ?_
  rw [mapQuery, index?_val]
  simp only [mapData, heard_loads, heard_map]
  rw [flagByte_of_iff (p := (s.loads.get n).resolved ≠ (s.loads.get n).effective) bne_iff_ne]

theorem tells_frameQuery : Tells (.frameQuery t) t s (
    bigEndian 2 s.time.frame ++ bigEndian 1 s.time.slice ++ bigEndian 1 s.time.sliceLength ++
      bigEndian 1 s.time.slicePending ++ bigEndian 2 s.alloc.limit ++ bigEndian 2 s.alloc.limitSetting ++
      bigEndian 1 s.alloc.shed ++ bigEndian 1 s.alloc.shedSetting ++ bigEndian 1 s.feed.state.code ++ bigEndian 2 s.alloc.peak ++
      (allLoads.map fun n => bigEndian 1 (s.loads.get n).granted ++ flagByte (s.loads.get n).cut).flatten) := by
  refine tells_of_reply (body := fun s => reply (frameData s) s) rfl judged ?_
  simp only [frameData, heard_loads, heard_time, heard_alloc, heard_feed, items_eq_map, List.map_map]
  rfl

theorem tells_feedQuery : let f := s.feed
    Tells (.feedQuery t) t s (
      bigEndian 2 f.code.toNat ++ bigEndian 1 f.reading ++ bigEndian 1 f.state.code ++ bigEndian 1 f.sagThreshold ++
        bigEndian 1 f.restoreThreshold ++ bigEndian 1 f.debounce ++ bigEndian 1 f.restoreWait ++ bigEndian 1 f.sagCount ++
        bigEndian 1 f.restoreCount ++ bigEndian 1 (if f.waitTimer ≠ none then 1 else 0) ++ bigEndian 2 (f.waitTimer.getD 0) ++
        bigEndian 1 f.waitLength ++ flagByte f.restoreDue ++ bigEndian 2 s.time.frame ++ bigEndian 1 s.time.slice) := by
  refine tells_of_reply (body := fun s => reply (feedData s) s) rfl judged ?_
  simp only [feedData, heard_time, heard_feed]
  rw [flagByte_of_iff (p := s.feed.waitTimer ≠ none) Option.isSome_iff_ne_none]

/-! ### The dish line, the restock list and the pager link -/

/-- The state of a named zone for the line, as a code (R100). -/
def standsCode (s : State) (zone : Option ZoneId) (kind : ZoneKind) : Option Nat := zone.map fun z =>
  match s.zones.get z with
  | some r => if r.kind = kind then r.state.code else 0
  | none => 0

omit judged in
theorem standsBytes_eq (zone : Option ZoneId) (kind : ZoneKind) (s : State) :
    standsBytes zone (standsIn s zone kind) = optionalBytes 1 (standsCode s zone kind) := by
  unfold standsBytes standsIn standsCode
  cases zone with
  | none => rfl
  | some z =>
    dsimp only [Option.map_some]
    cases s.zones.get z with
    | none => rfl
    | some r =>
      dsimp only
      split <;> rfl

theorem tells_lineQuery : let l := s.line
    Tells (.lineQuery t) t s (
      flagByte l.configured ++ optionalBytes 1 (l.wash.map (·.val)) ++ optionalBytes 1 (l.booster.map (·.val)) ++
        optionalBytes 1 (standsCode s l.wash .washTank) ++ optionalBytes 1 (standsCode s l.booster .rinseBooster) ++
        bigEndian 2 l.washThreshold ++ bigEndian 2 l.rinseThreshold ++ bigEndian 1 l.enterPolarity.code ++
        bigEndian 1 l.exitPolarity.code ++ bigEndian 1 l.outPolarity.code ++ flagByte l.enterLevel ++ flagByte l.exitLevel ++
        flagByte l.outLevel ++ groupBytes l.group ++ flagByte l.permit ++ bigEndian 2 l.faults ++ listBytes (l.racks.map (·.tag))) := by
  refine tells_of_reply (body := fun s => reply (lineData s) s) rfl judged ?_
  have stands : ∀ zone kind, standsIn (heard t s) zone kind = standsIn s zone kind := fun zone kind => by
    unfold standsIn
    rw [heard_zones]
  simp only [lineData, heard_line, washState, boosterState, stands, standsBytes_eq]

theorem tells_restockQuery : Tells (.restockQuery t) t s (
    bigEndian 1 s.restock.length ++ ((s.restock.take 19).map taskBytes).flatten) := by
  refine tells_of_reply (body := fun s => reply (restockData s) s) rfl judged ?_
  simp only [restockData, heard_restock]
  rfl

theorem tells_linkQuery : Tells (.linkQuery t) t s (linkData s) := by
  refine tells_of_reply (body := fun s => reply (linkData s) s) rfl judged ?_
  simp only [linkData, heard_link]

theorem tells_rackQuery {q : Nat} {r : Rack} (here : s.line.racks[q]? = some r) (few : q ≤ 11) :
    Tells (.rackQuery t q) t s (rackData r) := by
  refine tells_of_reply (body := rackQuery q) rfl judged ?_
  rw [rackQuery, if_neg (by omega), heard_line, here]

/-! ### Channels and zones -/

theorem tells_sensorQuery (c : ChannelId) : Tells (.sensorQuery t c.val) t s (
    bigEndian 2 (s.scan.channels.get c).code.toNat ++ bigEndian 2 (s.scan.channels.get c).reading ++
      bigEndian 1 (s.scan.channels.get c).rail ++ bigEndian 1 (if 3 ≤ (s.scan.channels.get c).rail then 1 else 0) ++
      listBytes ((allZones.filter fun z => (s.zones.get z).any fun r => r.channel = c).map (·.val))) := by
  have named : ∀ z, (match s.zones.get z with | some r => r.channel == c | none => false) =
      (s.zones.get z).any fun r => decide (r.channel = c) := fun z => by
    cases s.zones.get z <;> rfl
  refine tells_of_reply (body := sensorQuery c.val) rfl judged ?_
  rw [sensorQuery, index?_val]
  simp only [sensorData, heard_scan, heard_zones]
  rw [flagByte_of_iff decide_eq_true_iff]
  congr 2
  exact congrArg (fun l : List ZoneId => listBytes (l.map (·.val))) (List.filter_congr fun z _ => named z)

theorem tells_zoneQuery {z : ZoneId} {r : Zone} (zone : s.zones.get z = some r) : Tells (.zoneQuery t z.val) t s (zoneData s r) := by
  have data : zoneData (heard t s) r = zoneData s r := by
    unfold zoneData zoneReading
    rw [heard_scan]
  refine tells_of_reply (body := zoneQuery z.val) rfl judged ?_
  rw [zoneQuery, index?_val]
  dsimp only
  rw [heard_zones, zone]
  dsimp only
  rw [data]

theorem tells_zoneQuery_undefined {z : ZoneId} (none_ : s.zones.get z = none) :
    ∃ data, Tells (.zoneQuery t z.val) t s (bigEndian 1 0 ++ data) := by
  refine ⟨(Config.undefinedZoneRest z).take 159, tells_of_reply (body := zoneQuery z.val) rfl judged ?_⟩
  rw [zoneQuery, index?_val]
  simp only [heard_zones, none_]
  rfl

theorem refuses_cabinetQuery {z : ZoneId} (none_ : s.zones.get z = none) :
    exec (.cabinetQuery t z.val) s = .next (refusedWith t .notFound s) := by
  refine refused_of_body (body := cabinetQuery z.val) rfl judged ?_
  rw [cabinetQuery, index?_val]
  simp only [heard_zones, none_]
  rfl

theorem tells_cabinetQuery {z : ZoneId} {c : Cabinet} (cab : s.cabinet? z = some c) : let task := s.task? z
    Tells (.cabinetQuery t z.val) t s (
      optionalBytes 1 (c.kind.map (·.val)) ++ bigEndian 2 c.capacity ++ bigEndian 2 c.low ++ bigEndian 2 c.high ++
        bigEndian 2 c.stock ++ bigEndian 2 c.reserved ++ bigEndian 2 (c.stock - c.reserved) ++
        bigEndian 1 (s.zoneState z).code ++ bigEndian 1 (if task ≠ none then 1 else 0) ++
        optionalBytes 1 (task.map fun q => if q.paged = true then 1 else 0) ++ optionalBytes 2 (task.map (·.wanted))) := by
  have cab' : (heard t s).cabinet? z = some c := by rw [cabinet?_congr (heard_zones t s), cab]
  have zone : ((heard t s).zones.get z).isNone = false := by
    obtain ⟨r, zone, -⟩ := cabinet?_eq_some.mp cab
    rw [heard_zones, zone]
    rfl
  have task : (heard t s).task? z = s.task? z := by rw [State.task?, heard_restock]; rfl
  have state : (heard t s).zoneState z = s.zoneState z := by rw [State.zoneState, heard_zones]; rfl
  refine tells_of_reply (body := cabinetQuery z.val) rfl judged ?_
  rw [cabinetQuery, index?_val]
  simp only [zone, cab', cabinetData, task, state, Bool.false_eq_true, if_false]
  rw [flagByte_of_iff (p := s.task? z ≠ none) Option.isSome_iff_ne_none]
  rfl

theorem tells_cabinetQuery_none {z : ZoneId} (some_ : s.zones.get z ≠ none) (none_ : s.cabinet? z = none) :
    ∃ data, Tells (.cabinetQuery t z.val) t s data := by
  have none' : (heard t s).cabinet? z = none := by rw [cabinet?_congr (heard_zones t s), none_]
  refine ⟨_, tells_of_reply (d := (Config.noCabinetData z).take maxData) (body := cabinetQuery z.val) rfl judged ?_⟩
  rw [cabinetQuery, index?_val]
  simp only [heard_zones, none', Option.isNone_iff_eq_none, some_, if_false]

/-! ### Wares and courses -/

omit judged in
/-- The cabinets of a kind and their stocks, found in one walk (R123). -/
theorem stocks_eq (s : State) (k : WareId) :
    let stocks := allZones.filterMap fun z => (s.cabinet? z).bind fun c => if c.kind = some k then some c.stock else none
    inCabinets s k = stocks.sum ∧ (cabinetsOf s k).length = stocks.length := by
  have walk : ∀ l : List ZoneId, (l.filter fun z => match s.cabinet? z with | some c => c.kind == some k | none => false).map
      (fun z => match s.cabinet? z with | some c => c.stock | none => 0) =
      l.filterMap fun z => (s.cabinet? z).bind fun c => if c.kind = some k then some c.stock else none := by
    intro l
    induction l with
    | nil => rfl
    | cons z l ih =>
      rw [List.filterMap_cons, List.filter_cons]
      cases cab : s.cabinet? z with
      | none => simpa using ih
      | some c =>
        by_cases kind : c.kind = some k
        · simpa [kind, cab] using ih
        · simpa [kind] using ih
  dsimp only
  rw [← walk allZones, List.length_map]
  exact ⟨rfl, rfl⟩

theorem tells_wareQuery {k : WareId} (known : (s.wares.get k).defined = true) : let w := s.wares.get k
    let stocks := allZones.filterMap fun z => (s.cabinet? z).bind fun c => if c.kind = some k then some c.stock else none
    Tells (.wareQuery t k.val) t s (
      bigEndian 2 w.total ++ bigEndian 2 w.soiled ++
        bigEndian 2 ((s.line.racks.filter fun r => r.kind = k).map (·.count)).sum ++ bigEndian 2 w.clean ++
        bigEndian 2 stocks.sum ++ bigEndian 2 w.out ++ bigEndian 1 stocks.length ++
        bigEndian 1 (s.restock.filter fun q => q.kind = k ∧ q.paged = false).length ++
        bigEndian 1 (s.restock.filter fun q => q.kind = k ∧ q.paged = true).length) := by
  have stocks := stocks_eq (heard t s) k
  simp only [cabinet?_congr (heard_zones t s)] at stocks
  obtain ⟨sum, length⟩ := stocks
  have waiting : (fun q : RestockTask => q.kind == k && !q.paged) = fun q => decide (q.kind = k ∧ q.paged = false) := by
    funext q
    rw [Bool.eq_iff_iff]
    simp
  have paged : (fun q : RestockTask => q.kind == k && q.paged) = fun q => decide (q.kind = k ∧ q.paged = true) := by
    funext q
    rw [Bool.eq_iff_iff]
    simp
  refine tells_of_reply (body := wareQuery k.val) rfl judged ?_
  rw [wareQuery, index?_val]
  simp only [wareData, heard_wares, heard_restock, known, if_true, sum, length, waiting, paged, inRacks, heard_line]
  rfl

theorem tells_wareQuery_undefined (k : WareId) : ∃ data, Tells (.wareQuery t k.val) t s data := by
  refine ⟨if ((heard t s).wares.get k).defined then wareData (heard t s) k else (Config.undefinedWareData k).take maxData,
    tells_of_reply (body := wareQuery k.val) rfl judged ?_⟩
  rw [wareQuery, index?_val]

theorem tells_courseQuery {c : CourseId} {r : Course} (live : s.course? c = some r) :
    Tells (.courseQuery t c.val) t s (courseData s c r) := by
  have live' : (heard t s).course? c = some r := by rw [State.course?, heard_courses]; exact live
  refine tells_of_reply (body := courseQuery c.val) rfl judged ?_
  rw [courseQuery, index?_val]
  simp only [live', courseData, heard_courses]

theorem tells_courseQuery_free {c : CourseId} (free : s.course? c = none) :
    ∃ data, Tells (.courseQuery t c.val) t s (bigEndian 1 0 ++ data) := by
  have free' : (heard t s).course? c = none := by rw [State.course?, heard_courses]; exact free
  refine ⟨(Config.freeCourseRest c).take 159, tells_of_reply (body := courseQuery c.val) rfl judged ?_⟩
  rw [courseQuery, index?_val]
  simp only [free']
  rfl

/-! ### Staff and pages -/

theorem tells_staffQuery (e : EntryId) : Tells (.staffQuery t e.val) t s (staffData (heard t s) e) := by
  refine tells_of_reply (body := staffQuery e.val) rfl judged ?_
  rw [staffQuery, index?_val]

theorem tells_pageQuery {i : PageId} {p : Page} (live : (heard t s).page? i = some p) : let d := (heard t s).desk
    Tells (.pageQuery t i.val) t s (
      bigEndian 1 p.id.val ++ bigEndian 1 p.source.val ++ bigEndian 1 p.cause ++ bigEndian 1 p.object ++
        bigEndian 1 p.role.index.val ++ groupBytes p.group ++ bigEndian 1 p.level ++ bigEndian 1 p.closure.code ++
        bigEndian 1 p.state.code ++ optionalBytes 1 (p.target.map (·.val)) ++ bigEndian 1 p.step ++
        optionalBytes 1 (p.excluded.map (·.val)) ++ bigEndian 2 (p.ackTimer.getD 0) ++ bigEndian 3 p.created ++
        bigEndian 1 (if p.id ∈ d.reoffers then 1 else 0) ++ bigEndian 1 d.pages.length ++
        bigEndian 1 (d.pages.filter fun q => q.state = .queued).length ++ bigEndian 1 d.cancels.length) := by
  refine tells_of_reply (body := pageQuery i.val) rfl judged ?_
  rw [pageQuery, index?_val]
  dsimp only
  rw [live]
  dsimp only
  rw [pageData, flagByte_of_iff List.contains_iff_mem]
  rfl

end

/-- PROGRAM_QUERY is the zone's role's (R96). -/
theorem tells_programQuery {z : ZoneId} {r : Zone} (judged : ZoneJudged t z r s) {g : Program} (oven : r.kind = .oven)
    (program : r.program = some g) : Tells (.programQuery t z.val) t s (programData r g) := by
  rw [Tells, exec_zone (body := programQuery t.port z.val) rfl judged, programQuery, withZone_judged judged, oven, program]
  rfl

theorem tells_programQuery_none {z : ZoneId} {r : Zone} (judged : ZoneJudged t z r s) (other : r.kind ≠ .oven) :
    ∃ data, Tells (.programQuery t z.val) t s data := by
  refine ⟨(Config.noProgramData z).take maxData, ?_⟩
  rw [Tells, exec_zone (body := programQuery t.port z.val) rfl judged, programQuery, withZone_judged judged]
  split
  · next oven _ => exact absurd oven other
  · rfl

/-- A draft slot in PROGRAM_QUERY (R96). -/
theorem draftBytes_eq (d : Option ProgramStep) : flagByte d.isSome ++ stepBytes d = match d with
    | some d => [1] ++ stepBytes (some d)
    | none => [0] ++ List.replicate 7 0xFF := by
  cases d with
  | none => rfl
  | some d => exact congrArg (· ++ stepBytes (some d)) (by decide : flagByte true = [1])

/-- The data of PROGRAM_QUERY (R96). -/
theorem programData_eq (r : Zone) (g : Program) : programData r g =
    bigEndian 1 g.state.code ++ bigEndian 1 g.current ++ bigEndian 3 g.timer ++
      bigEndian 1 (if g.state = .running ∧ (r.state = .ready ∨ r.state = .recover) then 1 else 0) ++ bigEndian 1 g.lastRun ++
      bigEndian 1 g.steps.length ++ bigEndian 2 g.hold ++ (g.steps.map fun st => stepBytes (some st)).flatten ++
      ((List.finRange 8).map fun i => flagByte (g.draft.get i).isSome ++ stepBytes (g.draft.get i)).flatten := by
  rw [programData, flagByte_of_iff stepCounts_iff, items_eq_map, List.map_map]
  rfl

/-- Settles O51. -/
theorem queriesChangeNothing : Obligations.QueriesChangeNothing := by
  intro t s judged h tells refuses yes opt members group ticks
  have ticked : ∀ o : Option Nat, ticks o = o.getD 0 := fun o => by cases o <;> rfl
  refine ⟨fun n => ⟨tells_loadQuery judged n, ?_⟩, ?_, ?_, ?_, ?_, ?_, ?_, fun z => ⟨fun r zone => ?_, fun none_ => ?_, fun none_ => ?_,
    fun c cab => ?_, fun some_ none_ => ?_, fun r judged => ⟨fun g oven program => ?_, fun other => ?_⟩⟩, fun q r here few => ?_,
    fun q few past => ?_, fun k => ⟨fun known => ?_, fun _ => ?_⟩, fun c => ⟨fun r live => ?_, fun free => ?_⟩, fun e => ?_,
    fun i => ⟨fun p live => ?_, fun gone => ?_⟩, fun n => ?_⟩
  · have told := tells_mapQuery judged n
    dsimp only at told
    rw [decidingBytes_eq, matchingWindows_eq] at told
    exact told
  · exact tells_frameQuery judged
  · simp only [ticked]
    exact tells_feedQuery judged
  · exact tells_lineQuery judged
  · exact tells_restockQuery judged
  · have told := tells_linkQuery judged
    unfold linkData at told
    dsimp only at told
    simp only [ticked]
    cases out : s.link.outstanding <;> rw [out] at told <;> exact told
  · exact tells_sensorQuery judged
  · simp only [ticked]
    exact tells_zoneQuery judged zone
  · exact tells_zoneQuery_undefined judged none_
  · exact refuses_cabinetQuery judged none_
  · exact tells_cabinetQuery judged cab
  · exact tells_cabinetQuery_none judged some_ none_
  · have told := tells_programQuery judged oven program
    simp only [programData_eq, draftBytes_eq] at told
    exact told
  · exact tells_programQuery_none judged other
  · exact tells_rackQuery judged here few
  · refine refused_of_body (body := rackQuery q) rfl judged ?_
    rw [rackQuery, if_neg (by omega), heard_line, List.getElem?_eq_none past]
  · exact tells_wareQuery judged known
  · exact tells_wareQuery_undefined judged k
  · exact tells_courseQuery judged live
  · exact tells_courseQuery_free judged free
  · exact tells_staffQuery judged e
  · simp only [ticked]
    exact tells_pageQuery judged live
  · refine refused_of_body (body := pageQuery i.val) rfl judged ?_
    rw [pageQuery, index?_val]
    dsimp only
    rw [gone]
  · refine ⟨fun out => ⟨?_, ?_⟩, fun out => ⟨?_, ?_, ?_⟩, fun out => ?_, fun out => ?_, fun out => ?_, fun out => ?_, fun out => ?_⟩
    · exact refused_of_body (body := loadQuery n) rfl judged (by rw [loadQuery, index?_eq_none_iff.mpr out])
    · exact refused_of_body (body := mapQuery n) rfl judged (by rw [mapQuery, index?_eq_none_iff.mpr out])
    · exact refused_of_body (body := sensorQuery n) rfl judged (by rw [sensorQuery, index?_eq_none_iff.mpr out])
    · exact refused_of_body (body := zoneQuery n) rfl judged (by rw [zoneQuery, index?_eq_none_iff.mpr out])
    · exact refused_of_body (body := cabinetQuery n) rfl judged (by rw [cabinetQuery, index?_eq_none_iff.mpr out])
    · exact refused_of_body (body := rackQuery n) rfl judged (by rw [rackQuery, if_pos out])
    · exact refused_of_body (body := wareQuery n) rfl judged (by rw [wareQuery, index?_eq_none_iff.mpr out])
    · exact refused_of_body (body := courseQuery n) rfl judged (by rw [courseQuery, index?_eq_none_iff.mpr out])
    · exact refused_of_body (body := staffQuery n) rfl judged (by rw [staffQuery, index?_eq_none_iff.mpr out])
    · exact refused_of_body (body := pageQuery n) rfl judged (by rw [pageQuery, index?_eq_none_iff.mpr out])

end

end Sys2Proof.Machine
end

section
/-! PROOF. Every port command is read back from the bytes that carry it (R181, R190). -/

namespace Sys2Proof

/-! ### Numbers in bytes (R190) -/

theorem exists_u8 {n : Nat} (h : n < 256) : ∃ a, n = u8 a := ⟨byteOf n, by simp [u8, fromBytes, byteOf, Nat.mod_eq_of_lt h]⟩

theorem exists_u16 {n : Nat} (h : n < 65536) : ∃ a b, n = u16 a b :=
  ⟨byteOf (n / 256), byteOf n, by simp [u16, fromBytes, byteOf]; omega⟩

theorem exists_u24 {n : Nat} (h : n < 16777216) : ∃ a b c, n = u24 a b c :=
  ⟨byteOf (n / 65536), byteOf (n / 256), byteOf n, by simp [u24, fromBytes, byteOf]; omega⟩

theorem byteOf_toNat (a : Byte) : byteOf a.toNat = a := by simp [byteOf]

theorem byteOf_u8 (a : Byte) : byteOf (u8 a) = a := by
  rw [show u8 a = a.toNat by simp [u8, fromBytes], byteOf_toNat]

theorem byteOf_of_mod {n : Nat} {a : Byte} (h : n % 256 = a.toNat) : byteOf n = a :=
  BitVec.eq_of_toNat_eq (by rw [byteOf, BitVec.toNat_ofNat, h])

theorem bigEndian_u8 (a : Byte) : bigEndian 1 (u8 a) = [a] := by
  rw [bigEndian, bigEndian, Nat.pow_zero, Nat.div_one, byteOf_u8]

theorem bigEndian_u16 (a b : Byte) : bigEndian 2 (u16 a b) = [a, b] := by
  have value : u16 a b = a.toNat * 256 + b.toNat := by simp [u16, fromBytes]
  have := a.isLt
  have := b.isLt
  rw [bigEndian, bigEndian, bigEndian, value, byteOf_of_mod (a := a) (by omega), byteOf_of_mod (a := b) (by omega)]

theorem bigEndian_u24 (a b c : Byte) : bigEndian 3 (u24 a b c) = [a, b, c] := by
  have value : u24 a b c = a.toNat * 65536 + b.toNat * 256 + c.toNat := by simp [u24, fromBytes]; omega
  have := a.isLt
  have := b.isLt
  have := c.isLt
  rw [bigEndian, bigEndian, bigEndian, bigEndian, value, byteOf_of_mod (a := a) (by omega), byteOf_of_mod (a := b) (by omega),
    byteOf_of_mod (a := c) (by omega)]

/-- A signed amount of two bytes (R190). -/
theorem exists_i16 {v : Int} (h : -32768 ≤ v ∧ v < 32768) : ∃ a b, v = i16 a b ∧ encodeI16 v = [a, b] := by
  obtain ⟨a, b, value⟩ := exists_u16 (n := (v % 65536).toNat) (by omega)
  refine ⟨a, b, ?_, by rw [encodeI16, value, bigEndian_u16]⟩
  rw [i16, ← value]
  split <;> omega

/-- A list of one-byte members. -/
theorem exists_bytes {l : List Nat} (h : bytesFit l = true) : ∃ bs : List Byte, l = bs.map u8 := by
  induction l with
  | nil => exact ⟨[], rfl⟩
  | cons n l ih =>
    obtain ⟨head, tail⟩ := (by simpa [bytesFit] using h : n < 256 ∧ ∀ m ∈ l, m < 256)
    obtain ⟨a, rfl⟩ := exists_u8 head
    obtain ⟨bs, rfl⟩ := ih (by simpa [bytesFit] using tail)
    exact ⟨a :: bs, rfl⟩

theorem map_byteOf_u8 (bs : List Byte) : (bs.map u8).map byteOf = bs := by
  rw [List.map_map]
  exact (List.map_congr_left fun a _ => byteOf_u8 a).trans (List.map_id _)

theorem bytesFit_cons (n : Nat) (l : List Nat) : bytesFit (n :: l) = true ↔ n < 256 ∧ bytesFit l = true := by simp [bytesFit]

theorem wordsFit_cons (n : Nat) (l : List Nat) : wordsFit (n :: l) = true ↔ n < 65536 ∧ wordsFit l = true := by simp [wordsFit]

/-! ### One command -/

/-- The load list of ZONE_DEFINE between the items before and behind it. -/
theorem parseZoneSettings_eq (z k c lv g sp1 sp0 fb1 fb0 sb1 sb0 bd tl so1 so0 mg1 mg0 rl1 rl0 n : Byte) (loads : List Byte)
    (count : u8 n = loads.length) : parseZoneSettings (z :: k :: c :: n ::
      (loads ++ [lv, g, sp1, sp0, fb1, fb0, sb1, sb0, bd, tl, so1, so0, mg1, mg0, rl1, rl0])) =
    some { zone := u8 z, kind := u8 k, channel := u8 c, loads := loads.map u8, level := u8 lv, group := u8 g,
           setpoint := u16 sp1 sp0, fallback := u16 fb1 fb0, standby := u16 sb1 sb0, band := u8 bd, tolerance := u8 tl,
           soakTime := u16 so1 so0, margin := u16 mg1 mg0, recoverLimit := u16 rl1 rl0 } := by
  rw [parseZoneSettings, count, List.drop_left, List.take_left]

/-- A command is read back from its code and its payload. -/
theorem commandOf_encodeCommand {i : Instr} {code : Nat} {T : Bool → Transfer} {payload : List Byte}
    (encoded : encodeCommand i = some (code, T true, payload)) (fits : operandsFit i = true) : commandOf T code payload = some i := by
  cases i
  case nop | status | readNotice | frameQuery | feedQuery | linePurge | lineQuery | restockQuery | linkQuery =>
    cases encoded
    rfl
  case superviseSet t n | loadQuery t n | mapDefault t n | mapQuery t n | frameSet t n | shedLevel t n | sensorQuery t n |
      zoneStart t n | zoneStop t n | zonePause t n | zoneResume t n | zoneClear t n | zoneQuery t n | programRun t n |
      programAdvance t n | programAbort t n | programQuery t n | rackQuery t n | wareQuery t n | cabinetQuery t n | courseClose t n |
      courseQuery t n | staffQuery t n | pageDone t n | pageTiming t n | pageQuery t n =>
    obtain ⟨a, rfl⟩ := exists_u8 ((bytesFit_cons n []).mp fits).1
    cases encoded
    rw [bigEndian_u8]
    rfl
  case mapFixed t a b | mapEnable t a b | staffDuty t a b =>
    simp only [operandsFit, bytesFit_cons] at fits
    obtain ⟨fa, fb, -⟩ := fits
    obtain ⟨a', rfl⟩ := exists_u8 fa
    obtain ⟨b', rfl⟩ := exists_u8 fb
    cases encoded
    simp only [bigEndian_u8]
    rfl
  case rackLoad t a b c =>
    simp only [operandsFit, bytesFit_cons] at fits
    obtain ⟨fa, fb, fc, -⟩ := fits
    obtain ⟨a', rfl⟩ := exists_u8 fa
    obtain ⟨b', rfl⟩ := exists_u8 fb
    obtain ⟨c', rfl⟩ := exists_u8 fc
    cases encoded
    simp only [bigEndian_u8]
    rfl
  case feedConfig t a b c d =>
    simp only [operandsFit, bytesFit_cons] at fits
    obtain ⟨fa, fb, fc, fd, -⟩ := fits
    obtain ⟨a', rfl⟩ := exists_u8 fa
    obtain ⟨b', rfl⟩ := exists_u8 fb
    obtain ⟨c', rfl⟩ := exists_u8 fc
    obtain ⟨d', rfl⟩ := exists_u8 fd
    cases encoded
    simp only [bigEndian_u8]
    rfl
  case mapWindow t a b c d e | pageSend t a b c d e =>
    simp only [operandsFit, bytesFit_cons] at fits
    obtain ⟨fa, fb, fc, fd, fe, -⟩ := fits
    obtain ⟨a', rfl⟩ := exists_u8 fa
    obtain ⟨b', rfl⟩ := exists_u8 fb
    obtain ⟨c', rfl⟩ := exists_u8 fc
    obtain ⟨d', rfl⟩ := exists_u8 fd
    obtain ⟨e', rfl⟩ := exists_u8 fe
    cases encoded
    simp only [bigEndian_u8]
    rfl
  case pageLevels t a b c d e f =>
    simp only [operandsFit, bytesFit_cons] at fits
    obtain ⟨fa, fb, fc, fd, fe, ff, -⟩ := fits
    obtain ⟨a', rfl⟩ := exists_u8 fa
    obtain ⟨b', rfl⟩ := exists_u8 fb
    obtain ⟨c', rfl⟩ := exists_u8 fc
    obtain ⟨d', rfl⟩ := exists_u8 fd
    obtain ⟨e', rfl⟩ := exists_u8 fe
    obtain ⟨f', rfl⟩ := exists_u8 ff
    cases encoded
    simp only [bigEndian_u8]
    rfl
  case feedLimit t a =>
    simp only [operandsFit, wordsFit_cons] at fits
    obtain ⟨fa, -⟩ := fits
    obtain ⟨a1, a0, rfl⟩ := exists_u16 fa
    cases encoded
    simp only [bigEndian_u16]
    rfl
  case loadSet t a b | wareDefine t a b | wareReturn t a b | restockConfirm t a b | coursePlated t a b =>
    simp only [operandsFit, Bool.and_eq_true, bytesFit_cons, wordsFit_cons] at fits
    obtain ⟨⟨fa, -⟩, ⟨fb, -⟩⟩ := fits
    obtain ⟨a', rfl⟩ := exists_u8 fa
    obtain ⟨b1, b0, rfl⟩ := exists_u16 fb
    cases encoded
    simp only [bigEndian_u8, bigEndian_u16]
    rfl
  case zoneSetpoint t a b c d =>
    simp only [operandsFit, Bool.and_eq_true, bytesFit_cons, wordsFit_cons] at fits
    obtain ⟨⟨fa, -⟩, ⟨fb, fc, fd, -⟩⟩ := fits
    obtain ⟨a', rfl⟩ := exists_u8 fa
    obtain ⟨b1, b0, rfl⟩ := exists_u16 fb
    obtain ⟨c1, c0, rfl⟩ := exists_u16 fc
    obtain ⟨d1, d0, rfl⟩ := exists_u16 fd
    cases encoded
    simp only [bigEndian_u8, bigEndian_u16]
    rfl
  case programStep t a b c d e f =>
    simp only [operandsFit, Bool.and_eq_true, bytesFit_cons, wordsFit_cons] at fits
    obtain ⟨⟨fa, fb, ff, -⟩, ⟨fc, fd, fe, -⟩⟩ := fits
    obtain ⟨a', rfl⟩ := exists_u8 fa
    obtain ⟨b', rfl⟩ := exists_u8 fb
    obtain ⟨c1, c0, rfl⟩ := exists_u16 fc
    obtain ⟨d1, d0, rfl⟩ := exists_u16 fd
    obtain ⟨e1, e0, rfl⟩ := exists_u16 fe
    obtain ⟨f', rfl⟩ := exists_u8 ff
    cases encoded
    simp only [bigEndian_u8, bigEndian_u16]
    rfl
  case programLoad t a b c =>
    simp only [operandsFit, Bool.and_eq_true, bytesFit_cons, wordsFit_cons] at fits
    obtain ⟨⟨fa, fb, -⟩, ⟨fc, -⟩⟩ := fits
    obtain ⟨a', rfl⟩ := exists_u8 fa
    obtain ⟨b', rfl⟩ := exists_u8 fb
    obtain ⟨c1, c0, rfl⟩ := exists_u16 fc
    cases encoded
    simp only [bigEndian_u8, bigEndian_u16]
    rfl
  case cabinetSet t a b c d e =>
    simp only [operandsFit, Bool.and_eq_true, bytesFit_cons, wordsFit_cons] at fits
    obtain ⟨⟨fa, fb, -⟩, ⟨fc, fd, fe, -⟩⟩ := fits
    obtain ⟨a', rfl⟩ := exists_u8 fa
    obtain ⟨b', rfl⟩ := exists_u8 fb
    obtain ⟨c1, c0, rfl⟩ := exists_u16 fc
    obtain ⟨d1, d0, rfl⟩ := exists_u16 fd
    obtain ⟨e1, e0, rfl⟩ := exists_u16 fe
    cases encoded
    simp only [bigEndian_u8, bigEndian_u16]
    rfl
  case staffSet t a b c d =>
    simp only [operandsFit, Bool.and_eq_true, bytesFit_cons, wordsFit_cons] at fits
    obtain ⟨⟨fa, fc, fd, -⟩, ⟨fb, -⟩⟩ := fits
    obtain ⟨a', rfl⟩ := exists_u8 fa
    obtain ⟨b1, b0, rfl⟩ := exists_u16 fb
    obtain ⟨c', rfl⟩ := exists_u8 fc
    obtain ⟨d', rfl⟩ := exists_u8 fd
    cases encoded
    simp only [bigEndian_u8, bigEndian_u16]
    rfl
  case clockSet t v =>
    obtain ⟨a, b, c, rfl⟩ := exists_u24 (of_decide_eq_true fits)
    cases encoded
    rw [bigEndian_u24]
    rfl
  case lineConfig t l =>
    simp only [operandsFit, Bool.and_eq_true, bytesFit_cons, wordsFit_cons] at fits
    obtain ⟨⟨fw, fb, fe, fx, fo, fg, -⟩, fwt, frt, -⟩ := fits
    obtain ⟨wash, booster, washThreshold, rinseThreshold, enter, exit_, out, group⟩ := l
    obtain ⟨w, rfl⟩ := exists_u8 fw
    obtain ⟨b, rfl⟩ := exists_u8 fb
    obtain ⟨a1, a0, rfl⟩ := exists_u16 fwt
    obtain ⟨r1, r0, rfl⟩ := exists_u16 frt
    obtain ⟨e, rfl⟩ := exists_u8 fe
    obtain ⟨x, rfl⟩ := exists_u8 fx
    obtain ⟨o, rfl⟩ := exists_u8 fo
    obtain ⟨g, rfl⟩ := exists_u8 fg
    cases encoded
    simp only [bigEndian_u8, bigEndian_u16]
    rfl
  case wareAdjust t k l z v =>
    simp only [operandsFit, Bool.and_eq_true, bytesFit_cons, decide_eq_true_eq] at fits
    obtain ⟨⟨fk, fl, fz, -⟩, small⟩ := fits
    obtain ⟨a, rfl⟩ := exists_u8 fk
    obtain ⟨b, rfl⟩ := exists_u8 fl
    obtain ⟨c, rfl⟩ := exists_u8 fz
    obtain ⟨v1, v0, rfl, signed⟩ := exists_i16 small
    cases encoded
    simp only [bigEndian_u8, signed]
    rfl
  case courseFire t r k v g cs =>
    simp only [operandsFit, Bool.and_eq_true, bytesFit_cons, wordsFit_cons, decide_eq_true_eq] at fits
    obtain ⟨⟨⟨⟨fr, fk, fg, -⟩, fv, -⟩, members⟩, few⟩ := fits
    obtain ⟨a, rfl⟩ := exists_u8 fr
    obtain ⟨b, rfl⟩ := exists_u8 fk
    obtain ⟨v1, v0, rfl⟩ := exists_u16 fv
    obtain ⟨c, rfl⟩ := exists_u8 fg
    obtain ⟨bs, rfl⟩ := exists_bytes members
    obtain ⟨n, count⟩ := exists_u8 (n := (bs.map u8).length) (by omega)
    cases encoded
    rw [count, map_byteOf_u8]
    simp only [bigEndian_u8, bigEndian_u16]
    exact if_pos (by rw [← count, List.length_map]; rfl)
  case zoneDefine t z =>
    simp only [operandsFit, Bool.and_eq_true, bytesFit_cons, wordsFit_cons, decide_eq_true_eq] at fits
    obtain ⟨⟨⟨⟨fz, fk, fc, fl, fg, fb, ft, -⟩, members⟩, few⟩, fs, ff, fy, fo, fm, fr, -⟩ := fits
    obtain ⟨zone, kind, channel, loads, level, group, setpoint, fallback, standby, band, tolerance, soak, margin, recover⟩ := z
    obtain ⟨z, rfl⟩ := exists_u8 fz
    obtain ⟨k, rfl⟩ := exists_u8 fk
    obtain ⟨c, rfl⟩ := exists_u8 fc
    obtain ⟨bs, rfl⟩ := exists_bytes members
    obtain ⟨n, count⟩ := exists_u8 (n := (bs.map u8).length) (by dsimp only at few; omega)
    obtain ⟨l, rfl⟩ := exists_u8 fl
    obtain ⟨g, rfl⟩ := exists_u8 fg
    obtain ⟨s1, s0, rfl⟩ := exists_u16 fs
    obtain ⟨f1, f0, rfl⟩ := exists_u16 ff
    obtain ⟨y1, y0, rfl⟩ := exists_u16 fy
    obtain ⟨b, rfl⟩ := exists_u8 fb
    obtain ⟨t', rfl⟩ := exists_u8 ft
    obtain ⟨o1, o0, rfl⟩ := exists_u16 fo
    obtain ⟨m1, m0, rfl⟩ := exists_u16 fm
    obtain ⟨r1, r0, rfl⟩ := exists_u16 fr
    have parsed := parseZoneSettings_eq z k c l g s1 s0 f1 f0 y1 y0 b t' o1 o0 m1 m0 r1 r0 n bs (by rw [← count, List.length_map])
    cases encoded
    dsimp only
    rw [count, map_byteOf_u8]
    simp only [bigEndian_u8, bigEndian_u16, List.append_assoc, List.cons_append, List.nil_append]
    change (match parseZoneSettings _ with
      | some z => some (Instr.zoneDefine (T true) z)
      | none => some (Instr.zoneDefine (T false) ZoneSettings.blank)) = _
    rw [parsed]
  all_goals cases encoded

/-- The codes of the table, and a payload of 30 bytes at most (R181). -/
theorem encodeCommand_fits {i : Instr} {code : Nat} {t : Transfer} {payload : List Byte}
    (encoded : encodeCommand i = some (code, t, payload)) (fits : operandsFit i = true) : code < 255 ∧ payload.length ≤ 30 := by
  cases i
  case zoneDefine =>
    simp only [operandsFit, Bool.and_eq_true, decide_eq_true_eq] at fits
    obtain ⟨⟨-, few⟩, -⟩ := fits
    cases encoded
    simp only [List.length_append, length_bigEndian, List.length_map]
    omega
  case courseFire =>
    simp only [operandsFit, Bool.and_eq_true, decide_eq_true_eq] at fits
    obtain ⟨-, few⟩ := fits
    cases encoded
    simp only [List.length_append, length_bigEndian, List.length_map]
    omega
  case wareAdjust =>
    cases encoded
    simp [length_bigEndian, encodeI16]
  all_goals cases encoded <;> simp [length_bigEndian]

/-! ### Transactions (R181) -/

theorem u8_eq (a : Byte) : u8 a = a.toNat := by simp [u8, fromBytes]

theorem all_replicate_fill (n : Nat) : (List.replicate n fillByte).all (· == fillByte) = true := by
  rw [List.all_replicate]
  simp

/-- A well-formed request is read as the command of its code. -/
theorem decodeTransaction_wellFormed (p : PortId) (code : Byte) (payload : List Byte) (fill : Nat) (few : payload.length ≤ 30) :
    decodeTransaction p (code :: byteOf payload.length :: payload ++ List.replicate fill fillByte) =
      some ((commandOf (fun ok => { port := p, clocked := payload.length + 2 + fill, lengthOk := ok }) code.toNat payload).getD
        (.unknown p (payload.length + 2 + fill))) := by
  have count : u8 (byteOf payload.length) = payload.length := by rw [u8_eq, byteOf, BitVec.toNat_ofNat]; omega
  have length : (code :: byteOf payload.length :: payload ++ List.replicate fill fillByte).length = payload.length + 2 + fill := by
    simp only [List.cons_append, List.length_cons, List.length_append, List.length_replicate]
    omega
  have some_ : (code :: byteOf payload.length :: payload ++ List.replicate fill fillByte).all (· == fillByte) = false := by
    have counted : byteOf payload.length ≠ fillByte := fun same => by
      have value := congrArg u8 same
      rw [count] at value
      have : u8 fillByte = 255 := rfl
      omega
    simp [counted]
  have orderly : ¬ (30 < payload.length ∨ (payload ++ List.replicate fill fillByte).length < payload.length ∨
      ¬ (List.replicate fill fillByte).all (· == fillByte) = true) := by
    rw [not_or, not_or, not_not, all_replicate_fill, List.length_append]
    exact ⟨by omega, by omega, rfl⟩
  unfold decodeTransaction
  rw [length, some_]
  dsimp only [List.cons_append, List.isEmpty_cons]
  rw [if_neg Bool.false_ne_true, if_neg Bool.false_ne_true, count, List.drop_left, List.take_left, u8_eq, if_neg orderly]
  cases commandOf (fun ok => { port := p, clocked := payload.length + 2 + fill, lengthOk := ok }) code.toNat payload <;> rfl

namespace Machine

/-- Settles O52. -/
theorem portCommandsRoundTrip : Obligations.PortCommandsRoundTrip := by
  intro i t roles table wellFormed ok
  obtain ⟨fits, lengths⟩ := Bool.and_eq_true_iff.mp wellFormed
  obtain ⟨code, payload, encoded⟩ : ∃ code payload, encodeCommand i = some (code, t, payload) := by
    cases i <;> cases table <;> exact ⟨_, _, rfl⟩
  obtain ⟨small, few⟩ := encodeCommand_fits encoded fits
  have room : 2 + payload.length ≤ t.clocked := by
    unfold lengthFits at lengths
    rw [encoded] at lengths
    simpa [ok] using lengths
  have total : payload.length + 2 + (t.clocked - (2 + payload.length)) = t.clocked := by omega
  refine ⟨_, by rw [encodeTransaction, encoded]; rfl, ?_, ?_⟩
  · simp only [List.cons_append, List.length_cons, List.length_append, List.length_replicate]
    omega
  · have whole : ({ port := t.port, clocked := t.clocked, lengthOk := true } : Transfer) = t := by rw [← ok]
    have read : (byteOf code).toNat = code := by rw [byteOf, BitVec.toNat_ofNat]; omega
    rw [decodeTransaction_wellFormed _ _ _ _ few, total, read, commandOf_encodeCommand (by rw [encoded, whole]) fits, Option.getD_some]

end Machine

end Sys2Proof
end

section
/-! PROOF. How the bytes of a transaction and of the pager link are judged (R171, R172, R181). -/

namespace Sys2Proof.Machine

/-! ### The codes of the command table (11 section 11.4) -/

/-- A code that reads as no command is outside the table; one that reads as a command is in it, and the command is a port's. -/
def Tabled (T : Bool → Transfer) (code : Nat) : Option Instr → Prop
  | none => code ∉ tableCodes
  | some i => code ∈ tableCodes ∧ ∃ b roles, portCommand i = some (T b, roles)

theorem Tabled.command {T : Bool → Transfer} {code : Nat} {i : Instr} (table : tableCodes.contains code = true) (b : Bool)
    (roles : List Role) (known : portCommand i = some (T b, roles)) : Tabled T code (some i) := ⟨by simpa using table, b, roles, known⟩

theorem commandOf_tabled (T : Bool → Transfer) (code : Nat) (p : List Byte) : Tabled T code (commandOf T code p) := by
  unfold commandOf
  split
  case h_109 =>
    intro mem
    simp only [tableCodes, List.mem_append, List.mem_cons, List.not_mem_nil, or_false] at mem
    casesm* _ ∨ _ <;> contradiction
  case' h_34 => split
  case' h_84 => split
  all_goals exact Tabled.command rfl _ _ rfl

/-! ### Transactions (R181) -/

theorem not_all_fill {bytes : List Byte} (other : ∃ b ∈ bytes, b ≠ 0xFF) : bytes.all (· == fillByte) = false := by
  obtain ⟨b, mem, ne⟩ := other
  exact List.all_eq_false.mpr ⟨b, mem, by simpa [fillByte] using ne⟩

theorem decodeTransaction_fill (p : PortId) {n : Nat} (some_ : 1 ≤ n) :
    decodeTransaction p (List.replicate n 0xFF) = some (.readTransaction p n) := by
  have nonempty : (List.replicate n (0xFF : Byte)).isEmpty = false := by
    rw [List.isEmpty_eq_false_iff]
    exact List.ne_nil_of_length_pos (by rw [List.length_replicate]; exact some_)
  unfold decodeTransaction
  rw [nonempty, if_neg Bool.false_ne_true, List.length_replicate]
  exact if_pos (all_replicate_fill n)

theorem decodeTransaction_badFrame (p : PortId) (code len : Byte) (rest : List Byte) (other : ∃ b ∈ code :: len :: rest, b ≠ 0xFF)
    (bad : 30 < len.toNat ∨ rest.length < len.toNat ∨ ∃ b ∈ rest.drop len.toNat, b ≠ 0xFF) :
    decodeTransaction p (code :: len :: rest) = some (.frameError p (rest.length + 2)) := by
  unfold decodeTransaction
  rw [not_all_fill other, List.isEmpty_cons, if_neg Bool.false_ne_true, if_neg Bool.false_ne_true]
  dsimp only
  rw [u8_eq, if_pos]
  · rfl
  · exact bad.imp_right (Or.imp_right fun other => by rw [not_all_fill other]; exact Bool.false_ne_true)

/-- A well-formed request of any code. -/
theorem decodeTransaction_request (p : PortId) (code : Byte) (payload : List Byte) (fill : Nat) (few : payload.length ≤ 30) :
    let bytes := code :: byteOf payload.length :: payload ++ List.replicate fill 0xFF
    (code.toNat ∉ tableCodes → decodeTransaction p bytes = some (.unknown p (payload.length + 2 + fill))) ∧
    (code.toNat ∈ tableCodes → ∃ i t roles, decodeTransaction p bytes = some i ∧ portCommand i = some (t, roles) ∧
      t.port = p ∧ t.clocked = payload.length + 2 + fill) := by
  have read := decodeTransaction_wellFormed p code payload fill few
  have tabled := commandOf_tabled (fun ok => { port := p, clocked := payload.length + 2 + fill, lengthOk := ok }) code.toNat payload
  generalize commandOf (fun ok => { port := p, clocked := payload.length + 2 + fill, lengthOk := ok }) code.toNat payload = found
    at read tabled
  cases found with
  | none => exact ⟨fun _ => read, fun mem => absurd mem tabled⟩
  | some i =>
    obtain ⟨mem, b, roles, known⟩ := tabled
    exact ⟨fun out => absurd mem out, fun _ => ⟨i, _, roles, read, known, rfl, rfl⟩⟩

/-! ### The receiver of the pager link (R171, R172) -/

/-- One byte taken by the receiver, its events collected. -/
def takeByte (acc : List Byte × List Instr) (b : Byte) : List Byte × List Instr :=
  let r := receive acc.1 b false
  (r.1, acc.2 ++ r.2.toList)

/-- A message begun grows byte by byte until its length is reached. -/
theorem foldl_takeByte {type : Byte} {n : Nat} (known : stationFrameLength type = some n) (bs : List Byte) :
    ∀ (rest : List Byte) (out : List Instr), rest.length + 2 + bs.length < n →
      bs.foldl takeByte (linkHeader :: type :: rest, out) = (linkHeader :: type :: (rest ++ bs), out) := by
  induction bs with
  | nil => exact fun rest out _ => by rw [List.foldl_nil, List.append_nil]
  | cons b bs ih =>
    intro rest out short
    rw [List.length_cons] at short
    have grows : takeByte (linkHeader :: type :: rest, out) b = (linkHeader :: type :: (rest ++ [b]), out) := by
      simp only [takeByte, receive, List.headD_cons, known, Bool.false_eq_true, if_false]
      rw [if_neg (by simp; omega)]
      simp
    rw [List.foldl_cons, grows, ih (rest ++ [b]) out (by rw [List.length_append, List.length_singleton]; omega), List.append_assoc]
    rfl

/-- A message of its length is taken at its last byte. -/
theorem run_message {type : Byte} {body : List Byte} {last : Byte} (known : stationFrameLength type = some (body.length + 3)) :
    (linkHeader :: type :: (body ++ [last])).foldl takeByte ([], []) =
      ([], [stationMessage (linkHeader :: type :: (body ++ [last]))]) := by
  have header : takeByte ([], []) linkHeader = ([linkHeader], []) := rfl
  have typed : takeByte ([linkHeader], []) type = ([linkHeader, type], []) := by
    simp only [takeByte, receive, List.headD_nil, known, Bool.false_eq_true, if_false]
    rw [if_neg (by simp)]
    rfl
  have taken : takeByte (linkHeader :: type :: body, []) last = ([], [stationMessage (linkHeader :: type :: (body ++ [last]))]) := by
    simp only [takeByte, receive, List.headD_cons, known, Bool.false_eq_true, if_false]
    rw [if_pos (by simp)]
    rfl
  rw [List.foldl_cons, header, List.foldl_cons, typed, List.foldl_append, foldl_takeByte known body [] [] (by simp; omega),
    List.nil_append]
  exact taken

/-- A message's bytes behind the header add up to its check byte's error (R171). -/
theorem sum_checked (body : List Byte) (wrong : Byte) : (body ++ [checkByte body + wrong]).foldl (· + ·) 0 = wrong := by
  rw [List.foldl_append, List.foldl_cons, List.foldl_nil, checkByte]
  generalize body.foldl (· + ·) 0 = sum
  bv_omega

/-- A frame with its check byte off by `wrong`. -/
def offFrame (type : Byte) (payload : List Byte) (wrong : Byte) : List Byte :=
  linkHeader :: type :: (payload ++ [checkByte (type :: payload) + wrong])

theorem linkFrame_eq (type : Byte) (payload : List Byte) : linkFrame type payload = offFrame type payload 0 := by
  have right : checkByte (type :: payload) + 0 = checkByte (type :: payload) := by simp
  rw [offFrame, right]
  rfl

theorem spoilt_linkFrame (type : Byte) (payload : List Byte) (wrong : Byte) :
    (linkFrame type payload).dropLast ++ (linkFrame type payload).getLast?.toList.map (· + wrong) = offFrame type payload wrong := by
  rw [linkFrame, List.dropLast_concat, List.getLast?_concat]
  rfl

theorem run_offFrame {type : Byte} {payload : List Byte} (known : stationFrameLength type = some (payload.length + 3)) {wrong : Byte}
    (bad : wrong ≠ 0) : (offFrame type payload wrong).foldl takeByte ([], []) = ([], [.garbledMessage .badCheck]) := by
  have sum : ((offFrame type payload wrong).drop 1).foldl (· + ·) 0 = wrong := sum_checked (type :: payload) wrong
  rw [offFrame, run_message known, ← offFrame]
  unfold stationMessage
  rw [sum, if_pos bad]

theorem run_linkFrame {type : Byte} {payload : List Byte} (known : stationFrameLength type = some (payload.length + 3)) :
    (linkFrame type payload).foldl takeByte ([], []) = ([], [match linkFrame type payload with
      | [_, 0x81, i, _] => .sent (pageIdOf i)
      | [_, 0x82, i, _] => .unreachable (pageIdOf i)
      | [_, 0x83, i, a, b, x, _] => .ack (pageIdOf i) (u16 a b) (u8 x)
      | [_, 0x84, _] => .alive
      | _ => .garbledMessage .badType]) := by
  have sum : ((offFrame type payload 0).drop 1).foldl (· + ·) 0 = 0 := sum_checked (type :: payload) 0
  rw [linkFrame_eq, offFrame, run_message known, ← offFrame]
  unfold stationMessage
  rw [sum, if_neg (fun bad => bad rfl)] <;> rfl

theorem pageIdOf_byte (id : PageId) : bigEndian 1 id.val = [byteOf id.val] ∧ pageIdOf (byteOf id.val) = id := by
  refine ⟨by simp [bigEndian], Fin.ext ?_⟩
  simp [pageIdOf, byteOf]

/-- A station message is taken as the event that it is, and is garbled with any other check byte. -/
theorem station_messages (id : PageId) (a : Fin 65536) (x : Byte) : ∀ m ∈ ([
      (linkFrame 0x81 (bigEndian 1 id.val), .sent id),
      (linkFrame 0x82 (bigEndian 1 id.val), .unreachable id),
      (linkFrame 0x83 (bigEndian 1 id.val ++ bigEndian 2 a.val ++ [x]), .ack id a.val x.toNat),
      (linkFrame 0x84 [], .alive)] : List (List Byte × Instr)),
    m.1.foldl takeByte ([], []) = ([], [m.2]) ∧ ∀ wrong : Byte, wrong ≠ 0 →
      (m.1.dropLast ++ m.1.getLast?.toList.map (· + wrong)).foldl takeByte ([], []) = ([], [.garbledMessage .badCheck]) := by
  obtain ⟨page, read⟩ := pageIdOf_byte id
  obtain ⟨hi, lo, address⟩ := exists_u16 a.isLt
  have bytes : bigEndian 2 a.val = [hi, lo] := by rw [address, bigEndian_u16]
  intro m mem
  simp only [List.mem_cons, List.not_mem_nil, or_false] at mem
  rcases mem with rfl | rfl | rfl | rfl
  · refine ⟨?_, fun wrong bad => ?_⟩
    · rw [page, run_linkFrame rfl]
      exact congrArg (fun i => ([], [Instr.sent i])) read
    · rw [spoilt_linkFrame, page, run_offFrame rfl bad]
  · refine ⟨?_, fun wrong bad => ?_⟩
    · rw [page, run_linkFrame rfl]
      exact congrArg (fun i => ([], [Instr.unreachable i])) read
    · rw [spoilt_linkFrame, page, run_offFrame rfl bad]
  · refine ⟨?_, fun wrong bad => ?_⟩
    · rw [page, bytes, run_linkFrame rfl]
      change (([] : List Byte), [Instr.ack (pageIdOf (byteOf id.val)) (u16 hi lo) (u8 x)]) = _
      rw [read, ← address, u8_eq]
    · rw [spoilt_linkFrame, page, bytes, run_offFrame rfl bad]
  · refine ⟨?_, fun wrong bad => ?_⟩
    · rw [run_linkFrame rfl]
      rfl
    · rw [spoilt_linkFrame, run_offFrame rfl bad]

/-- Settles O53. -/
theorem bytesOnTheWiresAreJudged : Obligations.BytesOnTheWiresAreJudged := by
  refine ⟨⟨fun _ => rfl, fun p n => decodeTransaction_fill p, fun p b other => ?_, decodeTransaction_badFrame, decodeTransaction_request,
    by decide, by decide, by decide⟩, station_messages, fun type unknown => ?_, fun b other => ?_, fun soFar b some_ => ?_⟩
  · unfold decodeTransaction
    rw [not_all_fill ⟨b, List.mem_cons_self, other⟩]
    rfl
  · simp only [List.mem_cons, List.not_mem_nil, or_false, not_or] at unknown
    obtain ⟨sent, unreachable, ack, alive⟩ := unknown
    have none_ : stationFrameLength type = none := by
      rw [stationFrameLength, if_neg sent, if_neg unreachable, if_neg ack, if_neg alive]
    simp [receive, linkHeader, none_]
  · have begins : b ≠ linkHeader := other
    simp [receive, begins]
  · cases soFar with
    | nil => exact absurd rfl some_
    | cons a rest => rfl

end Sys2Proof.Machine
end

section
/-! PROOF. The arbiter: a page's candidate, the page offered next, and the three grants in their order (R160 to R162). -/

namespace Sys2Proof.Machine

open Function (update)

/-! ### The first in an order -/

theorem head?_insertSorted {α : Type} (before : α → α → Bool) (a : α) (l : List α) : (insertSorted before a l).head? =
    some (match l.head? with | none => a | some b => if before a b = true then a else b) := by
  cases l with
  | nil => rfl
  | cons b bs =>
    rw [insertSorted, List.head?_cons]
    dsimp only
    split <;> rfl

/-- The first of a sorted list comes, in the list itself, behind none that stands beside it in the order. -/
theorem head?_sortBy {α : Type} {before : α → α → Bool} (total : ∀ a b, before a b = true ∨ before b a = true)
    (trans : ∀ a b c, before a b = true → before b c = true → before a c = true) {l : List α} {b : α}
    (first : (sortBy before l).head? = some b) : ∃ front back, l = front ++ b :: back ∧ (∀ a ∈ front, before a b = false) ∧
      ∀ a ∈ l, before b a = true := by
  induction l generalizing b with
  | nil => cases first
  | cons a as ih =>
    rw [sortBy, head?_insertSorted] at first
    have self : before a a = true := (total a a).elim id id
    cases head : (sortBy before as).head? with
    | none =>
      rw [head] at first
      cases first
      have empty : as = [] := List.eq_nil_iff_forall_not_mem.mpr fun q mem => by
        rw [List.head?_eq_none_iff] at head
        have := mem_sortBy (before := before).mpr mem
        rw [head] at this
        cases this
      refine ⟨[], as, rfl, fun _ => nofun, fun q mem => ?_⟩
      rw [empty, List.mem_singleton] at mem
      rw [mem]
      exact self
    | some c =>
      rw [head] at first
      obtain ⟨front, back, rfl, ahead, least⟩ := ih head
      by_cases earlier : before a c = true
      · simp only [if_pos earlier, Option.some.injEq] at first
        subst first
        refine ⟨[], _, rfl, fun _ => nofun, fun q mem => ?_⟩
        rcases List.mem_cons.mp mem with rfl | mem
        · exact self
        · exact trans _ _ _ earlier (least q mem)
      · simp only [if_neg earlier, Option.some.injEq] at first
        subst first
        refine ⟨a :: front, back, rfl, fun q mem => ?_, fun q mem => ?_⟩
        · rcases List.mem_cons.mp mem with rfl | mem
          · exact Bool.eq_false_iff.mpr earlier
          · exact ahead q mem
        · rcases List.mem_cons.mp mem with rfl | mem
          · exact (total q c).resolve_left earlier
          · exact least q mem

/-! ### Candidates (R160) -/

/-- An entry matches a page. -/
def Fits (s : State) (p : Page) (e : EntryId) : Prop :=
  (s.staff e).role = p.role ∧ (∀ g, p.group = .group g → (s.staff e).group = g) ∧ p.excluded ≠ some e

/-- An entry's current page has a level. -/
def HoldsLevel (s : State) (e : EntryId) (level : Nat) : Prop :=
  ∃ i q, (s.staff e).current = some i ∧ s.page? i = some q ∧ q.level = level

/-- An entry can be preempted by a page. -/
def Yields (s : State) (p : Page) (e : EntryId) : Prop :=
  Fits s p e ∧ (s.staff e).duty = .assigned ∧ (s.staff e).suspended = none ∧ ∃ level, HoldsLevel s e level ∧ level ≤ 2

section
variable {s : State} {p : Page}

theorem entryMatches_iff_fits {e : EntryId} : entryMatches s p e = true ↔ Fits s p e := by
  unfold entryMatches Fits
  cases p.group <;> simp [and_assoc]

theorem holdsLevel_iff {e : EntryId} {level : Nat} : HoldsLevel s e level ↔ heldLevel s e = some level := by
  simp [HoldsLevel, heldLevel, Option.bind_eq_some_iff]

/-- The entries that a page can preempt. -/
def open_ (s : State) (p : Page) : List EntryId := allEntries.filter fun e =>
  entryMatches s p e && (s.staff e).duty == .assigned && (s.staff e).suspended.isNone &&
    (match heldLevel s e with | some l => decide (l ≤ 2) | none => false)

theorem mem_open {e : EntryId} : e ∈ open_ s p ↔ Yields s p e := by
  have low : (match heldLevel s e with | some l => decide (l ≤ 2) | none => false) = true ↔
      ∃ level, HoldsLevel s e level ∧ level ≤ 2 := by
    simp only [holdsLevel_iff]
    cases heldLevel s e <;> simp
  unfold open_ Yields allEntries
  simp only [List.mem_filter, List.mem_finRange, true_and, Bool.and_eq_true, beq_iff_eq, Option.isNone_iff_eq_none, low, entryMatches_iff_fits, and_assoc]

/-- R160: the lowest level first, then the longest assignment. -/
def yieldsBefore (s : State) (a b : EntryId) : Bool :=
  let la := (heldLevel s a).getD 0
  let lb := (heldLevel s b).getD 0
  decide (la < lb) || (la == lb && decide ((s.staff a).since ≤ (s.staff b).since))

theorem yieldsBefore_iff {a b : EntryId} : yieldsBefore s a b = true ↔ (heldLevel s a).getD 0 < (heldLevel s b).getD 0 ∨
    ((heldLevel s a).getD 0 = (heldLevel s b).getD 0 ∧ (s.staff a).since ≤ (s.staff b).since) := by
  simp [yieldsBefore]

theorem preemptionCandidate_eq : preemptionCandidate s p = if p.level ≠ 3 then none else (sortBy (yieldsBefore s) (open_ s p)).head? := rfl

theorem candidate_of_first {front back : List EntryId} {e : EntryId} (list : s.freeList p.role = front ++ e :: back) (fits : Fits s p e)
    (others : ∀ d ∈ front, ¬ Fits s p d) : candidate s p = some e := by
  have found : freeCandidate s p = some e := by
    rw [freeCandidate, list, List.find?_append, List.find?_eq_none.mpr fun d mem => entryMatches_iff_fits.not.mpr (others d mem), Option.none_or,
      List.find?_cons, entryMatches_iff_fits.mpr fits]
  rw [candidate, found]

/-- With no matching entry FREE, a page's candidate is the entry that it preempts. -/
theorem candidate_of_none (unfit : ∀ e ∈ s.freeList p.role, ¬ Fits s p e) : candidate s p = preemptionCandidate s p := by
  have missing : freeCandidate s p = none := List.find?_eq_none.mpr fun e mem => entryMatches_iff_fits.not.mpr (unfit e mem)
  rw [candidate, missing]

theorem preemption_none (h : p.level ≠ 3 ∨ ∀ e, ¬ Yields s p e) : preemptionCandidate s p = none := by
  rw [preemptionCandidate_eq]
  rcases h with low | quiet
  · rw [if_pos low]
  · have empty : open_ s p = [] := List.eq_nil_iff_forall_not_mem.mpr fun e mem => quiet e (mem_open.mp mem)
    rw [empty]
    split <;> rfl

theorem preemption_first (level : p.level = 3) (exists_ : ∃ e, Yields s p e) : ∃ e, preemptionCandidate s p = some e ∧ Yields s p e ∧
    ∀ d a b, Yields s p d → HoldsLevel s e a → HoldsLevel s d b → a < b ∨ (a = b ∧ (s.staff e).since ≤ (s.staff d).since) := by
  obtain ⟨y, yields⟩ := exists_
  rw [preemptionCandidate_eq, if_neg (not_not.mpr level)]
  cases head : (sortBy (yieldsBefore s) (open_ s p)).head? with
  | none =>
    rw [List.head?_eq_none_iff] at head
    have mem := mem_sortBy (before := yieldsBefore s).mpr (mem_open.mpr yields)
    rw [head] at mem
    cases mem
  | some e =>
    refine ⟨e, rfl, mem_open.mp (mem_sortBy.mp (List.mem_of_mem_head? head)), fun d a b other holds holds' => ?_⟩
    obtain ⟨-, -, -, -, least⟩ := head?_sortBy (before := yieldsBefore s) (fun a b => by simp only [yieldsBefore_iff]; omega)
      (fun a b c => by simp only [yieldsBefore_iff]; omega) head
    have before := yieldsBefore_iff.mp (least d (mem_open.mpr other))
    rwa [holdsLevel_iff.mp holds, holdsLevel_iff.mp holds'] at before

end

/-! ### The page offered next (R161) -/

section
variable {s : State}

/-- R161: the highest level first, then the lowest source group. -/
def offeredBefore (a b : Page) : Bool := decide (b.level < a.level) || (a.level == b.level && decide (a.source.val ≤ b.source.val))

theorem offeredBefore_iff {a b : Page} : offeredBefore a b = true ↔ b.level < a.level ∨ (a.level = b.level ∧ a.source.val ≤ b.source.val) := by
  simp [offeredBefore]

/-- The pages that can be offered. -/
def offerable (s : State) : List Page := s.desk.pages.filter fun p => p.state == .queued && (candidate s p).isSome

theorem mem_offerable {p : Page} : p ∈ offerable s ↔ p ∈ s.desk.pages ∧ p.state = .queued ∧ candidate s p ≠ none := by
  simp [offerable, Option.isSome_iff_ne_none]

theorem nextOffer_eq : nextOffer s = (sortBy offeredBefore (offerable s)).head?.bind fun p => (candidate s p).map fun e => (p, e) := rfl

theorem nextOffer_eq_none : nextOffer s = none ↔ ∀ p ∈ s.desk.pages, p.state = .queued → candidate s p = none := by
  rw [nextOffer_eq]
  constructor
  · intro idle p mem queued
    by_contra found
    have there := mem_sortBy (before := offeredBefore).mpr (mem_offerable.mpr ⟨mem, queued, found⟩)
    cases head : (sortBy offeredBefore (offerable s)).head? with
    | none =>
      rw [List.head?_eq_none_iff.mp head] at there
      cases there
    | some q =>
      obtain ⟨-, -, chosen⟩ := mem_offerable.mp (mem_sortBy.mp (List.mem_of_mem_head? head))
      rw [head, Option.bind_some, Option.map_eq_none_iff] at idle
      exact chosen idle
  · intro idle
    have empty : offerable s = [] := List.eq_nil_iff_forall_not_mem.mpr fun p mem => by
      obtain ⟨live, queued, found⟩ := mem_offerable.mp mem
      exact found (idle p live queued)
    rw [empty]
    rfl

/-- The page offered next comes before every other that can be offered, and is the oldest of its level and source group. -/
theorem nextOffer_first {p : Page} {e : EntryId} (next : nextOffer s = some (p, e)) :
    (∃ older younger, s.desk.pages = older ++ p :: younger ∧ ∀ q ∈ older, q.state = .queued → candidate s q ≠ none →
      q.level ≠ p.level ∨ q.source ≠ p.source) ∧
    ∀ q ∈ s.desk.pages, q.state = .queued → candidate s q ≠ none → q.level < p.level ∨ (q.level = p.level ∧ p.source ≤ q.source) := by
  obtain ⟨b, head, paired⟩ := Option.bind_eq_some_iff.mp (nextOffer_eq.symm.trans next)
  obtain ⟨d, -, same⟩ := Option.map_eq_some_iff.mp paired
  cases same
  obtain ⟨front, back, split_, ahead, least⟩ := head?_sortBy (before := offeredBefore)
    (fun a b => by simp only [offeredBefore_iff]; omega) (fun a b c => by simp only [offeredBefore_iff]; omega) head
  constructor
  · obtain ⟨older, rest, pages, front_, rest_⟩ := List.filter_eq_append_iff.mp split_
    obtain ⟨between, younger, rfl, none_, -, -⟩ := List.filter_eq_cons_iff.mp rest_
    refine ⟨older ++ between, younger, by rw [pages, List.append_assoc], fun q mem queued found => ?_⟩
    have test : (q.state == .queued && (candidate s q).isSome) = true := by
      rw [queued, Option.isSome_iff_ne_none.mpr found]
      rfl
    rcases List.mem_append.mp mem with mem | mem
    · have late := ahead q (front_ ▸ List.mem_filter.mpr ⟨mem, test⟩)
      by_contra same
      rw [not_or, not_not, not_not] at same
      rw [offeredBefore_iff.mpr (.inr ⟨same.1, by rw [same.2]⟩)] at late
      cases late
    · exact absurd test (none_ q mem)
  · exact fun q mem queued found => (offeredBefore_iff.mp (least q (mem_offerable.mpr ⟨mem, queued, found⟩))).imp_right
      fun ⟨level, source⟩ => ⟨level.symm, source⟩

end

/-! ### The grants (R161, R162) -/

section
variable {s : State}

theorem linkFree_eq_false (busy : ¬ (s.link.up = true ∧ s.link.outstanding = .none)) : linkFree s = false :=
  Bool.eq_false_iff.mpr ((linkFree_iff s).not.mpr busy)

theorem grantCancel_of_busy (busy : linkFree s = false) : grantCancel s = s := by
  unfold grantCancel
  rw [busy]
  split <;> rfl

theorem grantCancel_of_nil (empty : s.desk.cancels = []) : grantCancel s = s := by
  unfold grantCancel
  rw [empty]

theorem grantReOffer_of_not (h : linkFree s = false ∨ s.desk.cancels ≠ [] ∨ s.desk.reoffers = []) : grantReOffer s = s := by
  unfold grantReOffer
  split
  · next id rest reoffers =>
    rw [if_neg]
    rintro ⟨free, none_⟩
    rcases h with busy | waits | empty
    · rw [busy] at free
      cases free
    · exact waits none_
    · rw [empty] at reoffers
      cases reoffers
  · rfl

theorem grantOffer_of_not (h : linkFree s = false ∨ s.desk.cancels ≠ [] ∨ s.desk.reoffers ≠ [] ∨ nextOffer s = none) :
    grantOffer s = s := by
  unfold grantOffer
  split
  · next now =>
    obtain ⟨free, cancels, reoffers⟩ := now
    rcases h with busy | waits | waits | idle
    · rw [busy] at free
      cases free
    · exact absurd cancels waits
    · exact absurd reoffers waits
    · rw [idle]
  · rfl

variable (free : linkFree s = true)
include free

theorem grantCancel_of_free {r : CancelRequest} {rest : List CancelRequest} (waits : s.desk.cancels = r :: rest) : grantCancel s =
    sendMessage (.cancel r.page r.address) (cancelFrame r.page.val r.address) { s with desk := { s.desk with cancels := rest } } := by
  simp only [grantCancel, waits, free, if_true]

theorem grantReOffer_of_free (cancels : s.desk.cancels = []) {id : PageId} {rest : List PageId} (waits : s.desk.reoffers = id :: rest)
    {p : Page} (live : s.page? id = some p) {e : EntryId} (target : p.target = some e) : grantReOffer s =
    sendPage p (s.staff e).address { s with desk := { s.desk with reoffers := rest } } := by
  have live' : ({ s with desk := { s.desk with reoffers := rest } } : State).page? id = some p := live
  simp only [grantReOffer, waits]
  rw [if_pos ⟨free, cancels⟩]
  simp only [live', target]
  rfl

theorem grantOffer_of_free (cancels : s.desk.cancels = []) (reoffers : s.desk.reoffers = []) {p : Page} {e : EntryId}
    (next : nextOffer s = some (p, e)) : grantOffer s = offerPage p e s := by
  rw [grantOffer, if_pos ⟨free, cancels, reoffers⟩, next]

end

/-! ### The arbiter before a command (R161) -/

/-- What the arbiter does at once. -/
theorem arbiterActs_eq (s : State) : arbiterActs s = .next (granted s) := by
  have acts : arbiterActs s = grantAtOnce s := by
    unfold arbiterActs grantAtOnce grantDue
    by_cases free : linkFree s = true
    · have up := (linkFree_iff s).mp free
      rw [if_neg (by rw [up.1, up.2]; simp), free, if_neg Bool.false_ne_true.symm]
      by_cases cancels : s.desk.cancels = []
      · by_cases reoffers : s.desk.reoffers = []
        · rw [if_neg (not_not.mpr cancels), if_neg (not_not.mpr cancels), if_neg (not_not.mpr reoffers), if_neg (not_not.mpr reoffers)]
          cases nextOffer s <;> rfl
        · rw [if_neg (not_not.mpr cancels), if_neg (not_not.mpr cancels), if_pos reoffers, if_pos reoffers]
      · rw [if_pos cancels, if_pos cancels]
    · have busy := (linkFree_iff s).not.mp free
      rw [if_pos (by rwa [not_and_or, Bool.not_eq_true] at busy), Bool.eq_false_iff.mpr free, if_pos rfl]
  rw [acts, grantAtOnce_eq]

theorem granted_running {s : State} (running : s.running = true) : granted s = arbitrate s := if_pos running

theorem settled_of_sent {s : State} (busy : s.link.outstanding ≠ .none) : Settled s := fun _ none_ => absurd none_ busy

/-- Behind the grant that is due, none is due, where every re-offer stands for a page with a target. -/
theorem settled_arbitrate {s : State} (reoffers : ∀ id ∈ s.desk.reoffers, ∃ p e, s.page? id = some p ∧ p.target = some e) :
    Settled (arbitrate s) := by
  by_cases settled : Settled s
  · rwa [arbitrate_settled settled]
  obtain ⟨up, idle, waits⟩ : s.link.up = true ∧ s.link.outstanding = .none ∧
      ¬ (s.desk.cancels = [] ∧ s.desk.reoffers = [] ∧ nextOffer s = none) := by simpa [Settled] using settled
  have free := (linkFree_iff s).mpr ⟨up, idle⟩
  refine settled_of_sent ?_
  unfold arbitrate grantDue
  rw [free, if_neg Bool.false_ne_true.symm]
  cases cancels : s.desk.cancels with
  | cons r rest =>
    rw [if_pos (List.cons_ne_nil _ _)]
    dsimp only
    rw [grantCancel_of_free free cancels]
    exact nofun
  | nil =>
    rw [if_neg (not_not.mpr rfl)]
    cases waiting : s.desk.reoffers with
    | cons id rest =>
      obtain ⟨p, e, live, target⟩ := reoffers id (by rw [waiting]; exact List.mem_cons_self)
      rw [if_pos (List.cons_ne_nil _ _)]
      dsimp only
      rw [grantReOffer_of_free free cancels waiting live target]
      exact nofun
    | nil =>
      rw [if_neg (not_not.mpr rfl)]
      cases next : nextOffer s with
      | none => exact absurd ⟨cancels, waiting, next⟩ waits
      | some pair =>
        rw [Option.isSome_some, if_pos rfl]
        dsimp only
        rw [grantOffer_of_free free cancels waiting next]
        exact nofun

theorem arbitrate_running (s : State) : (arbitrate s).running = s.running := by
  obtain ⟨d, r, l, same⟩ := arbitrate_touches s
  rw [same]
  rfl

/-- The commands that are grants. -/
theorem grant_of_meaning {i : Instr} {f : State → State} (h : meaning i = .grant f) : i = .cancel ∨ i = .reOffer ∨ i = .offer := by
  cases i <;> cases h <;> simp

/-- Every command but the resets and the grants is taken behind the grant that is due. -/
theorem exec_arbitrate {i : Instr} {s : State} (running : s.running = true) (reset : isReset i = false) (cancel : i ≠ .cancel)
    (reOffer : i ≠ .reOffer) (offer : i ≠ .offer) (settled : Settled (arbitrate s)) : exec i s = exec i (arbitrate s) := by
  have running' := (arbitrate_running s).trans running
  have same := arbitrate_settled settled
  have taken : ∀ p n body, transaction p n body s = transaction p n body (arbitrate s) := fun p n body => by
    unfold transaction
    rw [running, running', same, if_neg Bool.false_ne_true.symm, if_neg Bool.false_ne_true.symm]
  rw [exec_eq_run, exec_eq_run]
  cases meant : meaning i with
  | request t roles body => exact congrArg Host.Outcome.next (taken t.port t.clocked fun s => placeAnswer t.port (judge t roles body s))
  | other p n body => exact congrArg Host.Outcome.next (taken p n body)
  | event f => simp only [Meaning.run, running, running', same, if_true]
  | grant f =>
    exfalso
    rcases grant_of_meaning meant with rfl | rfl | rfl
    · exact cancel rfl
    · exact reOffer rfl
    · exact offer rfl
  | reset f => exact absurd (meaning_reset_iff.mp ⟨f, meant⟩) (by rw [reset]; exact Bool.false_ne_true)

/-! ### An offer (R162) -/

section
variable {s : State} {p : Page} {e : EntryId}

theorem offerPage_shape : offerPage p e s = { s with
    desk := { s.desk with pages := (offerPage p e s).desk.pages }, roster := (offerPage p e s).roster
    link := { s.link with outstanding := .page p.id (s.staff e).address
                          transmitting := pageFrame p.id.val (s.staff e).address p.cause p.object p.level, responseTimer := none } } := by
  unfold offerPage
  dsimp only
  split
  · split <;> rfl
  all_goals rfl

variable (live : s.page? p.id = some p)
include live

/-- A FREE entry that takes an offer. -/
theorem offerPage_free (idle : (s.staff e).duty = .free) :
    (offerPage p e s).page? = update s.page? p.id (some (offered e p)) ∧
    (offerPage p e s).staff = update s.staff e { s.staff e with duty := .paged, current := some p.id } ∧
    (offerPage p e s).freeList (s.staff e).role = (s.freeList (s.staff e).role).filter (· ≠ e) := by
  have view := page?_updatePage p.id (f := offered e) (fun _ => rfl) s
  rw [live, Option.map_some] at view
  rw [offerPage_of_free idle]
  refine ⟨view, staff_setStaff (leaveFree e (updatePage p.id (offered e) s)) e _, ?_⟩
  change (leaveFree e s).roster.free.get (s.staff e).role.index = _
  rw [leaveFree_free, Function.update_self]
  rfl

/-- An ASSIGNED entry that takes an offer before its own page. -/
theorem offerPage_assigned (assigned : (s.staff e).duty = .assigned) {q : PageId} (current : (s.staff e).current = some q)
    (apart : q ≠ p.id) :
    (offerPage p e s).page? p.id = some (offered e p) ∧
    (offerPage p e s).staff = update s.staff e { s.staff e with duty := .paged, current := some p.id, suspended := some q } ∧
    ∀ r ∈ (offerPage p e s).desk.pages, r.id = q → r.state = .suspended := by
  have view := page?_updatePage p.id (f := offered e) (fun _ => rfl) s
  rw [live, Option.map_some] at view
  have view' := page?_updatePage q (f := fun p : Page => { p with state := .suspended }) (fun _ => rfl) (updatePage p.id (offered e) s)
  rw [offerPage_of_assigned assigned current]
  refine ⟨?_, staff_setStaff (updatePage q _ (updatePage p.id (offered e) s)) e _, fun r mem here => ?_⟩
  · refine (congrFun view' p.id).trans ?_
    rw [Function.update_of_ne (Ne.symm apart), view, Function.update_self]
  · obtain ⟨r', -, rfl⟩ := List.mem_map.mp mem
    by_cases own : r'.id = q
    · rw [if_pos own]
    · simp [own] at here

end

/-- Settles O47: the choice of a candidate and of the page offered is the first of a stable sort; behind the grant that is due, a
message is outstanding, so that none is due. -/
theorem arbiterGrantsInOrder : Obligations.ArbiterGrantsInOrder := by
  intro s running
  have cancelRun : exec .cancel s = .next (grantCancel s) := grant_running running
  have reOfferRun : exec .reOffer s = .next (grantReOffer s) := grant_running running
  have offerRun : exec .offer s = .next (grantOffer s) := grant_running running
  intro free sent
  refine ⟨fun p => ⟨fun front e back list => candidate_of_first list, fun unfit => ?_⟩, nextOffer_eq_none,
    fun i u reset cancel reOffer offer waiting acts => ?_, fun busy => ?_, fun empty => ?_, fun turn => ?_, fun turn => ?_,
    fun r rest now waits => ?_, fun id rest p e now cancels waits live target => ?_, fun p e now cancels reoffers next pages staff => ?_⟩
  · rw [candidate_of_none unfit]
    exact ⟨preemption_none, preemption_first⟩
  · rw [arbiterActs_eq, granted_running running] at acts
    cases acts
    have settled := settled_arbitrate waiting
    exact ⟨⟨(arbitrate_running s).trans running, settled⟩, exec_arbitrate running reset cancel reOffer offer settled⟩
  · have busy' := linkFree_eq_false busy
    rw [cancelRun, reOfferRun, offerRun, grantCancel_of_busy busy', grantReOffer_of_not (.inl busy'), grantOffer_of_not (.inl busy')]
    exact ⟨rfl, rfl, rfl⟩
  · rw [cancelRun, grantCancel_of_nil empty]
  · rw [reOfferRun, grantReOffer_of_not (.inr turn)]
  · rw [offerRun, grantOffer_of_not (.inr turn)]
  · rw [cancelRun, grantCancel_of_free ((linkFree_iff s).mpr now) waits]
    rfl
  · rw [reOfferRun, grantReOffer_of_free ((linkFree_iff s).mpr now) cancels waits live target]
    rfl
  · have crew := (staffed_iff s).mp ⟨pages, staff⟩
    obtain ⟨mem, queued, chosen⟩ := nextOffer_spec next
    obtain ⟨oldest, first⟩ := nextOffer_first next
    have live := crew.live mem
    refine ⟨oldest, queued, chosen, first, offerPage p e s, ?_, offerPage_shape, ?_⟩
    · rw [offerRun, grantOffer_of_free ((linkFree_iff s).mpr now) cancels reoffers next]
    · rcases candidate_spec chosen with found | ⟨-, found⟩
      · have idle : (s.staff e).duty = .free := ((crew.crew.listed e _).mp (freeCandidate_spec found).1).2
        obtain ⟨page, staff', list⟩ := offerPage_free live idle
        rw [page, staff', Function.update_self, Function.update_self]
        exact ⟨rfl, fun d apart => Function.update_of_ne apart _ _, fun _ => ⟨rfl, list⟩, fun q assigned => absurd (idle.symm.trans assigned) nofun⟩
      · obtain ⟨-, -, assigned, -, i, r, current, held, -⟩ := preemptionCandidate_spec found
        have apart : i ≠ p.id := fun same => by
          obtain ⟨j, hj, x, hx, state, -⟩ := crew.crew.assigned e id assigned
          cases current.symm.trans hj
          rw [same] at hx
          cases live.symm.trans hx
          rw [state] at queued
          cases queued
        obtain ⟨page, staff', suspended⟩ := offerPage_assigned live assigned current apart
        rw [page, staff', Function.update_self]
        refine ⟨rfl, fun d apart => Function.update_of_ne apart _ _, fun idle => absurd (idle.symm.trans assigned) nofun,
          fun q _ current' => ?_⟩
        cases current.symm.trans current'
        exact ⟨rfl, suspended⟩

end Sys2Proof.Machine
end

section
/-! PROOF. What only one event can do (R48, R76, R77, R108, R176, R183): every command's parts, and of each rule the effects
that could break it. -/

namespace Sys2Proof.Machine

/-! ### The parts of a command -/

/-- The ports keep their roles. -/
def SameRoles (s t : State) : Prop := ∀ p, (t.ports.get p).role = (s.ports.get p).role

theorem SameRoles.refl (s : State) : SameRoles s s := fun _ => rfl
theorem SameRoles.trans {s t u : State} (h : SameRoles s t) (k : SameRoles t u) : SameRoles s u := fun p => (k p).trans (h p)
theorem SameRoles.of_ports {s t : State} (h : t.ports = s.ports) : SameRoles s t := fun p => by rw [h]
theorem SameRoles.of_grown {s t : State} (h : Grown s t) : SameRoles s t := fun p => (h p).role
theorem SameRoles.setPort {p : PortId} {v : Port} {s : State} (h : v.role = (s.ports.get p).role) : SameRoles s (s.setPort p v) := fun q => by
  rw [State.setPort_ports, Table.get_set]
  split
  · next same => rw [same, h]
  · rfl

/-- What comes before and behind a command's effect: a grant, the frame's count, the reply. -/
structure Around (s t : State) : Prop where
  within : Within [.paging, .link, .ports] s t
  roles : SameRoles s t
  up : t.link.up = s.link.up

theorem Around.refl (s : State) : Around s s := ⟨.refl _ s, .refl s, rfl⟩

theorem Around.trans {s t u : State} (h : Around s t) (k : Around t u) : Around s u :=
  ⟨h.within.trans k.within, h.roles.trans k.roles, k.up.trans h.up⟩

theorem around_arbitrate (s : State) : Around s (arbitrate s) := by
  have within := arbitrate_within s
  refine ⟨within.mono (by simp), .of_ports (within.ports (by simp)), ?_⟩
  unfold arbitrate
  split
  · unfold grantCancel
    split
    · split <;> rfl
    · rfl
  · unfold grantReOffer
    split
    · split
      · dsimp only
        split
        · split <;> rfl
        · rfl
      · rfl
    · rfl
  · unfold grantOffer
    split
    · split
      · rw [offerPage_shape]
      · rfl
    · rfl
  · rfl

theorem around_setPort {p : PortId} {v : Port} {s : State} (h : v.role = (s.ports.get p).role) : Around s (s.setPort p v) :=
  ⟨(setPort_within p v s).mono (by simp), .setPort h, rfl⟩

theorem around_openTransaction (p : PortId) (n : Nat) (s : State) : Around s (openTransaction p n s) := by
  have within := openTransaction_within p n s
  refine ⟨within.mono (by simp), fun q => ?_, congrArg Link.up (within.link (by simp))⟩
  exact heard_role { port := p, clocked := n, lengthOk := true } s q

theorem around_placeAnswer (p : PortId) (a : Answer) : Around a.state (placeAnswer p a) := around_setPort rfl

/-- A command is its effect, or none, with what comes before and behind it. -/
theorem run_parts {i : Instr} (s : State) (hi : isReset i = false) : ∃ t u, Around s t ∧ (u = t ∨ u = effect i t) ∧
    Around u ((meaning i).run s) := by
  have all : ∀ {t u}, Around s t → u = t ∨ u = effect i t → Around u ((meaning i).run s) → _ := fun {t u} a b c =>
    (⟨t, u, a, b, c⟩ : ∃ t u, Around s t ∧ (u = t ∨ u = effect i t) ∧ Around u ((meaning i).run s))
  cases e : meaning i with
  | request t roles body =>
    have done : ∀ v, effect i v = (body v).state := fun v => by rw [effect, e]; rfl
    simp only [done, Meaning.run]
    refine transaction_cases (motive := fun w => ∃ t u, Around s t ∧ (u = t ∨ u = (body t).state) ∧ Around u w)
      (fun _ => ⟨s, s, .refl s, .inl rfl, .refl s⟩)
      ⟨_, _, around_arbitrate s, .inl rfl, around_setPort rfl⟩ ?_
    have heard := (around_arbitrate s).trans (around_openTransaction t.port t.clocked _)
    refine judge_cases (motive := fun a => ∃ t' u, Around s t' ∧ (u = t' ∨ u = (body t').state) ∧ Around u (placeAnswer t.port a))
      (fun why => ⟨_, _, heard, .inl rfl, around_placeAnswer t.port (refuse why _)⟩) ⟨_, _, heard, .inr rfl, around_placeAnswer _ _⟩
  | other p n body =>
    refine transaction_cases (motive := fun w => ∃ t u, Around s t ∧ (u = t ∨ u = effect i t) ∧ Around u w)
      (fun _ => ⟨s, s, .refl s, .inl rfl, .refl s⟩)
      ⟨_, _, around_arbitrate s, .inl rfl, around_setPort rfl⟩ ?_
    have heard := (around_arbitrate s).trans (around_openTransaction p n _)
    rcases meaning_other_cases e (openTransaction p n (arbitrate s)) with same | ⟨why, refused⟩
    · rw [same]
      exact ⟨_, _, heard, .inl rfl, .refl _⟩
    · rw [refused]
      exact ⟨_, _, heard, .inl rfl, around_placeAnswer p (refuse why _)⟩
  | event f =>
    have done : ∀ v, effect i v = f v := fun v => by rw [effect, e]; rfl
    simp only [Meaning.run, done]
    split
    · exact ⟨_, _, around_arbitrate s, .inr rfl, .refl _⟩
    · exact ⟨_, _, .refl s, .inl rfl, .refl _⟩
  | grant f =>
    have done : ∀ v, effect i v = f v := fun v => by rw [effect, e]; rfl
    simp only [Meaning.run, done]
    split
    · exact ⟨_, _, .refl s, .inr rfl, .refl _⟩
    · exact ⟨_, _, .refl s, .inl rfl, .refl _⟩
  | reset f => cases hi.symm.trans (meaning_reset_iff.mp ⟨f, e⟩)

/-! ### Roles (R183) -/

theorem effect_roles {i : Instr} (s : State) (hi : isReset i = false) : SameRoles s (effect i s) := by
  by_cases notice : ∃ t, i = .readNotice t
  · obtain ⟨t, rfl⟩ := notice
    change SameRoles s (readNotice t.port s).state
    unfold readNotice
    dsimp only
    split
    · exact .refl s
    · exact .setPort rfl
  by_cases set : ∃ t v, i = .superviseSet t v
  · obtain ⟨t, v, rfl⟩ := set
    change SameRoles s (superviseSet t.port v s).state
    unfold superviseSet
    first | exact SameRoles.setPort rfl | (split <;> first | exact SameRoles.refl s | exact SameRoles.setPort rfl)
  exact .of_grown (effect_grown s hi (fun t same => notice ⟨t, same⟩) fun t v same => set ⟨t, v, same⟩)

/-! ### CLEAN (R108) -/

/-- No kind has more CLEAN plates than before. -/
def NoMoreClean (s t : State) : Prop := ∀ k, (t.wares.get k).clean ≤ (s.wares.get k).clean

theorem NoMoreClean.of_wares {s t : State} (h : t.wares = s.wares) : NoMoreClean s t := fun k => by rw [h]

theorem NoMoreClean.trans {s t u : State} (h : NoMoreClean s t) (k : NoMoreClean t u) : NoMoreClean s u := fun w => (k w).trans (h w)

theorem NoMoreClean.setWare {k : WareId} {v : Ware} {s : State} (h : v.clean ≤ (s.wares.get k).clean) : NoMoreClean s (s.setWare k v) :=
  fun w => by
    rw [State.setWare_wares, Table.get_set]
    split
    · next same => rw [same]; exact h
    · rfl

/-- The wares are the same. -/
def SameWares (s t : State) : Prop := t.wares = s.wares

theorem SameWares.clean {s t : State} (h : SameWares s t) : NoMoreClean s t := .of_wares h

theorem SameWares.after_setWare {k : WareId} {v : Ware} {s t : State} (h : SameWares (s.setWare k v) t)
    (less : v.clean ≤ (s.wares.get k).clean) : NoMoreClean s t := (NoMoreClean.setWare less).trans h.clean

theorem setCabinet_wares (z : ZoneId) (c : Cabinet) (s : State) : SameWares s (s.setCabinet z c) :=
  (setCabinet_within z c s).wares (by simp)

theorem sameWares_ops : ServiceOps SameWares where
  refl _ := rfl
  trans h k := k.trans h
  post _ _ _ _ := rfl
  raise c g o s := (raise_touches c g o s).within.wares (by simp)
  clear c o s := (clearEvent_touches c o s).within.wares (by simp)
  opened _ _ _ _ _ := rfl
  closed _ _ := rfl
  woken _ _ := rfl
  refresh z s := (refreshStandby_stock z s).wares
  wake z s _ := (moveZone_stock z .preheat s).wares
  reserve z c n s _ := setCabinet_wares z _ s
  courses h := by obtain ⟨c, rfl⟩ := h.shape; rfl

theorem leaving_wares (z : ZoneId) (st : ZoneState) (s : State) : SameWares s (leaving z st s) := by
  have cut := (cutLoads_cut (zoneLoads (zeroMinimums z (moveZone z st s)) z) (zeroMinimums z (moveZone z st s))).placement.within
  exact (cut.wares (by simp)).trans (((zeroMinimums_within z _).wares (by simp)).trans (moveZone_stock z st s).wares)

theorem sameWares_served : ServedOps SameWares where
  toStockOps := sameWares_ops.toStockOps
  rerunCourses := sameWares_ops.rerunCourses
  releaseCabinet := sameWares_ops.releaseCabinet
  move z st r s _ _ _ _ := (moveZone_stock z st s).wares
  leave z st _ s _ _ _ := leaving_wares z st s
  edit _ _ _ _ _ _ := rfl
  define n kind channel loads group p v s _ _ := (rebind_within n loads _).wares (by simp)
  scan _ _ := rfl
  lower c v s := (lowerMinimums_within c v s).wares (by simp)
  port _ _ _ := rfl

theorem condemn_clean (r : Rack) (s : State) : NoMoreClean s (condemn r s) :=
  SameWares.after_setWare (sameWares_ops.raise _ _ _ _) le_rfl

theorem lineFault_wares (f : LineFault) (s : State) : SameWares s (lineFault f s) := rfl

/-- A plate that a course draws. -/
theorem drawPlate_clean (z : ZoneId) (s : State) : NoMoreClean s (drawPlate z s) := by
  unfold drawPlate
  split
  · next c _ =>
    dsimp only
    have drawn := setCabinet_wares z { c with stock := c.stock - 1, reserved := c.reserved - 1 } s
    have told : ∀ u, SameWares u (testRestock z (report z false u)) := fun u =>
      sameWares_ops.trans (sameWares_ops.report z false u) (sameWares_ops.testRestock z _)
    split
    · exact drawn.clean.trans ((told _).after_setWare le_rfl)
    · exact drawn.clean.trans (told _).clean
  · exact .of_wares rfl

theorem platePlates_clean (c : CourseId) (n : Nat) (s : State) : NoMoreClean s (platePlates c n s) := by
  induction n generalizing s with
  | zero => exact .of_wares rfl
  | succ n ih =>
    refine NoMoreClean.trans ?_ (ih (plateOne c s))
    unfold plateOne
    split
    · next e _ =>
      have taken := sameWares_ops.changeCourse (f := fun r => { r with entries := takeFromHead r.entries }) fun r live => .drawn c r live (s := s)
      exact (SameWares.clean taken).trans (drawPlate_clean e.1 _)
    · exact .of_wares rfl

theorem closeCourse_wares (c : CourseId) (r : Course) (s : State) : SameWares s (closeCourse c r s) := by
  have k := sameWares_ops
  unfold closeCourse
  dsimp only
  refine k.trans (k.trans (k.trans ?_ (k.freeCourse _ _)) (k.post _ _ _ _))
    (k.fold _ (fun s z => k.trans (k.rerunCourses z s) (k.testRestock z _)) _ _)
  have released := k.fold (fun s (e : ZoneId × Nat) => releasePlates e.1 e.2 s) (fun s e => k.releasePlates e.1 e.2 s) r.entries s
  split
  · exact k.trans released (k.clear _ _ _)
  · exact released

/-- The effects by which CLEAN of a kind can rise. -/
def Gives (s : State) (k : WareId) (i : Instr) : Prop :=
  (∃ t n, i = .wareDefine t k.val n) ∨ (∃ t z n, i = .wareAdjust t k.val 1 z n ∧ 0 < n) ∨
    (i = .rackOut ∧ ∃ r rest, s.line.racks = r :: rest ∧ r.kind = k ∧ r.stage = .done ∧ r.verdict = .clean)

theorem setWare_other {k w : WareId} {v : Ware} {s : State} (apart : w ≠ k) : ((s.setWare k v).wares.get w) = s.wares.get w := by
  rw [State.setWare_wares, Table.get_set, if_neg apart]

theorem location?_clean {code zone : Nat} (h : location? code zone = some .clean) : code = 1 := by
  unfold location? at h
  split at h
  · cases h
  · rfl
  · cases h
  · obtain ⟨z, -, same⟩ := Option.map_eq_some_iff.mp h
    cases same
  · cases h

section
variable {s : State} {w : WareId}

theorem unloadRack_clean (h : (s.wares.get w).clean < ((unloadRack s).wares.get w).clean) :
    ∃ r rest, s.line.racks = r :: rest ∧ r.kind = w ∧ r.stage = .done ∧ r.verdict = .clean := by
  unfold unloadRack at h
  split at h
  · exact absurd h (lt_irrefl _)
  · next r rest racks =>
    have condemned := condemn_clean r (dropHead s) w
    have faulted := condemn_clean r (lineFault (.outEarly r.tag) (dropHead s)) w
    have same : (dropHead s).wares = s.wares := rfl
    have same' : (lineFault (.outEarly r.tag) (dropHead s)).wares = s.wares := rfl
    rw [same] at condemned
    rw [same'] at faulted
    refine ⟨r, rest, racks, ?_⟩
    dsimp only at h
    split at h
    · omega
    · omega
    · next stage =>
      split at h
      · next verdict =>
        rw [(sameWares_ops.wakeTasks _ _ : SameWares _ _)] at h
        by_cases own : w = r.kind
        · exact ⟨own.symm, stage, verdict⟩
        · rw [setWare_other own, same] at h
          exact absurd h (lt_irrefl _)
      · omega
      · omega

theorem purchase_clean {k : WareId} {n : Nat} {l : Location} (h : (s.wares.get w).clean < ((purchase k n s l).wares.get w).clean) :
    l = .clean ∧ w = k := by
  cases l with
  | soiled =>
    have kept : NoMoreClean s (purchase k n s .soiled) := .setWare le_rfl
    exact absurd h (kept w).not_gt
  | clean =>
    have woken : SameWares _ (purchase k n s .clean) := sameWares_ops.wakeTasks k _
    rw [woken] at h
    refine ⟨rfl, ?_⟩
    by_contra own
    rw [setWare_other own] at h
    exact lt_irrefl _ h
  | out => exact absurd h (lt_irrefl _)
  | cabinet z => exact absurd h (lt_irrefl _)

theorem removal_clean (k : WareId) (n : Nat) (s : State) (l : Location) : NoMoreClean s (removal k n s l) := by
  cases l with
  | soiled => exact .setWare le_rfl
  | clean => exact .setWare (Nat.sub_le _ _)
  | out => exact .setWare le_rfl
  | cabinet z =>
    unfold removal
    dsimp only
    split
    · refine SameWares.after_setWare (k := k) (v := { s.wares.get k with total := (s.wares.get k).total - n }) ?_ le_rfl
      exact sameWares_ops.trans (sameWares_ops.trans (setCabinet_wares z _ _) (sameWares_ops.report z false _)) (sameWares_ops.testRestock z _)
    · exact .of_wares rfl

theorem confirmRestock_clean (z : ZoneId) (k : WareId) (c : Cabinet) (m : Nat) (s : State) : NoMoreClean s (confirmRestock z k c m s) := by
  have ops := sameWares_ops
  refine SameWares.after_setWare (k := k) (v := { s.wares.get k with clean := (s.wares.get k).clean - m }) ?_ (Nat.sub_le _ _)
  exact ops.trans (ops.trans (ops.trans (ops.trans (setCabinet_wares z _ _) (ops.closeTask _ _ _)) (ops.report _ _ _))
    (ops.rerunCourses _ _)) (ops.testRestock _ _)

end

/-- CLEAN rises by no other effect. -/
theorem effect_clean {i : Instr} {s : State} (hi : isReset i = false) {w : WareId}
    (more : (s.wares.get w).clean < ((effect i s).wares.get w).clean) : Gives s w i := by
  have settled : NoMoreClean s (effect i s) → Gives s w i := fun h => absurd more (h w).not_gt
  by_cases wares : Block.wares ∈ writes i
  swap
  · exact settled (.of_wares ((effect_within hi s).wares wares))
  by_cases served : Block.zones ∈ writes i ∧ movesPlates i = false
  · have timeless : Block.time ∉ writes i := fun time => by
      cases i <;> first
        | exact not_writes (List.mem_singleton_self _) wares rfl
        | exact not_writes (List.mem_singleton_self _) time rfl
    refine settled (SameWares.clean (sameWares_served.effect i s served.1 timeless (fun t zone _ z r _ _ _ => ?_) fun plates => ?_))
    · exact leaving_wares z .off s
    · cases served.2.symm.trans plates
  have left : ∀ why, NoMoreClean s (refuse why s).state := fun _ => .of_wares rfl
  cases i
  case wareDefine t kind stock =>
    revert more
    refine wareDefine_cases (motive := fun a => (s.wares.get w).clean < (a.state.wares.get w).clean → Gives s w (.wareDefine t kind stock))
      (fun _ more => absurd more (lt_irrefl _)) fun k same _ _ more => ?_
    by_cases own : w = k
    · rw [own, same]
      exact .inl ⟨t, stock, rfl⟩
    · rw [accept_state, setWare_other own] at more
      exact absurd more (lt_irrefl _)
  case wareAdjust t kind code zone amount =>
    revert more
    refine wareAdjust_cases
      (motive := fun a => (s.wares.get w).clean < (a.state.wares.get w).clean → Gives s w (.wareAdjust t kind code zone amount))
      (fun _ more => absurd more (lt_irrefl _)) (fun more => absurd more (lt_irrefl _)) (fun k l same place positive _ _ more => ?_)
      fun k l x _ _ _ _ _ more => ?_
    · obtain ⟨rfl, rfl⟩ := purchase_clean more
      rw [same, location?_clean place]
      exact .inr (.inl ⟨t, zone, amount, rfl, positive⟩)
    · rw [acceptClamped_state] at more
      exact absurd more (removal_clean k _ s l w).not_gt
  case rackOut =>
    rw [effect_event (f := rackOut) rfl] at more
    obtain ⟨r, rest, racks, facts⟩ := unloadRack_clean (s := seeTransition .rackOut s) more
    exact .inr (.inr ⟨rfl, r, rest, racks, facts⟩)
  case restockConfirm =>
    exact settled (restockConfirm_cases (motive := fun a => NoMoreClean s a.state) left fun z c k x _ _ => by
      dsimp only
      rw [acceptClamped_state]
      exact confirmRestock_clean z k c _ s)
  case courseFire =>
    exact settled (courseFire_cases (motive := fun a => NoMoreClean s a.state) left fun k g cs c listed _ _ =>
      SameWares.clean (sameWares_ops.trans (sameWares_ops.courses (.seated c _ rfl (length_of_cabinetList? listed)))
        (sameWares_ops.runPass c none true _)))
  case coursePlated =>
    refine settled (coursePlated_cases (motive := fun a => NoMoreClean s a.state) left fun c r x _ => ?_)
    have plated := fun n (m : Nat) => (platePlates_clean c n s).trans (SameWares.clean
      (sameWares_ops.changeCourse (f := fun q => { q with plated := m }) fun q live => .plated c q m live))
    dsimp only
    rw [acceptClamped_state]
    split
    · exact (plated _ _).trans (SameWares.clean (sameWares_ops.trans (sameWares_ops.post _ _ _ _) (sameWares_ops.freeCourse _ _)))
    · exact plated _ _
  case courseClose =>
    exact settled (courseClose_cases (motive := fun a => NoMoreClean s a.state) left fun c r _ => (closeCourse_wares c r s).clean)
  case rackLoad =>
    refine settled (rackLoad_cases (motive := fun a => NoMoreClean s a.state) left fun k x _ _ _ _ _ => ?_)
    dsimp only
    rw [acceptClamped_state]
    exact SameWares.after_setWare (k := k) (v := { s.wares.get k with soiled := (s.wares.get k).soiled - min _ _ }) rfl le_rfl
  case wareReturn =>
    refine settled (wareReturn_cases (motive := fun a => NoMoreClean s a.state) left fun k x _ => ?_)
    dsimp only
    rw [acceptClamped_state]
    exact .setWare le_rfl
  case linePurge =>
    have purged : NoMoreClean s (s.line.racks.foldl (fun s r => condemn r (dropHead s)) s) :=
      foldl_related (R := NoMoreClean) (fun _ => .of_wares rfl) NoMoreClean.trans (fun s r => condemn r (dropHead s))
        (fun s r => condemn_clean r (dropHead s)) s.line.racks s
    exact settled purged
  all_goals first
    | exact (not_writes (List.mem_singleton_self _) wares rfl).elim
    | exact absurd ⟨List.elem_iff.mp rfl, rfl⟩ served

/-! ### FAULT (R76, R77) -/

/-- What keeps a zone in FAULT. -/
def KeepsFault (a b : Zone) : Prop := a.state = .fault → b.state = .fault

theorem keepsFault_ops : RecordOps KeepsFault fun _ => True where
  refl _ := id
  trans h k := k ∘ h
  started _ _ := trivial
  enter _ _ other fault := absurd fault other
  edit h fault := h.state.trans fault
  standby _ _ := id
  cabinet _ _ _ := id
  defined _ _ _ _ _ _ _ := trivial
  again _ _ _ _ _ _ _ _ off fault := absurd (off.symm.trans fault) nofun

/-- A zone in FAULT stays there. -/
def StaysFaulty (z : ZoneId) (s t : State) : Prop :=
  ∀ r, s.zones.get z = some r → r.state = .fault → ∃ v, t.zones.get z = some v ∧ v.state = .fault

theorem StaysFaulty.of_related {z : ZoneId} {s t : State} (h : ZonesRelated KeepsFault (fun _ => True) s t) : StaysFaulty z s t :=
  fun r zone fault => by
    have related := h z
    rw [zone] at related
    cases after : t.zones.get z with
    | none => rw [after] at related; exact related.elim
    | some v => rw [after] at related; exact ⟨v, rfl, related fault⟩

theorem StaysFaulty.of_zones {z : ZoneId} {s t : State} (h : t.zones = s.zones) : StaysFaulty z s t := fun r zone fault =>
  ⟨r, by rw [h]; exact zone, fault⟩

theorem StaysFaulty.trans {z : ZoneId} {s t u : State} (h : StaysFaulty z s t) (k : StaysFaulty z t u) : StaysFaulty z s u :=
  fun r zone fault => by
    obtain ⟨v, there, faulty⟩ := h r zone fault
    exact k v there faulty

theorem frameBoundary_faulty (z : ZoneId) (s : State) : StaysFaulty z s (frameBoundary s) := fun r zone fault =>
  ⟨{ r with duty := r.dutyRequest (zoneReading s r) }, by rw [frameBoundary_zone, zone]; rfl, fault⟩

/-- The rest of an entry into OFF is no other entry. -/
theorem enterOff_related (z : ZoneId) {f : State → State} (hf : ∀ s, ZonesRelated KeepsFault (fun _ => True) s (f s)) (s : State) :
    ZonesRelated KeepsFault (fun _ => True) (leaving z .off s) (enterOff z f s) := by
  have k := keepsFault_ops.zoneOps.served
  exact k.trans (k.trans (k.trans (k.trans (k.endProgramOff z _) (k.releaseCabinet z _)) (k.closeTask z .withdrawn _)) (hf _))
    (k.postZoneState z .off _)

theorem leaving_other {z y : ZoneId} (apart : z ≠ y) (st : ZoneState) (s : State) : StaysFaulty z s (leaving y st s) := by
  intro r zone fault
  refine ⟨r, ?_, fault⟩
  rw [leaving_zones, State.changeZone]
  split
  · rw [State.setZone_zones, Table.get_set, if_neg apart]
    exact zone
  · exact zone

/-- A zone leaves FAULT by no effect but ZONE_CLEAR's. -/
theorem effect_faulty {i : Instr} (s : State) (hi : isReset i = false) (z : ZoneId) : StaysFaulty z s (effect i s) ∨
    ∃ t r, i = .zoneClear t z.val ∧ s.zones.get z = some r ∧ r.cleanCount = 3 := by
  by_cases zones : Block.zones ∈ writes i
  swap
  · exact .inl (.of_zones ((effect_within hi s).zones zones))
  by_cases sliced : Block.time ∈ writes i
  · cases i
    case sliceAdvance =>
      rw [effect_event (f := sliceAdvance) rfl, sliceAdvance]
      split
      · exact .inl (.of_zones rfl)
      · exact .inl (frameBoundary_faulty z s)
    case frameBoundary => rw [effect_event (f := frameBoundary) rfl]; exact .inl (frameBoundary_faulty z s)
    all_goals first
      | exact (not_writes (List.mem_singleton_self _) zones rfl).elim
      | exact (not_writes (List.mem_singleton_self _) sliced rfl).elim
  by_cases clear : ∃ t zone, i = .zoneClear t zone
  · obtain ⟨t, zone, rfl⟩ := clear
    change StaysFaulty z s (zoneClear t.port zone s).state ∨ _
    refine zoneClear_cases (motive := fun a => StaysFaulty z s a.state ∨ ∃ t' r, Instr.zoneClear t zone = .zoneClear t' z.val ∧
      s.zones.get z = some r ∧ r.cleanCount = 3) (fun _ => .inl (.of_zones rfl)) fun y r there same _ clean => ?_
    by_cases own : z = y
    · subst own
      exact .inr ⟨t, r, by rw [same], there, clean⟩
    · have cleared : ∀ u, ZonesRelated KeepsFault (fun _ => True) u (clearEvent r.faultCause.raised y.val u) := fun u =>
        keepsFault_ops.of_zones ((clearEvent_touches _ _ u).within.zones (by simp))
      have entered := StaysFaulty.of_related (z := z) (enterOff_related y cleared s)
      rw [accept_state]
      exact .inl ((leaving_other own .off s).trans entered)
  · exact .inl (.of_related (keepsFault_ops.zoneOps.effect i s zones sliced fun t zone same => absurd ⟨t, zone, same⟩ clear))

/-! ### The feed (R48) -/

/-- NORMAL is reached from STAGE2 alone, and SAG is left to RESTORE_WAIT alone. -/
def FeedMoved (s t : State) : Prop := (t.feed.state = .normal → s.feed.state = .normal ∨ s.feed.state = .stage2) ∧
  (s.feed.state = .sag → t.feed.state = .sag ∨ t.feed.state = .restoreWait)

theorem FeedMoved.of_state {s t : State} (h : t.feed.state = s.feed.state) : FeedMoved s t :=
  ⟨fun normal => .inl (h.symm.trans normal), fun sag => .inl (h.trans sag)⟩

theorem enterFeedState_state (st : FeedState) {f : State → State} (hf : ∀ s, (f s).feed = s.feed) (s : State) :
    (enterFeedState st f s).feed.state = st := by
  unfold enterFeedState
  change (f _).feed.state = st
  rw [hf, (testPermit_within _).feed (by simp)]

theorem stagedMove_moved (s : State) : FeedMoved s (stagedMove s) := by
  unfold stagedMove
  split
  · next waits =>
    split
    · have state := enterFeedState_state .stage1 (f := id) (fun _ => rfl) { s with feed := { s.feed with restoreDue := false } }
      exact ⟨fun normal => absurd (state.symm.trans normal) nofun, fun sag => absurd (waits.symm.trans sag) nofun⟩
    · exact .of_state rfl
  · next stage =>
    have state := enterFeedState_state .stage2 (f := id) (fun _ => rfl) s
    exact ⟨fun normal => absurd (state.symm.trans normal) nofun, fun sag => absurd (stage.symm.trans sag) nofun⟩
  · next stage => exact ⟨fun _ => .inr stage, fun sag => absurd (stage.symm.trans sag) nofun⟩
  · exact .of_state rfl
  · exact .of_state rfl

theorem frameBoundary_moved (s : State) : FeedMoved s (frameBoundary s) := by
  have moved : FeedMoved s (boundaryMoved s) := stagedMove_moved { s with time := newFrameTime s.time }
  have feed : (frameBoundary s).feed = (boundaryMoved s).feed := by
    rw [frameBoundary_eq, postClippeds_eq, buildFrame_eq]
    rfl
  unfold FeedMoved
  rw [feed]
  exact moved

theorem enterSag_feedState (s : State) : (enterSag s).feed.state = .sag := by
  have feed : (enterSag s).feed = s.feed.sagged := (enterSag_state s).within.feed (by simp)
  rw [feed]
  rfl

theorem enterSag_moved {s : State} (other : s.feed.state ≠ .sag) (u : State) : FeedMoved s (enterSag u) := by
  unfold FeedMoved
  rw [enterSag_feedState]
  exact ⟨nofun, fun sag => absurd sag other⟩

theorem testFeed_moved (s : State) : FeedMoved s (testFeed s) := by
  unfold testFeed
  split
  · next sag =>
    have kept : ∀ {t : State}, t.feed.state = .sag ∨ t.feed.state = .restoreWait → FeedMoved s t := fun h =>
      ⟨fun normal => by rw [normal] at h; simp at h, fun _ => h⟩
    split
    · dsimp only
      split
      · exact kept (.inr (enterFeedState_state .restoreWait (f := id) (fun _ => rfl) _))
      · exact kept (.inl sag)
    · exact kept (.inl sag)
  · next other =>
    split
    · dsimp only
      split
      · exact enterSag_moved other _
      · exact .of_state rfl
    · exact .of_state rfl

theorem effect_feed {i : Instr} (s : State) (hi : isReset i = false) : FeedMoved s (effect i s) := by
  by_cases feed : Block.feed ∈ writes i
  swap
  · exact .of_state (congrArg Feed.state ((effect_within hi s).feed feed))
  cases i
  case feedConfig a b c d =>
    change FeedMoved s (feedConfig a b c d s).state
    unfold feedConfig
    split <;> exact .of_state rfl
  case waitTimerExpiry =>
    change FeedMoved s (waitExpiry s)
    unfold waitExpiry
    split <;> exact .of_state rfl
  case sliceAdvance =>
    rw [effect_event (f := sliceAdvance) rfl, sliceAdvance]
    split
    · exact .of_state rfl
    · exact frameBoundary_moved s
  case frameBoundary => rw [effect_event (f := frameBoundary) rfl]; exact frameBoundary_moved s
  case feedConversion code => exact testFeed_moved { s with feed := { s.feed with code := code, reading := feedPercent code } }
  all_goals exact (not_writes (List.mem_singleton_self _) feed rfl).elim

/-! ### The link (R176) -/

/-- No effect but ALIVE's brings the link UP. -/
theorem effect_up {i : Instr} (s : State) (hi : isReset i = false) (other : i ≠ .alive) (down : s.link.up = false) :
    (effect i s).link.up = false := by
  by_cases link : Block.link ∈ writes i
  swap
  · rw [(effect_within hi s).link link, down]
  have busy : linkFree s = false := linkFree_eq_false fun free => absurd (down.symm.trans free.1) nofun
  cases i
  case alive => exact absurd rfl other
  case cancel => exact (congrArg (·.link.up) (grantCancel_of_busy busy)).trans down
  case reOffer => exact (congrArg (·.link.up) (grantReOffer_of_not (.inl busy))).trans down
  case offer => exact (congrArg (·.link.up) (grantOffer_of_not (.inl busy))).trans down
  case transmitComplete =>
    rw [effect_event (f := transmitComplete) rfl, transmitComplete]
    split <;> exact down
  case garbledMessage => exact down
  case receiveGap =>
    rw [effect_event (f := receiveGap) rfl, receiveGap]
    split <;> exact down
  case probeTimerExpiry =>
    rw [effect_event (f := probeExpiry) rfl, probeExpiry]
    split <;> exact down
  case sent id =>
    rw [effect_event (f := sentMessage id) rfl, sentMessage]
    split
    · split
      · dsimp only
        split <;> exact down
      · exact down
    · split <;> exact down
    all_goals exact down
  case unreachable id =>
    rw [effect_event (f := unreachableMessage id) rfl, unreachableMessage]
    split
    · split
      · dsimp only
        split
        · rw [(ackExpiry_touches _ _).within.link (by simp)]
          exact down
        · exact down
      · exact down
    all_goals exact down
  case ack id a x =>
    rw [effect_event (f := ackMessage id a x) rfl, ackMessage]
    split
    · split
      · split
        · rw [(takeAnswer_touches _ _ _ _).within.link (by simp)]
          exact down
        · exact down
      · exact down
    · exact down
  case responseTimerExpiry =>
    rw [effect_event (f := responseExpiry) rfl, responseExpiry]
    split
    · exact down
    · dsimp only
      rw [if_neg (by rw [down]; exact Bool.false_ne_true)]
      exact down
  all_goals exact (not_writes (List.mem_singleton_self _) link rfl).elim

/-! ### All of them -/

/-- Settles O54: a command is its effect with what comes before and behind it, which keeps all six. -/
theorem whatOnlyOneEventCanDo : Obligations.WhatOnlyOneEventCanDo := by
  intro i s w taken running hi
  rw [exec_eq_run] at taken
  obtain ⟨t, u, before, done, behind⟩ := run_parts s hi
  cases taken
  generalize (meaning i).run s = w at behind
  have zones : t.zones = s.zones := before.within.zones (by simp)
  have wares : t.wares = s.wares := before.within.wares (by simp)
  have racks : t.line.racks = s.line.racks := before.within.racks (by simp)
  have feed : t.feed = s.feed := before.within.feed (by simp)
  have zones' : w.zones = u.zones := behind.within.zones (by simp)
  have wares' : w.wares = u.wares := behind.within.wares (by simp)
  have feed' : w.feed = u.feed := behind.within.feed (by simp)
  have chip : u.chip = t.chip := done.elim (congrArg _) fun same => same ▸ (effect_within hi t).chip
  have roles : SameRoles t u := done.elim (fun same => same ▸ .refl t) fun same => same ▸ effect_roles t hi
  have moved : FeedMoved t u := done.elim (fun same => same ▸ .of_state rfl) fun same => same ▸ effect_feed t hi
  refine ⟨⟨behind.within.chip.trans (chip.trans before.within.chip), (before.roles.trans roles).trans behind.roles⟩,
    fun k more => ?_, fun z r zone fault left => ?_, ?_, ?_, fun down up => ?_⟩
  · rw [wares', ← wares] at more
    rcases done with rfl | rfl
    · exact absurd more (lt_irrefl _)
    · have gives := effect_clean hi more
      unfold Gives at gives
      rwa [racks] at gives
  · rw [zones'] at left
    rw [← zones] at zone
    have faulty : ¬ StaysFaulty z t u := fun stays => by
      obtain ⟨v, there, faulty⟩ := stays r zone fault
      exact left v there faulty
    rcases done with rfl | rfl
    · exact absurd (.of_zones rfl) faulty
    · obtain ⟨t', q, same, there, clean⟩ := (effect_faulty t hi z).resolve_left faulty
      cases zone.symm.trans there
      exact ⟨⟨t', same⟩, clean⟩
  · rw [feed', ← feed]
    exact moved.1
  · rw [feed', ← feed]
    exact moved.2
  · by_contra other
    have down' : t.link.up = false := before.up.trans down
    rw [behind.up] at up
    rcases done with rfl | rfl
    · cases down'.symm.trans up
    · cases (effect_up t hi other down').symm.trans up

end Sys2Proof.Machine
end

section
/-! PROOF. The part on an empty queue: the grant that is due, the end of a transmission, or a tick, and what a tick takes in turn
(R97, R98, R161, R170). -/

namespace Sys2Proof.Machine

/-! ### Commands that leave the line's settings and the scan -/

/-- A block that a command's effect does not write, beyond what comes before and behind it, is the same after the command. -/
theorem run_same {i : Instr} (s : State) (hi : isReset i = false) {b : Block} (apart : b ∉ [Block.paging, .link, .ports])
    (unwritten : b ∉ writes i) : SameBlock s ((meaning i).run s) b := by
  obtain ⟨t, u, before, done, behind⟩ := run_parts s hi
  have effected : SameBlock t u b := done.elim (fun same => same ▸ .refl t b) fun same => same ▸ (effect_within hi t).same b unwritten
  exact ((before.within.same b apart).trans effected).trans (behind.within.same b apart)

theorem granted_same (s : State) {b : Block} (apart : b ∉ [Block.paging, .link, .ports]) : SameBlock s (granted s) b := by
  unfold granted
  split
  · exact (around_arbitrate s).within.same b apart
  · exact .refl s b

theorem granted_pins (s : State) : (granted s).pins = s.pins := by
  unfold granted
  split
  · exact (around_arbitrate s).within.pins
  · rfl

/-! ### What a tick counts -/

theorem link_tick_eq (l : Link) : l.tick.firstProbed =
    let counted := { l with
      responseTimer := l.responseTimer.map (· - 1), probeTimer := l.probeTimer.map (· - 1)
      rxGap := if l.received = [] then l.rxGap else l.rxGap + 1, probeDue := false }
    if l.probeDue = true ∧ l.up = false then
      { counted with outstanding := .probe, transmitting := probeFrame, responseTimer := none, probeTimer := some 1000 }
    else counted := by
  unfold Link.firstProbed
  have due : l.tick.probeDue = l.probeDue := rfl
  have up : l.tick.up = l.up := rfl
  rw [due, up]
  cases known : l.probeDue <;> cases state : l.up <;> simp [Link.tick, countDown, known, state]

theorem zone_tick_eq (r : Zone) : r.tick = { r with
    soakTimer := r.soakTimer.map (· - 1), standbyTimer := r.standbyTimer.map (· - 1)
    recoverTimer := if r.slowRaised then r.recoverTimer else r.recoverTimer.map (· + 1)
    program := r.program.map fun g =>
      if g.state = .running ∧ (r.state = .ready ∨ r.state = .recover) then { g with timer := g.timer - 1 } else g } := by
  simp only [Zone.tick, stepCounts_iff]
  rfl

/-! ### What may fall due -/

theorem admits_iff (p : Polarity) (level : Bool) : p.admits level = true ↔ admitted p level := by
  cases p <;> cases level <;> decide

/-- What may fall due behind the two conversions. -/
def laterDues (s : State) : List Due :=
  [EventLine.rinseEnter, EventLine.rinseExit, EventLine.rackOut].map (sampleDue s) ++
    [{ command := .waitTimerExpiry, holds := fun s => s.feed.waitTimer == some 0 }] ++ (allZones.map zoneDues).flatten ++
    linkDues s ++
    (allPorts.map fun p => { command := .supervisionTimerExpiry p, holds := fun s => (s.ports.get p).timer == some 0 }) ++
    timeDues

theorem tickDues_eq (s : State) : tickDues s = { command := .feedConversion s.pins.feedSense, holds := fun _ => true } ::
    { command := .sensorConversion (s.pins.sensors.get s.scan.position), holds := fun _ => true } :: laterDues s := by
  simp only [tickDues, laterDues, List.cons_append, List.nil_append, List.append_assoc]

theorem mem_laterDues {s : State} {d : Due} : d ∈ laterDues s ↔
    (∃ line, d = sampleDue s line) ∨
    d = { command := .waitTimerExpiry, holds := fun s => s.feed.waitTimer == some 0 } ∨
    (∃ z, d ∈ zoneDues z) ∨ d ∈ linkDues s ∨
    (∃ p, d = { command := .supervisionTimerExpiry p, holds := fun s => (s.ports.get p).timer == some 0 }) ∨ d ∈ timeDues := by
  have lines : (∃ line, d = sampleDue s line) ↔ d ∈ [EventLine.rinseEnter, EventLine.rinseExit, EventLine.rackOut].map (sampleDue s) := by
    rw [List.mem_map]
    exact ⟨fun ⟨line, same⟩ => ⟨line, by cases line <;> decide, same.symm⟩, fun ⟨line, _, same⟩ => ⟨line, same.symm⟩⟩
  have zones : (∃ z, d ∈ zoneDues z) ↔ d ∈ (allZones.map zoneDues).flatten := by
    simp [allZones]
  have ports : (∃ p, d = { command := .supervisionTimerExpiry p, holds := fun s => (s.ports.get p).timer == some 0 }) ↔
      d ∈ allPorts.map fun p => { command := .supervisionTimerExpiry p, holds := fun s => (s.ports.get p).timer == some 0 } := by
    rw [List.mem_map]
    exact ⟨fun ⟨p, same⟩ => ⟨p, List.mem_finRange p, same.symm⟩, fun ⟨p, _, same⟩ => ⟨p, same.symm⟩⟩
  rw [lines, zones, ports, laterDues]
  simp only [List.mem_append, List.mem_cons, List.not_mem_nil, or_false, or_assoc]

theorem mem_tickDues {s : State} {d : Due} : d ∈ tickDues s ↔
    d = { command := .feedConversion s.pins.feedSense, holds := fun _ => true } ∨
    d = { command := .sensorConversion (s.pins.sensors.get s.scan.position), holds := fun _ => true } ∨ d ∈ laterDues s := by
  rw [tickDues_eq, List.mem_cons, List.mem_cons]

/-- The event of a line falls due where the level differs and the polarity admits it, and else the change of level alone (R98). -/
theorem sampleDue_holds {u s : State} (line : EventLine) (pins : s.pins = u.pins) (settings : s.line.settings = u.line.settings) :
    (sampleDue u line).holds s = true ↔ fallsDue s (sampleDue u line).command := by
  have polarity : s.line.polarity line = u.line.polarity line := by
    have enter := congrArg DishLine.enterPolarity settings
    have exit := congrArg DishLine.exitPolarity settings
    have out := congrArg DishLine.outPolarity settings
    cases line
    · exact enter
    · exact exit
    · exact out
  have fits := admits_iff (s.line.polarity line) (s.pins.level line)
  have differs : (sampleDue u line).holds s = true ↔ s.pins.level line ≠ s.line.level line := bne_iff_ne
  have command : (sampleDue u line).command =
      if (s.line.polarity line).admits (s.pins.level line) = true then lineEvent line else .lineLevelChange line := by
    rw [polarity, pins]
    rfl
  rw [differs, command]
  split
  · next event =>
    have admits := fits.mp event
    cases line <;> exact ⟨fun other => ⟨other, admits⟩, And.left⟩
  · next event =>
    have admits := fits.not.mp event
    cases line <;> exact ⟨fun other => ⟨other, admits⟩, And.left⟩

/-- What may fall due is due where its command falls due, as long as pins and settings are those that it was found with, and for
the conversion of the scan the scan. -/
theorem holds_iff {u s : State} {d : Due} (mem : d ∈ tickDues u) (pins : s.pins = u.pins) (settings : s.line.settings = u.line.settings)
    (scan : (∃ code, d.command = .sensorConversion code) → s.scan = u.scan) : d.holds s = true ↔ fallsDue s d.command := by
  rw [mem_tickDues, mem_laterDues] at mem
  rcases mem with rfl | rfl | ⟨line, rfl⟩ | rfl | ⟨z, zone⟩ | link | ⟨p, rfl⟩ | time
  · exact ⟨fun _ => (congrArg Pins.feedSense pins).symm, fun _ => rfl⟩
  · refine ⟨fun _ => ?_, fun _ => rfl⟩
    change u.pins.sensors.get u.scan.position = s.pins.sensors.get s.scan.position
    rw [pins, scan ⟨_, rfl⟩]
  · exact sampleDue_holds line pins settings
  · exact beq_iff_eq
  · simp only [zoneDues, List.mem_cons, List.not_mem_nil, or_false] at zone
    rcases zone with rfl | rfl | rfl | rfl
    · change (s.zones.get z).any _ = true ↔ ∃ r ∈ s.zones.get z, r.soakTimer = some 0
      simp [Option.any_eq_true]
    · change (s.zones.get z).any _ = true ↔ ∃ r ∈ s.zones.get z, r.slowRaised = false ∧ ∃ n ∈ r.recoverTimer, 100 * r.recoverLimit ≤ n
      simp [Option.any_eq_true]
    · change (s.zones.get z).any _ = true ↔ ∃ r ∈ s.zones.get z, r.standbyTimer = some 0
      simp [Option.any_eq_true]
    · change (s.zones.get z).any _ = true ↔ ∃ r ∈ s.zones.get z, ∃ g ∈ r.program,
        g.state = .running ∧ (r.state = .ready ∨ r.state = .recover) ∧ g.timer = 0
      simp [Option.any_eq_true, stepCounts_iff, and_assoc]
  · simp only [linkDues, List.mem_append, List.mem_cons, List.mem_map, List.not_mem_nil, or_false] at link
    rcases link with (rfl | ⟨p, -, rfl⟩) | rfl | rfl
    · change (!s.link.received.isEmpty && decide (2 ≤ s.link.rxGap)) = true ↔ s.link.received ≠ [] ∧ 2 ≤ s.link.rxGap
      simp
    · change (s.page? p.id).any _ = true ↔ ∃ q ∈ s.page? p.id, q.ackTimer = some 0
      simp [Option.any_eq_true]
    · exact beq_iff_eq
    · exact beq_iff_eq
  · exact beq_iff_eq
  · simp only [timeDues, List.mem_cons, List.not_mem_nil, or_false] at time
    rcases time with rfl | rfl | rfl
    · exact decide_eq_true_iff
    · change (s.time.slice == 99 && decide (s.time.sliceLength ≤ s.time.sliceTicks)) = true ↔
        s.time.slice = 99 ∧ s.time.sliceLength ≤ s.time.sliceTicks
      simp
    · change (s.time.slice != 99 && decide (s.time.sliceLength ≤ s.time.sliceTicks)) = true ↔
        s.time.slice ≠ 99 ∧ s.time.sliceLength ≤ s.time.sliceTicks
      simp

/-! ### What falls due, each once -/

/-- A command that falls due is one of those that may. -/
theorem exists_due {u : State} {i : Instr} (falls : fallsDue u i) : ∃ d ∈ tickDues u, d.command = i := by
  have later : ∀ {d}, d ∈ laterDues u → d ∈ tickDues u := fun mem => mem_tickDues.mpr (.inr (.inr mem))
  have line : ∀ l, sampleDue u l ∈ tickDues u := fun l => later (mem_laterDues.mpr (.inl ⟨l, rfl⟩))
  have event : ∀ l, admitted (u.line.polarity l) (u.pins.level l) → ∃ d ∈ tickDues u, d.command = lineEvent l := fun l fits =>
    ⟨_, line l, if_pos ((admits_iff _ _).mpr fits)⟩
  have change_ : ∀ l, ¬ admitted (u.line.polarity l) (u.pins.level l) → ∃ d ∈ tickDues u, d.command = .lineLevelChange l :=
    fun l fits => ⟨_, line l, if_neg ((admits_iff _ _).not.mpr fits)⟩
  have zone : ∀ z, ∀ d ∈ zoneDues z, ∃ e ∈ tickDues u, e.command = d.command := fun z d mem =>
    ⟨d, later (mem_laterDues.mpr (.inr (.inr (.inl ⟨z, mem⟩)))), rfl⟩
  have link : ∀ d ∈ linkDues u, ∃ e ∈ tickDues u, e.command = d.command := fun d mem =>
    ⟨d, later (mem_laterDues.mpr (.inr (.inr (.inr (.inl mem))))), rfl⟩
  have time : ∀ d ∈ timeDues, ∃ e ∈ tickDues u, e.command = d.command := fun d mem =>
    ⟨d, later (mem_laterDues.mpr (.inr (.inr (.inr (.inr (.inr mem)))))), rfl⟩
  cases i
  case feedConversion code =>
    cases (show code = u.pins.feedSense from falls)
    exact ⟨_, mem_tickDues.mpr (.inl rfl), rfl⟩
  case sensorConversion code =>
    cases (show code = u.pins.sensors.get u.scan.position from falls)
    exact ⟨_, mem_tickDues.mpr (.inr (.inl rfl)), rfl⟩
  case rinseEnter => exact event .rinseEnter falls.2
  case rinseExit => exact event .rinseExit falls.2
  case rackOut => exact event .rackOut falls.2
  case lineLevelChange l =>
    cases l
    · exact change_ .rinseEnter falls.2
    · exact change_ .rinseExit falls.2
    · exact change_ .rackOut falls.2
  case waitTimerExpiry => exact ⟨_, later (mem_laterDues.mpr (.inr (.inl rfl))), rfl⟩
  case soakTimerExpiry z => exact zone z _ (List.mem_cons_self ..)
  case recoverTimerLimit z => exact zone z _ (List.mem_cons_of_mem _ (List.mem_cons_self ..))
  case standbyTimerExpiry z => exact zone z _ (List.mem_cons_of_mem _ (List.mem_cons_of_mem _ (List.mem_cons_self ..)))
  case stepTimerExpiry z =>
    exact zone z _ (List.mem_cons_of_mem _ (List.mem_cons_of_mem _ (List.mem_cons_of_mem _ (List.mem_cons_self ..))))
  case receiveGap => exact link _ (List.mem_append_left _ (List.mem_cons_self ..))
  case ackTimerExpiry id =>
    obtain ⟨p, live, -⟩ := (show ∃ p ∈ u.page? id, p.ackTimer = some 0 from falls)
    have here : p.id = id := by simpa using List.find?_some live
    exact here ▸ link _ (List.mem_append_left _ (List.mem_cons_of_mem _ (List.mem_map.mpr ⟨p, List.mem_of_find?_eq_some live, rfl⟩)))
  case responseTimerExpiry => exact link _ (List.mem_append_right _ (List.mem_cons_self ..))
  case probeTimerExpiry => exact link _ (List.mem_append_right _ (List.mem_cons_of_mem _ (List.mem_cons_self ..)))
  case supervisionTimerExpiry p => exact ⟨_, later (mem_laterDues.mpr (.inr (.inr (.inr (.inr (.inl ⟨p, rfl⟩)))))), rfl⟩
  case kitchenClockAdvance => exact time _ (List.mem_cons_self ..)
  case frameBoundary => exact time _ (List.mem_cons_of_mem _ (List.mem_cons_self ..))
  case sliceAdvance => exact time _ (List.mem_cons_of_mem _ (List.mem_cons_of_mem _ (List.mem_cons_self ..)))
  all_goals exact falls.elim

/-- Which commands a tick takes before which others. -/
def turn : Instr → Nat
  | .feedConversion _ => 0
  | .sensorConversion _ => 1
  | .rinseEnter | .rinseExit | .rackOut | .lineLevelChange _ => 2
  | .waitTimerExpiry => 3
  | .soakTimerExpiry _ | .recoverTimerLimit _ | .standbyTimerExpiry _ | .stepTimerExpiry _ => 4
  | .receiveGap => 5
  | .ackTimerExpiry _ => 6
  | .responseTimerExpiry => 7
  | .probeTimerExpiry => 8
  | .supervisionTimerExpiry _ => 9
  | .kitchenClockAdvance => 10
  | .frameBoundary => 11
  | .sliceAdvance => 12
  | _ => 13

/-- Each command once, none before a turn. -/
def From (n : Nat) (l : List Instr) : Prop := l.Nodup ∧ ∀ i ∈ l, n ≤ turn i

theorem From.behind {n m : Nat} {l r : List Instr} (behind : From m r) (once : l.Nodup) (turns : ∀ i ∈ l, n ≤ turn i ∧ turn i < m)
    (le : n ≤ m) : From n (l ++ r) := by
  refine ⟨once.append behind.1 fun i here there => absurd (turns i here).2 (not_lt.mpr (behind.2 i there)), fun i mem => ?_⟩
  rcases List.mem_append.mp mem with mem | mem
  · exact (turns i mem).1
  · exact le.trans (behind.2 i mem)

/-- The line whose sample a command takes. -/
def sampled : Instr → Option EventLine
  | .rinseEnter => some .rinseEnter
  | .rinseExit => some .rinseExit
  | .rackOut => some .rackOut
  | .lineLevelChange l => some l
  | _ => none

theorem sampled_sampleDue (s : State) (l : EventLine) : sampled (sampleDue s l).command = some l := by
  unfold sampleDue
  dsimp only
  split
  · cases l <;> rfl
  · rfl

theorem turn_sampleDue (s : State) (l : EventLine) : turn (sampleDue s l).command = 2 := by
  unfold sampleDue
  dsimp only
  split
  · cases l <;> rfl
  · rfl

/-- The zone whose timer a command ends. -/
def zoneOf : Instr → Option ZoneId
  | .soakTimerExpiry z | .recoverTimerLimit z | .standbyTimerExpiry z | .stepTimerExpiry z => some z
  | _ => none

theorem zone_commands (z : ZoneId) : (zoneDues z).map (·.command) =
    [.soakTimerExpiry z, .recoverTimerLimit z, .standbyTimerExpiry z, .stepTimerExpiry z] := rfl

/-- What may fall due is due once, with page ids apart. -/
theorem nodup_commands {s : State} (apart : (s.desk.pages.map (·.id)).Nodup) : ((tickDues s).map (·.command)).Nodup := by
  have lines : (([EventLine.rinseEnter, .rinseExit, .rackOut].map (sampleDue s)).map (·.command)).Nodup := by
    refine List.Nodup.of_map sampled ?_
    rw [List.map_map, List.map_map]
    have order : ((sampled ∘ fun d : Due => d.command) ∘ sampleDue s) = some := funext (sampled_sampleDue s)
    rw [order]
    decide
  have lineTurn : ∀ i ∈ ([EventLine.rinseEnter, .rinseExit, .rackOut].map (sampleDue s)).map (·.command), turn i = 2 := fun i mem => by
    rw [List.map_map] at mem
    obtain ⟨l, -, rfl⟩ := List.mem_map.mp mem
    exact turn_sampleDue s l
  have zones : ((allZones.map zoneDues).flatten.map (·.command)).Nodup := by
    rw [List.map_flatten, List.map_map, List.nodup_flatten]
    refine ⟨fun l mem => ?_, ?_⟩
    · obtain ⟨z, -, rfl⟩ := List.mem_map.mp mem
      change [Instr.soakTimerExpiry z, .recoverTimerLimit z, .standbyTimerExpiry z, .stepTimerExpiry z].Nodup
      simp
    · refine List.Pairwise.map _ (fun y z apart i here there => apart ?_) (List.nodup_finRange 32)
      have zone : ∀ z, ∀ i ∈ (zoneDues z).map (·.command), zoneOf i = some z := fun z i mem => by
        rw [zone_commands] at mem
        simp only [List.mem_cons, List.not_mem_nil, or_false] at mem
        rcases mem with rfl | rfl | rfl | rfl <;> rfl
      exact Option.some.inj ((zone y i here).symm.trans (zone z i there))
  have zoneTurn : ∀ i ∈ (allZones.map zoneDues).flatten.map (·.command), turn i = 4 := fun i mem => by
    rw [List.map_flatten, List.map_map] at mem
    obtain ⟨l, list, mem⟩ := List.mem_flatten.mp mem
    obtain ⟨z, -, rfl⟩ := List.mem_map.mp list
    change i ∈ [Instr.soakTimerExpiry z, .recoverTimerLimit z, .standbyTimerExpiry z, .stepTimerExpiry z] at mem
    simp only [List.mem_cons, List.not_mem_nil, or_false] at mem
    rcases mem with rfl | rfl | rfl | rfl <;> rfl
  have pages : (s.desk.pages.map fun p => Instr.ackTimerExpiry p.id).Nodup := by
    have mapped := apart.map (f := Instr.ackTimerExpiry) fun a b same => by cases same; rfl
    rwa [List.map_map] at mapped
  have ports : (allPorts.map Instr.supervisionTimerExpiry).Nodup :=
    (List.nodup_finRange 4).map fun a b same => by cases same; rfl
  have whole : (tickDues s).map (·.command) =
      (([.feedConversion s.pins.feedSense, .sensorConversion (s.pins.sensors.get s.scan.position)] ++
        (([EventLine.rinseEnter, .rinseExit, .rackOut].map (sampleDue s)).map (·.command) ++ ([.waitTimerExpiry] ++
          ((allZones.map zoneDues).flatten.map (·.command) ++ ([.receiveGap] ++ ((s.desk.pages.map fun p => Instr.ackTimerExpiry p.id) ++
            ([.responseTimerExpiry, .probeTimerExpiry] ++ (allPorts.map Instr.supervisionTimerExpiry ++
              [.kitchenClockAdvance, .frameBoundary, .sliceAdvance])))))))) : List Instr) := by
    simp only [tickDues, linkDues, timeDues, List.map_append, List.map_map, List.map_cons, List.map_nil, List.append_assoc,
      List.cons_append, List.nil_append]
    rfl
  rw [whole]
  have time : From 10 [.kitchenClockAdvance, .frameBoundary, .sliceAdvance] := ⟨by decide, by decide⟩
  have ported := time.behind (n := 9) ports (List.forall_mem_map.mpr fun p _ => ⟨by decide +revert, by decide +revert⟩) (by omega)
  have linked := ported.behind (n := 7) (l := [.responseTimerExpiry, .probeTimerExpiry]) (by decide) (by decide) (by omega)
  have paged := linked.behind (n := 6) pages (List.forall_mem_map.mpr fun p _ => ⟨le_rfl, Nat.lt_succ_self 6⟩) (by omega)
  have gapped := paged.behind (n := 5) (l := [.receiveGap]) (by decide) (by decide) (by omega)
  have zoned := gapped.behind (n := 4) zones (fun i mem => by rw [zoneTurn i mem]; decide) (by omega)
  have waited := zoned.behind (n := 3) (l := [.waitTimerExpiry]) (by decide) (by decide) (by omega)
  have lined := waited.behind (n := 2) lines (fun i mem => by rw [lineTurn i mem]; decide) (by omega)
  refine (lined.behind (n := 0) ?_ (fun i mem => ?_) (by omega)).1
  · simp
  · simp only [List.mem_cons, List.not_mem_nil, or_false] at mem
    rcases mem with rfl | rfl
    · exact ⟨le_rfl, Nat.succ_pos 1⟩
    · exact ⟨Nat.zero_le 1, Nat.lt_succ_self 1⟩

/-! ### What a tick takes in turn -/

/-- The commands that have a turn are no resets and leave the line's settings. -/
theorem settings_of_turn {i : Instr} (h : turn i ≤ 12) : isReset i = false ∧ Block.lineSettings ∉ writes i := by
  cases i <;> first
    | exact ⟨rfl, fun mem => not_writes (List.mem_singleton_self _) mem rfl⟩
    | exact absurd h (Nat.not_succ_le_self 12)

/-- Behind the two conversions every command has a turn of its own. -/
theorem turn_of_later {u : State} {d : Due} (mem : d ∈ laterDues u) : 2 ≤ turn d.command ∧ turn d.command ≤ 12 := by
  rcases mem_laterDues.mp mem with ⟨line, rfl⟩ | rfl | ⟨z, zone⟩ | link | ⟨p, rfl⟩ | time
  · rw [turn_sampleDue]
    decide
  · exact ⟨Nat.le_of_ble_eq_true rfl, Nat.le_of_ble_eq_true rfl⟩
  · simp only [zoneDues, List.mem_cons, List.not_mem_nil, or_false] at zone
    rcases zone with rfl | rfl | rfl | rfl <;> exact ⟨Nat.le_of_ble_eq_true rfl, Nat.le_of_ble_eq_true rfl⟩
  · simp only [linkDues, List.mem_append, List.mem_cons, List.mem_map, List.not_mem_nil, or_false] at link
    rcases link with (rfl | ⟨p, -, rfl⟩) | rfl | rfl <;> exact ⟨Nat.le_of_ble_eq_true rfl, Nat.le_of_ble_eq_true rfl⟩
  · exact ⟨Nat.le_of_ble_eq_true rfl, Nat.le_of_ble_eq_true rfl⟩
  · simp only [timeDues, List.mem_cons, List.not_mem_nil, or_false] at time
    rcases time with rfl | rfl | rfl <;> exact ⟨Nat.le_of_ble_eq_true rfl, Nat.le_of_ble_eq_true rfl⟩

theorem due_command {u : State} {d : Due} (mem : d ∈ tickDues u) : isReset d.command = false ∧ Block.lineSettings ∉ writes d.command := by
  rcases mem_tickDues.mp mem with rfl | rfl | later
  · exact settings_of_turn (Nat.zero_le 12)
  · exact settings_of_turn (i := .sensorConversion _) (Nat.le_add_left 1 11)
  · exact settings_of_turn (turn_of_later later).2

/-- Whether a command is a conversion of the scan. -/
def scans : Instr → Prop
  | .sensorConversion _ => True
  | _ => False

theorem scans_of_writes {i : Instr} (h : Block.scan ∈ writes i) : scans i := by
  cases i
  case sensorConversion => trivial
  all_goals exact (not_writes (List.mem_singleton_self _) h rfl).elim

theorem scans_iff {i : Instr} : scans i ↔ ∃ code, i = .sensorConversion code :=
  ⟨fun h => by cases i <;> first | exact ⟨_, rfl⟩ | exact h.elim, fun ⟨_, same⟩ => same ▸ trivial⟩

/-- At most one conversion of the scan may fall due. -/
theorem one_scan (u : State) : (tickDues u).Pairwise fun d e => scans d.command → ¬ scans e.command := by
  have later : ∀ d ∈ laterDues u, ¬ scans d.command := fun d mem scan => by
    obtain ⟨code, sensor⟩ := scans_iff.mp scan
    have late := (turn_of_later mem).1
    rw [sensor] at late
    exact absurd late (Nat.not_succ_le_self 1)
  rw [tickDues_eq]
  refine List.pairwise_cons.mpr ⟨fun _ _ scan => scan.elim, List.pairwise_cons.mpr ⟨fun e mem _ => later e mem, ?_⟩⟩
  exact List.pairwise_of_forall_mem_list fun d _ e mem _ => later e mem

/-- What is due is taken in turn. -/
theorem takenInTurn {u : State} (ds : List Due) : ∀ s, (∀ d ∈ ds, d ∈ tickDues u) → (ds.Pairwise fun d e => scans d.command → ¬ scans e.command) →
    s.pins = u.pins → s.line.settings = u.line.settings → (∀ d ∈ ds, scans d.command → s.scan = u.scan) →
    TakenInTurn (ds.map (·.command)) s (ds.foldl afterDue s) := by
  induction ds with
  | nil => exact fun s _ _ _ _ _ => rfl
  | cons d ds ih =>
    intro s mem once pins settings scan
    have here := List.mem_cons_self (a := d) (l := ds)
    have falls := holds_iff (mem d here) pins settings fun code => scan d here (scans_iff.mpr code)
    obtain ⟨running, settingless⟩ := due_command (mem d here)
    refine ⟨afterDue s d, fun not => if_neg (falls.not.mpr not), fun due => ⟨_, exec_eq_run _ _, ?_⟩, ?_⟩
    · rw [arbiterActs_eq, afterDue, if_pos (falls.mpr due)]
    · obtain ⟨apart, once⟩ := List.pairwise_cons.mp once
      by_cases due : d.holds s = true
      swap
      · have same : afterDue s d = s := if_neg due
        change TakenInTurn (ds.map (·.command)) (afterDue s d) (ds.foldl afterDue (afterDue s d))
        rw [same]
        exact ih s (fun e there => mem e (List.mem_cons_of_mem _ there)) once pins settings fun e there => scan e (List.mem_cons_of_mem _ there)
      · have same : afterDue s d = granted ((meaning d.command).run s) := if_pos due
        change TakenInTurn (ds.map (·.command)) (afterDue s d) (ds.foldl afterDue (afterDue s d))
        rw [same]
        refine ih _ (fun e there => mem e (List.mem_cons_of_mem _ there)) once ?_ ?_ fun e there scanned => ?_
        · rw [granted_pins, (run_outside _ s).2, pins]
        · have kept : SameBlock _ _ .lineSettings := run_same s running (by simp) settingless
          have kept' : SameBlock _ _ .lineSettings := granted_same ((meaning d.command).run s) (by simp)
          exact (Eq.trans kept' kept).trans settings
        · have unscanned : Block.scan ∉ writes d.command := fun h => apart e there (scans_of_writes h) scanned
          have kept : SameBlock _ _ .scan := run_same s running (by simp) unscanned
          have kept' : SameBlock _ _ .scan := granted_same ((meaning d.command).run s) (by simp)
          exact (Eq.trans kept' kept).trans (scan e (List.mem_cons_of_mem _ there) scanned)

/-- Settles O3: a tick takes the commands that may fall due, filtered by what has fallen due when it has counted. -/
theorem idlePartGrantsThenTicks : Obligations.IdlePartGrantsThenTicks := by
  refine ⟨fun s empty => ?_, fun s running => ?_⟩
  · have idles : step s = idle s := by rw [step, empty]
    rw [idles]
    refine ⟨fun held => if_pos held, fun running => ?_⟩
    have due : idle s = if (grantDue s).isSome then grantAtOnce s
        else if s.link.transmitting ≠ [] then exec .transmitComplete s else tick s :=
      if_neg (by rw [running]; exact Bool.false_ne_true.symm)
    rw [due]
    refine ⟨fun free cancels => ?_, fun free cancels reoffers => ?_, fun free cancels reoffers next => ?_, fun none_ => ?_⟩
    · have grant : grantDue s = some .cancel := by
        rw [grantDue, (linkFree_iff s).mpr free, if_neg Bool.false_ne_true.symm, if_pos cancels]
      rw [grantAtOnce, grant]
      rfl
    · have grant : grantDue s = some .reOffer := by
        rw [grantDue, (linkFree_iff s).mpr free, if_neg Bool.false_ne_true.symm, if_neg (not_not.mpr cancels), if_pos reoffers]
      rw [grantAtOnce, grant]
      rfl
    · have grant : grantDue s = some .offer := by
        rw [grantDue, (linkFree_iff s).mpr free, if_neg Bool.false_ne_true.symm, if_neg (not_not.mpr cancels),
          if_neg (not_not.mpr reoffers), if_pos (Option.isSome_iff_ne_none.mpr next)]
      rw [grantAtOnce, grant]
      rfl
    · have grant : grantDue s = none := by
        unfold grantDue
        rcases none_ with busy | ⟨cancels, reoffers, next⟩
        · rw [if_pos (linkFree_eq_false busy)]
        · split
          · rfl
          · rw [cancels, reoffers, next]
            rfl
      rw [grant, if_neg (by simp)]
      by_cases sent : s.link.transmitting = []
      · rw [if_neg (not_not.mpr sent), if_pos sent]
      · rw [if_pos sent, if_neg sent]
  · refine ⟨?_, (duesOf (countTick s)).map (·.command), _, fun i => ?_, fun law => ?_, tick_eq s, ?_⟩
    · rw [countTick_eq, link_tick_eq, funext zone_tick_eq]
      rfl
    · have due : ∀ {d}, d ∈ tickDues (countTick s) → (d.holds (countTick s) = true ↔ fallsDue (countTick s) d.command) := fun mem =>
        holds_iff mem rfl rfl fun _ => rfl
      rw [List.mem_map]
      constructor
      · rintro ⟨d, mem, rfl⟩
        obtain ⟨may, holds⟩ := List.mem_filter.mp mem
        exact (due may).mp holds
      · intro falls
        obtain ⟨d, may, rfl⟩ := exists_due falls
        exact ⟨d, List.mem_filter.mpr ⟨may, (due may).mpr falls⟩, rfl⟩
    · refine (nodup_commands ?_).sublist (List.Sublist.map _ List.filter_sublist)
      rw [countTick_eq]
      have ids : (s.desk.pages.map fun p => { p with ackTimer := countDown p.ackTimer }).map (·.id) = s.desk.pages.map (·.id) := by
        rw [List.map_map]
        rfl
      exact ids ▸ law.2.1
    · have some_ : ∀ d ∈ duesOf (countTick s), d ∈ tickDues (countTick s) := fun d mem => (List.mem_filter.mp mem).1
      exact takenInTurn _ _ some_ ((one_scan _).sublist List.filter_sublist) rfl rfl fun _ _ _ => rfl

end Sys2Proof.Machine
end

section
/-! PROOF. The pass of a course: what it reserves is what the ledger's pass reserves (R139 to R141). -/

namespace Sys2Proof.Machine

/-! ### The entries that a walk leaves (R139) -/

theorem addEntry_eq (z : ZoneId) (n : Nat) (es : List (ZoneId × Nat)) : addEntry z n es =
    if es.any (fun e => e.1 = z) = true then es.map fun e => if e.1 = z then (e.1, e.2 + n) else e else es ++ [(z, n)] := by
  unfold addEntry
  have same : (es.any fun e => e.1 == z) = es.any fun e => decide (e.1 = z) := rfl
  rw [same]

/-- Whether a walk leaves a cabinet as it is, from what it could give there and the entries before. -/
def Skips (n : Nat) (z : ZoneId) (es : List (ZoneId × Nat)) : Prop := n = 0 ∨ (es.any (fun e => e.1 = z) = false ∧ 6 ≤ es.length)

theorem Skips.room {n : Nat} {z : ZoneId} {es : List (ZoneId × Nat)} (h : ¬ Skips n z es) :
    1 ≤ n ∧ (es.any (fun e => e.1 == z) = true ∨ es.length < 6) := by
  unfold Skips at h
  rw [not_or, not_and_or] at h
  exact ⟨Nat.one_le_iff_ne_zero.mpr h.1, h.2.imp (fun any => by simpa using any) Nat.not_le.mp⟩

section
variable {plates : ZoneId → Nat} {z : ZoneId} {rest : List ZoneId} {need : Nat} {es : List (ZoneId × Nat)}

/-- The plates left once some were reserved on a cabinet. -/
def less (plates : ZoneId → Nat) (z : ZoneId) (n : Nat) (y : ZoneId) : Nat := if y = z then plates z - n else plates y

theorem entriesAfter_skip (skips : Skips (min (plates z) need) z es) :
    entriesAfter plates (z :: rest) need es = entriesAfter plates rest need es := by
  rw [entriesAfter]
  exact if_pos skips

theorem entriesAfter_take (takes : ¬ Skips (min (plates z) need) z es) : entriesAfter plates (z :: rest) need es =
    entriesAfter (less plates z (min (plates z) need)) rest (need - min (plates z) need) (addEntry z (min (plates z) need) es) := by
  rw [entriesAfter, addEntry_eq]
  exact if_neg takes

end

/-- What a walk leaves: entries as R139 has them, each raised or new on a cabinet walked, no more than the need and the plates. -/
structure Walk (plates : ZoneId → Nat) (zs : List ZoneId) (need : Nat) (es out : List (ZoneId × Nat)) : Prop where
  entries : Entries out
  more : ∀ y, heldIn es y ≤ heldIn out y
  within : ∀ y, heldIn out y ≤ heldIn es y + plates y
  least : heldAll es ≤ heldAll out
  most : heldAll out ≤ heldAll es + need
  onto : ∀ e ∈ out, (∃ d ∈ es, d.1 = e.1) ∨ (e.1 ∈ zs ∧ 1 ≤ plates e.1)
  longer : es.length ≤ out.length
  used : heldAll out < heldAll es + need → out.length < 6 → ∀ y ∈ zs, plates y + heldIn es y ≤ heldIn out y

theorem length_le_addEntry (z : ZoneId) (n : Nat) (es : List (ZoneId × Nat)) : es.length ≤ (addEntry z n es).length := by
  unfold addEntry
  split
  · rw [List.length_map]
  · rw [List.length_append]
    exact Nat.le_add_right _ _

theorem walk_entriesAfter (zs : List ZoneId) : ∀ (plates : ZoneId → Nat) (need : Nat) (es : List (ZoneId × Nat)), Entries es →
    Walk plates zs need es (entriesAfter plates zs need es) := by
  induction zs with
  | nil => exact fun plates need es h => ⟨h, fun _ => le_rfl, fun _ => Nat.le_add_right _ _, le_rfl, Nat.le_add_right _ _,
      fun e mem => .inl ⟨e, mem, rfl⟩, le_rfl, fun _ _ y mem => absurd mem List.not_mem_nil⟩
  | cons z rest ih =>
    intro plates need es h
    by_cases skips : Skips (min (plates z) need) z es
    · rw [entriesAfter_skip skips]
      have walk := ih plates need es h
      refine ⟨walk.entries, walk.more, walk.within, walk.least, walk.most, fun e mem => ?_, walk.longer, fun some_ room y mem => ?_⟩
      · exact (walk.onto e mem).imp_right fun ⟨there, plate⟩ => ⟨List.mem_cons_of_mem _ there, plate⟩
      · rcases List.mem_cons.mp mem with rfl | mem
        · have more := walk.more y
          have least := walk.least
          have long := walk.longer
          rcases skips with nothing | ⟨-, full⟩
          · omega
          · omega
        · exact walk.used some_ room y mem
    · rw [entriesAfter_take skips]
      obtain ⟨one, room⟩ := Skips.room skips
      obtain ⟨entries, all, each, onto⟩ := h.add one room
      have walk := ih (less plates z (min (plates z) need)) (need - min (plates z) need) _ entries
      generalize entriesAfter (less plates z (min (plates z) need)) rest (need - min (plates z) need)
        (addEntry z (min (plates z) need) es) = out at walk
      have few := min_le_left (plates z) need
      have few' := min_le_right (plates z) need
      have long := length_le_addEntry z (min (plates z) need) es
      have choice := min_choice (plates z) need
      generalize min (plates z) need = n at *
      refine ⟨walk.entries, fun y => ?_, fun y => ?_, ?_, ?_, fun e mem => ?_, long.trans walk.longer, fun some_ room y mem => ?_⟩
      · have more := walk.more y
        rw [each] at more
        omega
      · have within := walk.within y
        rw [each, less] at within
        split at within
        · next same => subst same; omega
        · omega
      · have least := walk.least
        omega
      · have most := walk.most
        omega
      · rcases walk.onto e mem with ⟨d, there, same⟩ | ⟨there, plate⟩
        · rcases onto d there with here | ⟨x, mem', same'⟩
          · refine .inr ⟨List.mem_cons.mpr (.inl (same.symm.trans here)), ?_⟩
            rw [← same, here]
            omega
          · exact .inl ⟨x, mem', same'.trans same⟩
        · refine .inr ⟨List.mem_cons_of_mem _ there, ?_⟩
          unfold less at plate
          split at plate
          · next same => rw [same]; omega
          · exact plate
      · have more := walk.more y
        rw [each] at more
        have used := walk.used (by omega) room
        by_cases same : y = z
        · subst same
          rw [if_pos rfl] at more
          by_cases again : y ∈ rest
          · have used := used y again
            rw [each, if_pos rfl, less, if_pos rfl] at used
            omega
          · have most := walk.most
            have least := walk.least
            rcases choice with all_ | all_ <;> omega
        · have used := used y ((List.mem_cons.mp mem).resolve_left same)
          rw [each, if_neg same, less, if_neg same] at used
          omega

/-! ### The table of cabinets (R118, R124) -/

/-- As far as plates, courses and READY cabinets go, nothing was done. -/
structure SameTable (s t : State) : Prop where
  stock : SameStock s t
  ready : ∀ z, t.zoneState z = .ready ↔ s.zoneState z = .ready

theorem SameTable.refl (s : State) : SameTable s s := ⟨.refl s, fun _ => Iff.rfl⟩

theorem SameTable.trans {s t u : State} (h : SameTable s t) (k : SameTable t u) : SameTable s u :=
  ⟨h.stock.trans k.stock, fun z => (k.ready z).trans (h.ready z)⟩

theorem zoneState_congr {s t : State} (h : t.zones = s.zones) (z : ZoneId) : t.zoneState z = s.zoneState z := by
  rw [State.zoneState, h]
  rfl

theorem SameTable.of_zones {s t : State} (stock : SameStock s t) (h : t.zones = s.zones) : SameTable s t :=
  ⟨stock, fun z => by rw [zoneState_congr h]⟩

/-- A zone in STANDBY that wakes was not READY and is not. -/
theorem moveZone_ready {z : ZoneId} {st : ZoneState} {s : State} (before : s.zoneState z ≠ .ready) (after : st ≠ .ready) (y : ZoneId) :
    (moveZone z st s).zoneState y = .ready ↔ s.zoneState y = .ready := by
  by_cases same : y = z
  · subst same
    refine ⟨fun now => ?_, fun now => absurd now before⟩
    unfold State.zoneState at now before
    rw [moveZone_zones, State.changeZone] at now
    cases zone : s.zones.get y with
    | none =>
      rw [zone] at now
      dsimp only at now
      rw [zone] at now
      cases now
    | some r =>
      rw [zone] at now
      dsimp only at now
      rw [State.setZone_zones, Table.get_set_same] at now
      exact absurd ((r.enter_state st).symm.trans now) after
  · have other : (moveZone z st s).zoneState y = s.zoneState y := by
      rw [State.zoneState, moveZone_others z st s y same]
      rfl
    rw [other]

theorem sameTable_ops : StockOps SameTable where
  refl := SameTable.refl
  trans := SameTable.trans
  post k o v s := .of_zones (sameStock_ops.post k o v s) rfl
  raise c g o s := .of_zones (sameStock_ops.raise c g o s) ((raise_touches _ _ _ _).within.zones (by simp))
  clear c o s := .of_zones (sameStock_ops.clear c o s) ((clearEvent_touches _ _ _).within.zones (by simp))
  opened z t s free here := .of_zones (sameStock_ops.opened z t s free here) rfl
  closed z s := .of_zones (sameStock_ops.closed z s) rfl
  woken z s := .of_zones (sameStock_ops.woken z s) rfl
  refresh z s := ⟨sameStock_ops.refresh z s, fun y => by rw [refreshStandby_zoneState]⟩
  wake z s standby := ⟨sameStock_ops.wake z s standby, moveZone_ready (by rw [standby]; decide) (by decide)⟩

/-- The plates available in a READY zone's cabinet. -/
theorem ledger_plates (s : State) (z : ZoneId) : s.ledger.plates z =
    match s.cabinet? z with
    | some c => if s.zoneState z = .ready then c.stock - c.reserved else 0
    | none => 0 := rfl

/-! ### A pass at one cabinet (R139) -/

/-- What reservations on the way from a course's entries to others do: the course, and the reserved counts. -/
structure Reserved (c : CourseId) (r : Course) (es : List (ZoneId × Nat)) (s t : State) : Prop where
  course : ∀ d, t.course? d = if d = c then some { r with entries := es } else s.course? d
  cabinet : ∀ y, t.cabinet? y = (s.cabinet? y).map fun b => { b with reserved := b.reserved + (heldIn es y - heldIn r.entries y) }
  ready : ∀ y, t.zoneState y = .ready ↔ s.zoneState y = .ready
  order : t.courses.order = s.courses.order
  wares : t.wares = s.wares

section
variable {c : CourseId} {r : Course} {es : List (ZoneId × Nat)} {s t u : State}

theorem Reserved.refl (live : s.course? c = some r) : Reserved c r r.entries s s := by
  refine ⟨fun d => ?_, fun y => ?_, fun _ => Iff.rfl, rfl, rfl⟩
  · split
    · next same => rw [same, live]
    · rfl
  · simp

theorem Reserved.live (h : Reserved c r es s t) : t.course? c = some { r with entries := es } := by rw [h.course, if_pos rfl]

theorem Reserved.trans {es' : List (ZoneId × Nat)} (h : Reserved c r es s t) (k : Reserved c { r with entries := es } es' t u)
    (first : ∀ y, heldIn r.entries y ≤ heldIn es y) (second : ∀ y, heldIn es y ≤ heldIn es' y) : Reserved c r es' s u := by
  refine ⟨fun d => ?_, fun y => ?_, fun y => (k.ready y).trans (h.ready y), k.order.trans h.order, k.wares.trans h.wares⟩
  · rw [k.course, h.course]
    split <;> rfl
  · rw [k.cabinet, h.cabinet, Option.map_map]
    refine congrArg (fun f => Option.map f (s.cabinet? y)) (funext fun b => ?_)
    have one := first y
    have two := second y
    dsimp only [Function.comp]
    rw [Nat.add_assoc, show heldIn es y - heldIn r.entries y + (heldIn es' y - heldIn es y) = heldIn es' y - heldIn r.entries y by omega]

/-- The ledger's plates behind the reservations. -/
theorem Reserved.plates (h : Reserved c r es s t) (y : ZoneId) :
    t.ledger.plates y = s.ledger.plates y - (heldIn es y - heldIn r.entries y) := by
  rw [ledger_plates, ledger_plates, h.cabinet]
  cases s.cabinet? y with
  | none => exact (Nat.zero_sub _).symm
  | some b =>
    simp only [Option.map_some, h.ready]
    split
    · exact (Nat.sub_sub _ _ _).symm
    · exact (Nat.zero_sub _).symm

theorem Reserved.kinds (h : Reserved c r es s t) (y : ZoneId) : (t.cabinet? y).map (·.kind) = (s.cabinet? y).map (·.kind) := by
  rw [h.cabinet, Option.map_map]
  rfl

/-- Whether a zone has a cabinet of a kind. -/
def ofKind (s : State) (k : WareId) (z : ZoneId) : Bool := (s.cabinet? z).any fun c => c.kind = some k

theorem ofKind_congr (kinds : ∀ y, (t.cabinet? y).map (·.kind) = (s.cabinet? y).map (·.kind)) (k : WareId) : ofKind t k = ofKind s k := by
  funext z
  have same := kinds z
  unfold ofKind
  have any : ∀ o : Option Cabinet, (o.any fun c => decide (c.kind = some k)) = (o.map (·.kind)).any fun i => decide (i = some k) := fun o => by
    cases o <;> rfl
  rw [any, any, same]

/-- A pass reserves on a cabinet of the course's kind what the ledger's walk takes there, and leaves every other. -/
theorem passAt_spec (deferred : Option ZoneId) (z : ZoneId) (live : s.course? c = some r) (entries : Entries r.entries) :
    let n := min (s.ledger.plates z) r.need
    (ofKind s r.kind z = false ∨ Skips n z r.entries → passAt c deferred s z = s) ∧
    (ofKind s r.kind z = true → ¬ Skips n z r.entries → Reserved c r (addEntry z n r.entries) s (passAt c deferred s z)) := by
  intro n
  cases cabinet : s.cabinet? z with
  | none =>
    have left : passAt c deferred s z = s := by
      unfold passAt
      rw [live, cabinet]
    exact ⟨fun _ => left, fun kind => by simp [ofKind, cabinet] at kind⟩
  | some b =>
    have kind : ofKind s r.kind z = true ↔ b.kind = some r.kind := by simp [ofKind, cabinet]
    have here : passAt c deferred s z = if canReserve s r z then
        (fun m => changeCourse c (fun q => { q with entries := addEntry z m q.entries })
          (if deferred = some z then reservePlates z m s else testRestock z (reservePlates z m s))) (min b.available r.need) else s := by
      unfold passAt
      rw [live, cabinet]
    have can : canReserve s r z = true ↔ b.kind = some r.kind ∧ s.zoneState z = .ready ∧ 1 ≤ b.available ∧ 0 < r.need ∧
        (r.entries.any (fun e => e.1 == z) = true ∨ r.entries.length < entryCapacity) := by
      simp only [canReserve, cabinet, Bool.and_eq_true, Bool.or_eq_true, decide_eq_true_eq, beq_iff_eq, and_assoc]
    have plates : s.ledger.plates z = if s.zoneState z = .ready then b.available else 0 := by
      rw [ledger_plates, cabinet]
      rfl
    refine ⟨fun skips => ?_, fun ours takes => ?_⟩
    · rw [here, if_neg]
      rw [can]
      rintro ⟨ours, ready, some_, need, room⟩
      rcases skips with other | skips
      · rw [kind.mpr ours] at other
        cases other
      · rcases skips with nothing | ⟨fresh, full⟩
        · simp only [n, plates, if_pos ready] at nothing
          omega
        · rcases room with any | room
          · have same : (r.entries.any fun e => e.1 == z) = r.entries.any fun e => decide (e.1 = z) := rfl
            rw [same, fresh] at any
            cases any
          · exact absurd room (not_lt.mpr full)
    · obtain ⟨one, room⟩ := Skips.room takes
      have ready : s.zoneState z = .ready := by
        by_contra away
        simp only [n, plates, if_neg away] at one
        omega
      have count : n = min b.available r.need := by simp only [n, plates, if_pos ready]
      rw [here, if_pos (can.mpr ⟨kind.mp ours, ready, by omega, by omega, room⟩)]
      dsimp only
      rw [← count]
      obtain ⟨-, -, each, -⟩ := entries.add one room
      generalize n = n at *
      have set : ∀ y, (s.setCabinet z { b with reserved := b.reserved + n }).cabinet? y =
          if y = z then some { b with reserved := b.reserved + n } else s.cabinet? y := setCabinet_cabinet? cabinet
      have table : SameTable (s.setCabinet z { b with reserved := b.reserved + n })
          (if deferred = some z then reservePlates z n s else testRestock z (reservePlates z n s)) := by
        have reserved : reservePlates z n s = report z false (s.setCabinet z { b with reserved := b.reserved + n }) := by
          rw [reservePlates, cabinet]
        rw [reserved]
        split
        · exact sameTable_ops.report _ _ _
        · exact (sameTable_ops.report _ _ _).trans (sameTable_ops.testRestock _ _)
      have courses := table.stock.courses
      have within := setCabinet_within z { b with reserved := b.reserved + n } s
      generalize (if deferred = some z then reservePlates z n s else testRestock z (reservePlates z n s)) = v at table courses
      have same : v.courses = s.courses := courses.trans (within.courses (by simp))
      have still : v.course? c = some r := by rw [State.course?, same]; exact live
      rw [changeCourse, still]
      refine ⟨fun d => ?_, fun y => ?_, fun y => ?_, ?_, ?_⟩
      · rw [setCourse_course?]
        refine if_congr Iff.rfl rfl ?_
        rw [State.course?, same]
        rfl
      · change v.cabinet? y = _
        rw [table.stock.cabinets, set]
        rw [each]
        split
        · next same =>
          rw [same, cabinet, Nat.add_sub_cancel_left]
          rfl
        · rw [Nat.add_zero, Nat.sub_self]
          simp
      · change v.zoneState y = _ ↔ _
        rw [table.ready, setCabinet_zoneState]
      · change v.courses.order = _
        rw [same]
      · change v.wares = _
        rw [table.stock.wares]
        exact within.wares (by simp)

end

end Sys2Proof.Machine
end

section
/-! PROOF. Whole passes and reruns: a pass walks the cabinets of its kind, ends SHORT where there is a need, and leaves the books
as the ledger's pass does (R139 to R141). -/

namespace Sys2Proof.Machine

/-! ### The walk of a pass (R139) -/

theorem walkOf_ofKind (s : State) (r : Course) : (walkOf s r).filter (ofKind s r.kind) = walkedBy s r.kind r.cabinets := by
  unfold walkOf walkedBy ofKind
  cases r.cabinets with
  | cons z zs => rfl
  | nil =>
    change (cabinetsOf s r.kind).filter _ = allZones.filter _
    unfold cabinetsOf
    rw [List.filter_filter]
    refine List.filter_congr fun z _ => ?_
    cases s.cabinet? z with
    | none => rfl
    | some c => simp

section
variable {c : CourseId} {s t u : State}

/-- The walk of a pass reserves what the ledger's walk takes. -/
theorem walk_reserved (deferred : Option ZoneId) (zs : List ZoneId) : ∀ (s : State) (r : Course), s.course? c = some r → Entries r.entries →
    Reserved c r (entriesAfter s.ledger.plates (zs.filter (ofKind s r.kind)) r.need r.entries) s (zs.foldl (passAt c deferred) s) := by
  induction zs with
  | nil => exact fun s r live _ => Reserved.refl live
  | cons z zs ih =>
    intro s r live entries
    obtain ⟨left, taken⟩ := passAt_spec deferred z live entries
    rw [List.foldl_cons]
    by_cases kind : ofKind s r.kind z = true
    swap
    · rw [left (.inl (Bool.eq_false_iff.mpr kind)), List.filter_cons_of_neg kind]
      exact ih s r live entries
    rw [List.filter_cons_of_pos kind]
    by_cases skips : Skips (min (s.ledger.plates z) r.need) z r.entries
    · rw [left (.inr skips), entriesAfter_skip skips]
      exact ih s r live entries
    · have first := taken kind skips
      obtain ⟨one, room⟩ := Skips.room skips
      obtain ⟨entries', all, each, -⟩ := entries.add one room
      have rest := ih _ { r with entries := addEntry z (min (s.ledger.plates z) r.need) r.entries } first.live entries'
      have plates : (passAt c deferred s z).ledger.plates = less s.ledger.plates z (min (s.ledger.plates z) r.need) := funext fun y => by
        rw [first.plates, each, less]
        split
        · next same => rw [same, Nat.add_sub_cancel_left]
        · rw [Nat.add_zero, Nat.sub_self, Nat.sub_zero]
      have need : ({ r with entries := addEntry z (min (s.ledger.plates z) r.need) r.entries } : Course).need =
          r.need - min (s.ledger.plates z) r.need := by
        have before : r.need = r.covers - r.plated - heldAll r.entries := by
          rw [Course.need, heldAll_eq]
        rw [Course.need, heldAll_eq]
        dsimp only
        rw [all]
        omega
      have kinds : ofKind (passAt c deferred s z) r.kind = ofKind s r.kind := ofKind_congr first.kinds r.kind
      rw [plates, need] at rest
      change Reserved c _ (entriesAfter _ (zs.filter (ofKind (passAt c deferred s z) r.kind)) _ _) _ _ at rest
      rw [kinds] at rest
      rw [entriesAfter_take skips]
      refine first.trans rest (fun y => ?_) fun y => (walk_entriesAfter _ _ _ _ entries').more y
      rw [each]
      omega

/-! ### The end of a pass (R140) -/

/-- What a pass whole does: the course's entries and its SHORT mark, and the reserved counts. -/
structure Passed (c : CourseId) (r : Course) (es : List (ZoneId × Nat)) (s t : State) : Prop where
  course : ∀ d, t.course? d = if d = c then some { r with
    entries := es, short := decide (0 < ({ r with entries := es } : Course).need) } else s.course? d
  cabinet : ∀ y, t.cabinet? y = (s.cabinet? y).map fun b => { b with reserved := b.reserved + (heldIn es y - heldIn r.entries y) }
  ready : ∀ y, t.zoneState y = .ready ↔ s.zoneState y = .ready
  order : t.courses.order = s.courses.order
  wares : t.wares = s.wares

theorem SameTable.course? (h : SameTable s t) (d : CourseId) : t.course? d = s.course? d := by rw [State.course?, h.stock.courses]; rfl

/-- The end of a pass marks the course SHORT where there is a need, and nothing else in the books. -/
theorem settleCourse_table {r : Course} (live : s.course? c = some r) (fired : Bool) :
    SameTable (s.setCourse c (some { r with short := decide (0 < r.need) })) (settleCourse c fired s) := by
  have k := sameTable_ops
  unfold settleCourse
  rw [live]
  dsimp only
  split
  · next done =>
    have short : decide (0 < r.need) = false := by rw [done]; rfl
    rw [short]
    split
    · exact k.post _ _ _ _
    split
    · exact (k.clear _ _ _).trans (k.post _ _ _ _)
    · exact k.refl _
  · next needs =>
    have short : decide (0 < r.need) = true := decide_eq_true (Nat.pos_of_ne_zero needs)
    rw [short]
    refine SameTable.trans ?_ (k.fold _ k.wakeListed _ _)
    split
    · exact (k.raise _ _ _ _).trans (k.post _ _ _ _)
    · exact k.refl _

/-- The entries that a pass leaves a course. -/
def passEntries (s : State) (r : Course) : List (ZoneId × Nat) := entriesAfter s.ledger.plates (walkedBy s r.kind r.cabinets) r.need r.entries

theorem runPass_passed {r : Course} (live : s.course? c = some r) (entries : Entries r.entries) (deferred : Option ZoneId) (fired : Bool) :
    Passed c r (passEntries s r) s (runPass c deferred fired s) := by
  have walked := walk_reserved deferred (walkOf s r) s r live entries
  rw [walkOf_ofKind] at walked
  have run : runPass c deferred fired s = settleCourse c fired ((walkOf s r).foldl (passAt c deferred) s) := by
    rw [runPass, live]
  rw [run, passEntries]
  generalize (walkOf s r).foldl (passAt c deferred) s = v at walked
  generalize entriesAfter s.ledger.plates (walkedBy s r.kind r.cabinets) r.need r.entries = es at walked
  have table := settleCourse_table walked.live fired
  refine ⟨fun d => ?_, fun y => ?_, fun y => ?_, ?_, ?_⟩
  · rw [table.course?, setCourse_course?, walked.course]
    split <;> rfl
  · rw [table.stock.cabinets]
    exact walked.cabinet y
  · rw [table.ready]
    exact walked.ready y
  · rw [table.stock.courses]
    exact walked.order
  · rw [table.stock.wares]
    exact walked.wares

theorem runPass_of_free (free : s.course? c = none) (deferred : Option ZoneId) (fired : Bool) : runPass c deferred fired s = s := by
  rw [runPass, free]

end

/-! ### The ledger (R139 to R141) -/

/-- Every course's entries are as R139 has them. -/
def Ledger.Tidy (l : Ledger) : Prop := ∀ c r, l.course c = some r → Entries r.entries

theorem tidy_of_courseLaw {s : State} (law : courseLaw s) : s.ledger.Tidy := fun c r live => by
  obtain ⟨-, few, apart, some_, -⟩ := law.2.2 c r live
  exact ⟨few, apart, some_⟩

/-- The books of a state are a ledger, its cabinets of the kinds that they have in another state. -/
structure Posted (s₀ : State) (l : Ledger) (s : State) : Prop where
  course : ∀ d, s.course? d = l.course d
  plates : ∀ y, s.ledger.plates y = l.plates y
  kinds : ∀ y, (s.cabinet? y).map (·.kind) = (s₀.cabinet? y).map (·.kind)

section
variable {s₀ s t : State} {l : Ledger}

theorem Posted.refl (s : State) : Posted s s.ledger s := ⟨fun _ => rfl, fun _ => rfl, fun _ => rfl⟩

theorem SameTable.plates (h : SameTable s t) (y : ZoneId) : t.ledger.plates y = s.ledger.plates y := by
  rw [ledger_plates, ledger_plates, h.stock.cabinets]
  simp only [h.ready]

theorem Posted.same (h : Posted s₀ l s) (table : SameTable s t) : Posted s₀ l t :=
  ⟨fun d => (table.course? d).trans (h.course d), fun y => (table.plates y).trans (h.plates y),
    fun y => by rw [table.stock.cabinets]; exact h.kinds y⟩

theorem ofKind_eq (kinds : ∀ y, (s.cabinet? y).map (·.kind) = (s₀.cabinet? y).map (·.kind)) (k : WareId) (zs : List ZoneId) :
    walkedBy s k zs = walkedBy s₀ k zs := by
  have same := ofKind_congr kinds k
  unfold walkedBy
  exact congrArg (fun p => List.filter p _) same

/-- A pass posts the ledger's pass. -/
theorem Posted.runPass (h : Posted s₀ l s) (tidy : l.Tidy) (c : CourseId) (deferred : Option ZoneId) (fired : Bool) :
    Posted s₀ (l.pass s₀ c) (runPass c deferred fired s) ∧ (l.pass s₀ c).Tidy := by
  unfold Ledger.pass
  cases live : l.course c with
  | none =>
    rw [runPass_of_free ((h.course c).trans live)]
    exact ⟨h, tidy⟩
  | some r =>
    have entries := tidy c r live
    have passed := runPass_passed ((h.course c).trans live) entries deferred fired
    have same : passEntries s r = entriesAfter l.plates (walkedBy s₀ r.kind r.cabinets) r.need r.entries := by
      rw [passEntries, ofKind_eq h.kinds, funext h.plates]
    rw [same] at passed
    have walk := walk_entriesAfter (walkedBy s₀ r.kind r.cabinets) l.plates r.need r.entries entries
    dsimp only
    generalize entriesAfter l.plates (walkedBy s₀ r.kind r.cabinets) r.need r.entries = es at passed walk
    refine ⟨⟨fun d => ?_, fun y => ?_, fun y => ?_⟩, fun d q found => ?_⟩
    · rw [passed.course, h.course]
    · change _ = l.plates y - (heldIn es y - heldIn r.entries y)
      rw [← h.plates, ledger_plates, ledger_plates, passed.cabinet]
      cases s.cabinet? y with
      | none => exact (Nat.zero_sub _).symm
      | some b =>
        simp only [Option.map_some, passed.ready]
        split
        · exact (Nat.sub_sub _ _ _).symm
        · exact (Nat.zero_sub _).symm
    · rw [passed.cabinet, Option.map_map]
      exact h.kinds y
    · dsimp only at found
      split at found
      · cases found
        exact walk.entries
      · exact tidy d q found

theorem listsCabinet_iff (h : Posted s₀ l s) (r : Course) (z : ZoneId) : listsCabinet s r z = true ↔
    (r.cabinets = [] ∧ (s₀.cabinet? z).any fun b => b.kind = some r.kind) ∨ z ∈ r.cabinets := by
  have kind := congrFun (ofKind_congr h.kinds r.kind) z
  unfold ofKind at kind
  unfold listsCabinet
  rw [← kind]
  cases cabinets : r.cabinets with
  | nil => cases s.cabinet? z <;> simp
  | cons y ys => simp

/-- A rerun posts the ledger's rerun. -/
theorem Posted.rerunCourse (h : Posted s₀ l s) (tidy : l.Tidy) (z : ZoneId) (c : CourseId) :
    Posted s₀ (l.rerun s₀ z c) (rerunCourse z s c) ∧ (l.rerun s₀ z c).Tidy := by
  unfold Ledger.rerun Machine.rerunCourse
  rw [h.course c]
  cases live : l.course c with
  | none => exact ⟨h, tidy⟩
  | some r =>
    dsimp only
    have lists := listsCabinet_iff h r z
    by_cases both : r.short = true ∧ ((r.cabinets = [] ∧ (s₀.cabinet? z).any fun b => b.kind = some r.kind) ∨ z ∈ r.cabinets)
    · rw [if_pos both, if_pos (by rw [both.1, lists.mpr both.2]; rfl)]
      exact h.runPass tidy c _ _
    · rw [if_neg both, if_neg fun now => both ?_]
      · exact ⟨h, tidy⟩
      · obtain ⟨short, listed⟩ := Bool.and_eq_true_iff.mp now
        exact ⟨short, lists.mp listed⟩

/-- The reruns of an event post the ledger's reruns. -/
theorem Posted.rerunCourses (h : Posted s₀ l s) (tidy : l.Tidy) (z : ZoneId) {order : List CourseId} (same : s.courses.order = order) :
    Posted s₀ (Ledger.reruns s₀ order l z) (rerunCourses z s) ∧ (Ledger.reruns s₀ order l z).Tidy := by
  unfold Machine.rerunCourses Ledger.reruns
  rw [same]
  clear same
  induction order generalizing s l with
  | nil => exact ⟨h, tidy⟩
  | cons c cs ih =>
    obtain ⟨next, tidy⟩ := h.rerunCourse tidy z c
    exact ih next tidy

/-- Passes one after another. -/
theorem Posted.runPasses (order : List CourseId) {s : State} {l : Ledger} (h : Posted s₀ l s) (tidy : l.Tidy) :
    Posted s₀ (order.foldl (Ledger.pass s₀) l) (order.foldl (fun s c => Machine.runPass c none false s) s) ∧
      (order.foldl (Ledger.pass s₀) l).Tidy := by
  induction order generalizing s l with
  | nil => exact ⟨h, tidy⟩
  | cons c cs ih =>
    obtain ⟨next, tidy⟩ := h.runPass tidy c none false
    exact ih next tidy

end

/-! ### The fire order (R137) -/

/-- The fire order is the same. -/
def SameOrder (s t : State) : Prop := t.courses.order = s.courses.order

theorem SameOrder.of_within {bs : List Block} {s t : State} (h : Within bs s t) (apart : Block.courses ∉ bs) : SameOrder s t := by
  rw [SameOrder, h.courses apart]

theorem order_setCourse (c : CourseId) (v : Option Course) (s : State) : SameOrder s (s.setCourse c v) := rfl

end Sys2Proof.Machine
end

section
/-! PROOF. What reports, restock tests, passes and reruns do to a zone's record: nothing but the reserved count of its cabinet, a READY zone's
standby timer, and the waking of a zone from STANDBY (R71, R72, R134); and what they leave of the Course Table. -/

namespace Sys2Proof.Machine

/-! ### Relations that passes are in -/

/-- A relation that the parts of a pass are in: it reserves in READY zones alone, and changes live courses alone (R139, R140). -/
structure PassOps (R : State → State → Prop) : Prop extends StockOps R where
  reserve : ∀ z c n s, s.cabinet? z = some c → s.zoneState z = .ready → R s (s.setCabinet z { c with reserved := n })
  course : ∀ c r r' s, s.course? c = some r → R s (s.setCourse c (some r'))

namespace PassOps

variable {R : State → State → Prop} (k : PassOps R)
include k

theorem changeCourse (c : CourseId) (f : Course → Course) (s : State) : R s (changeCourse c f s) := by
  unfold Machine.changeCourse
  split
  · next r live => exact k.course c r _ s live
  · exact k.refl s

theorem passAt (c : CourseId) (d : Option ZoneId) (s : State) (z : ZoneId) : R s (passAt c d s z) := by
  unfold Machine.passAt
  split
  · next r b live cabinet =>
    split
    · next can =>
      have ready : s.zoneState z = .ready := by
        simp only [canReserve, cabinet, Bool.and_eq_true, beq_iff_eq] at can
        exact can.1.1.1.2
      have reserved : ∀ n, R s (reservePlates z n s) := fun n => by
        rw [reservePlates, cabinet]
        exact k.trans (k.reserve z b _ s cabinet ready) (k.report z false _)
      dsimp only
      refine k.trans ?_ (k.changeCourse c _ _)
      split
      · exact reserved _
      · exact k.trans (reserved _) (k.testRestock z _)
    · exact k.refl s
  · exact k.refl s

theorem settleCourse (c : CourseId) (fired : Bool) (s : State) : R s (settleCourse c fired s) := by
  unfold Machine.settleCourse
  split
  · next r live =>
    have settled := fun b => k.course c r { r with short := b } s live
    dsimp only
    split
    · split
      · exact k.trans (settled _) (k.post _ _ _ _)
      split
      · exact k.trans (k.trans (settled _) (k.clear _ _ _)) (k.post _ _ _ _)
      · exact settled _
    · refine k.trans ?_ (k.fold _ k.wakeListed _ _)
      split
      · exact k.trans (k.trans (settled _) (k.raise _ _ _ _)) (k.post _ _ _ _)
      · exact settled _
  · exact k.refl s

theorem runPass (c : CourseId) (d : Option ZoneId) (fired : Bool) (s : State) : R s (runPass c d fired s) := by
  unfold Machine.runPass
  split
  · exact k.trans (k.fold _ (k.passAt c d) _ s) (k.settleCourse _ _ _)
  · exact k.refl s

theorem runPasses (cs : List CourseId) (s : State) : R s (cs.foldl (fun s c => Machine.runPass c none false s) s) :=
  k.fold _ (fun s c => k.runPass c none false s) cs s

theorem rerunCourse (z : ZoneId) (s : State) (c : CourseId) : R s (rerunCourse z s c) := by
  unfold Machine.rerunCourse
  split
  · split
    · exact k.runPass _ _ _ _
    · exact k.refl s
  · exact k.refl s

theorem rerunCourses (z : ZoneId) (s : State) : R s (rerunCourses z s) := k.fold _ (k.rerunCourse z) _ s

end PassOps

/-! ### The Course Table but for the courses' records (R137) -/

/-- The fire order is the same, and the live courses are the same ones. -/
structure SameSeats (s t : State) : Prop where
  order : t.courses.order = s.courses.order
  live : ∀ d, (t.course? d).isSome = (s.course? d).isSome

theorem SameSeats.of_courses {s t : State} (h : t.courses = s.courses) : SameSeats s t :=
  ⟨by rw [h], fun d => by rw [State.course?, h]; rfl⟩

theorem SameSeats.trans {s t u : State} (h : SameSeats s t) (k : SameSeats t u) : SameSeats s u :=
  ⟨k.order.trans h.order, fun d => (k.live d).trans (h.live d)⟩

theorem sameSeats_ops : PassOps SameSeats where
  refl s := .of_courses rfl
  trans := SameSeats.trans
  post k o v s := .of_courses rfl
  raise c g o s := .of_courses ((raise_touches _ _ _ _).within.courses (by simp))
  clear c o s := .of_courses ((clearEvent_touches _ _ _).within.courses (by simp))
  opened z t s _ _ := .of_courses rfl
  closed z s := .of_courses rfl
  woken z s := .of_courses rfl
  refresh z s := .of_courses ((refreshStandby_within z s).courses (by simp))
  wake z s _ := .of_courses ((moveZone_within z _ s).courses (by simp))
  reserve z c n s _ _ := .of_courses ((setCabinet_within z _ s).courses (by simp))
  course c r r' s live := ⟨rfl, fun d => by
    rw [setCourse_course?]
    split
    · next same => rw [same, live]; rfl
    · rfl⟩

/-! ### Zones that neither serve nor stand by -/

/-- A zone that is neither READY nor in STANDBY keeps its record. -/
def IdleKept (s t : State) : Prop := ∀ y, s.zoneState y ≠ .ready → s.zoneState y ≠ .standby → t.zones.get y = s.zones.get y

theorem IdleKept.of_zones {s t : State} (h : t.zones = s.zones) : IdleKept s t := fun y _ _ => by rw [h]

theorem IdleKept.of_others {z : ZoneId} {s t : State} (h : OthersKept z s t) (here : s.zoneState z = .ready ∨ s.zoneState z = .standby) :
    IdleKept s t := fun y ready standby => h y fun same => by
  subst same
  exact here.elim ready standby

theorem IdleKept.trans {s t u : State} (h : IdleKept s t) (k : IdleKept t u) : IdleKept s u := fun y ready standby => by
  have kept := h y ready standby
  have state : t.zoneState y = s.zoneState y := by rw [State.zoneState, kept]; rfl
  exact (k y (state ▸ ready) (state ▸ standby)).trans kept

theorem refreshStandby_of_away {z : ZoneId} {s : State} (away : s.zoneState z ≠ .ready) : refreshStandby z s = s := by
  unfold refreshStandby
  cases zone : s.zones.get z with
  | none => rfl
  | some r =>
    have state := zoneState_of zone
    dsimp only
    rw [if_neg fun now => away (state.trans now.2)]

theorem idleKept_ops : PassOps IdleKept where
  refl s := .of_zones rfl
  trans := IdleKept.trans
  post k o v s := .of_zones rfl
  raise c g o s := .of_zones ((raise_touches _ _ _ _).within.zones (by simp))
  clear c o s := .of_zones ((clearEvent_touches _ _ _).within.zones (by simp))
  opened z t s _ _ := .of_zones rfl
  closed z s := .of_zones rfl
  woken z s := .of_zones rfl
  refresh z s := by
    by_cases ready : s.zoneState z = .ready
    · exact .of_others (refreshStandby_others z s) (.inl ready)
    · rw [refreshStandby_of_away ready]
      exact .of_zones rfl
  wake z s standby := .of_others (moveZone_others z _ s) (.inr standby)
  reserve z c n s _ ready := .of_others (changeZone_others z _ s) (.inl ready)
  course c r r' s _ := .of_zones rfl

/-! ### What services do to a record -/

/-- A zone's record with another reserved count of its cabinet. -/
def Zone.reserving (r : Zone) (n : Nat) : Zone := { r with cabinet := r.cabinet.map fun b => { b with reserved := n } }

/-- A record after services: its reserved count, a READY zone's standby timer, and the waking from STANDBY. -/
def Serviced (r k : Zone) : Prop :=
  ∃ n, k = r.reserving n ∨ (r.state = .ready ∧ ∃ t, k = { r.reserving n with standbyTimer := t }) ∨
    (r.state = .standby ∧ k = (r.enter .preheat).reserving n)

theorem Zone.reserving_reserving (r : Zone) (m n : Nat) : (r.reserving m).reserving n = r.reserving n := by
  unfold Zone.reserving
  rw [Option.map_map]
  rfl

theorem Zone.reserving_self (r : Zone) : ∃ n, r.reserving n = r := by
  cases cabinet : r.cabinet with
  | none => exact ⟨0, by rw [Zone.reserving, cabinet]; cases r; cases cabinet; rfl⟩
  | some b => exact ⟨b.reserved, by rw [Zone.reserving, cabinet]; cases r; cases cabinet; rfl⟩

theorem Serviced.refl (r : Zone) : Serviced r r := by
  obtain ⟨n, same⟩ := r.reserving_self
  exact ⟨n, .inl same.symm⟩

theorem Zone.setActive_reserving (r : Zone) (n v : Nat) : (r.reserving n).setActive v = (r.setActive v).reserving n := by
  have same : (r.reserving n).active = r.active := rfl
  unfold Zone.setActive
  rw [same]
  split <;> rfl

theorem Zone.enter_reserving (r : Zone) (n : Nat) : (r.reserving n).enter .preheat = (r.enter .preheat).reserving n :=
  Zone.setActive_reserving { r with
    state := .preheat, soakTimer := none, recoverTimer := none, slowRaised := false, standbyTimer := none } n r.setpoint

theorem Serviced.state {r k : Zone} (h : Serviced r k) : k.state = r.state ∨ (r.state = .standby ∧ k.state = .preheat) := by
  obtain ⟨n, rfl | ⟨-, t, rfl⟩ | ⟨standby, rfl⟩⟩ := h
  · exact .inl rfl
  · exact .inl rfl
  · exact .inr ⟨standby, r.enter_state _⟩

theorem Serviced.trans {a b c : Zone} (h : Serviced a b) (k : Serviced b c) : Serviced a c := by
  obtain ⟨n, rfl | ⟨ready, t, rfl⟩ | ⟨standby, rfl⟩⟩ := h
  · obtain ⟨m, rfl | ⟨ready, t, rfl⟩ | ⟨standby, rfl⟩⟩ := k
    · exact ⟨m, .inl (a.reserving_reserving n m)⟩
    · exact ⟨m, .inr (.inl ⟨ready, t, by rw [a.reserving_reserving]⟩)⟩
    · exact ⟨m, .inr (.inr ⟨standby, by rw [a.enter_reserving, Zone.reserving_reserving]⟩)⟩
  · have twice : ∀ m, Zone.reserving { a.reserving n with standbyTimer := t } m = { a.reserving m with standbyTimer := t } := fun m => by
      rw [← a.reserving_reserving n m]
      rfl
    obtain ⟨m, rfl | ⟨-, u, rfl⟩ | ⟨standby, rfl⟩⟩ := k
    · exact ⟨m, .inr (.inl ⟨ready, t, twice m⟩)⟩
    · exact ⟨m, .inr (.inl ⟨ready, u, by rw [twice]⟩)⟩
    · exact absurd (ready.symm.trans standby) (by decide)
  · have preheat : ((a.enter .preheat).reserving n).state = .preheat := a.enter_state _
    obtain ⟨m, rfl | ⟨ready, u, rfl⟩ | ⟨standby', rfl⟩⟩ := k
    · exact ⟨m, .inr (.inr ⟨standby, Zone.reserving_reserving _ n m⟩)⟩
    · exact absurd (preheat.symm.trans ready) (by decide)
    · exact absurd (preheat.symm.trans standby') (by decide)

/-- Every zone's record is as services leave it. -/
structure AllServiced (s t : State) : Prop where
  record : ∀ z r, s.zones.get z = some r → ∃ k, t.zones.get z = some k ∧ Serviced r k
  undefined : ∀ z, s.zones.get z = none → t.zones.get z = none

theorem AllServiced.of_zones {s t : State} (h : t.zones = s.zones) : AllServiced s t :=
  ⟨fun z r zone => ⟨r, by rw [h, zone], .refl r⟩, fun z zone => by rw [h, zone]⟩

theorem AllServiced.trans {s t u : State} (h : AllServiced s t) (k : AllServiced t u) : AllServiced s u := by
  refine ⟨fun z r zone => ?_, fun z zone => k.undefined z (h.undefined z zone)⟩
  obtain ⟨r', zone', first⟩ := h.record z r zone
  obtain ⟨r'', zone'', second⟩ := k.record z r' zone'
  exact ⟨r'', zone'', first.trans second⟩

theorem AllServiced.setZone {s : State} {z : ZoneId} {r k : Zone} (zone : s.zones.get z = some r) (h : Serviced r k) :
    AllServiced s (s.setZone z k) := by
  refine ⟨fun y q here => ?_, fun y none_ => ?_⟩
  · rw [setZone_get]
    by_cases same : y = z
    · subst same
      cases zone.symm.trans here
      exact ⟨k, if_pos rfl, h⟩
    · exact ⟨q, by rw [if_neg same, here], .refl q⟩
  · rw [setZone_get, if_neg, none_]
    rintro rfl
    cases zone.symm.trans none_

theorem allServiced_ops : ServiceOps AllServiced where
  refl s := .of_zones rfl
  trans := AllServiced.trans
  post k o v s := .of_zones rfl
  raise c g o s := .of_zones ((raise_touches _ _ _ _).within.zones (by simp))
  clear c o s := .of_zones ((clearEvent_touches _ _ _).within.zones (by simp))
  opened z t s _ _ := .of_zones rfl
  closed z s := .of_zones rfl
  woken z s := .of_zones rfl
  refresh z s := by
    by_cases ready : s.zoneState z = .ready
    · rcases refreshStandby_eq z s with same | ⟨r, t, zone, set⟩
      · rw [same]
        exact .of_zones rfl
      · rw [set]
        obtain ⟨n, same⟩ := r.reserving_self
        exact .setZone zone ⟨n, .inr (.inl ⟨(zoneState_of zone).symm.trans ready, t, by rw [same]⟩)⟩
    · rw [refreshStandby_of_away ready]
      exact .of_zones rfl
  wake z s standby := by
    cases zone : s.zones.get z with
    | none =>
      rw [State.zoneState, zone] at standby
      cases standby
    | some r =>
      obtain ⟨n, same⟩ := (r.enter .preheat).reserving_self
      have set : (moveZone z .preheat s).zones = (s.setZone z (r.enter .preheat)).zones := by
        rw [moveZone_zones, changeZone_of zone]
      exact AllServiced.trans (.setZone zone ⟨n, .inr (.inr ⟨(zoneState_of zone).symm.trans standby, same.symm⟩)⟩) (.of_zones set)
  reserve z c n s cabinet := by
    obtain ⟨r, zone, -, its⟩ := cabinet?_eq_some.mp cabinet
    rw [setCabinet_eq zone]
    exact .setZone zone ⟨n, .inl (by rw [Zone.reserving, its]; rfl)⟩
  courses h := .of_zones h.zones

end Sys2Proof.Machine
end

section
/-! PROOF. The timers of a zone (R68, R69, R71): the expiry of the soak timer with the reruns at READY (R141), the recover timer's limit, and
the expiry of the standby timer. -/

namespace Sys2Proof.Machine

section
variable {z : ZoneId} {r : Zone} {s : State}

/-! ### Entry into READY -/

/-- The zone READY, its notice posted and its standby timer refreshed, before the reruns. -/
def readied (z : ZoneId) (s : State) : State := refreshStandby z (postZoneState z .ready (moveZone z .ready s))

theorem enterReady_eq (z : ZoneId) (s : State) :
    enterReady z s = if (s.cabinet? z).isSome then testRestock z (rerunCourses z (readied z s)) else readied z s := by
  have cabinet : (readied z s).cabinet? z = s.cabinet? z :=
    ((sameStock_ops.refresh z _).cabinets z).trans ((moveZone_stock z .ready s).cabinets z)
  rw [← cabinet]
  rfl

theorem readied_within (z : ZoneId) (s : State) : Within [.zones, .permit, .ports] s (readied z s) :=
  ((moveZone_within z .ready s).trans ((within_ports (moveZone z .ready s) _).mono (by decide))).trans ((refreshStandby_within z _).mono (by decide))

theorem readied_grown (z : ZoneId) (s : State) : Grown s (readied z s) :=
  ((moveZone_grown z .ready s).trans (post_grown _ _ _ _)).trans (grown_ops.refresh z _)

/-- The record of a zone that has entered READY, but for the standby timer and the reserved count. -/
theorem enterReady_record (zone : s.zones.get z = some r) : ∃ k, (enterReady z s).zones.get z = some k ∧
    k = { r.enter .ready with standbyTimer := k.standbyTimer, cabinet := k.cabinet } := by
  have entered : (postZoneState z .ready (moveZone z .ready s)).zones.get z = some (r.enter .ready) := by
    rw [postZoneState, post_zones, moveZone_of zone, Table.get_set_same]
  have served : AllServiced (postZoneState z .ready (moveZone z .ready s)) (enterReady z s) := by
    have k := allServiced_ops
    rw [enterReady_eq]
    split
    · exact (k.refresh z _).trans ((k.rerunCourses z _).trans (k.testRestock z _))
    · exact k.refresh z _
  obtain ⟨q, here, n, how⟩ := served.record z _ entered
  refine ⟨q, here, ?_⟩
  rcases how with rfl | ⟨-, t, rfl⟩ | ⟨standby, -⟩
  · rfl
  · rfl
  · exact absurd ((r.enter_state .ready).symm.trans standby) (by decide)

theorem enterReady_noticed (z : ZoneId) (s : State) : Noticed .zoneState z.val 3 s (enterReady z s) := by
  have posted : Noticed .zoneState z.val 3 s (postZoneState z .ready (moveZone z .ready s)) :=
    noticed_post .zoneState z.val 3 (fun p => (moveZone_grown z .ready s p).role)
      (congrArg TimeBase.clock ((moveZone_within z .ready s).time (by decide)))
  have k := grown_ops
  rw [enterReady_eq]
  split
  · exact posted.grown ((k.refresh z _).trans ((k.rerunCourses z _).trans (k.testRestock z _)))
  · exact posted.grown (k.refresh z _)

theorem enterReady_order (z : ZoneId) (s : State) : (enterReady z s).courses.order = s.courses.order := by
  have k := sameSeats_ops
  have readied := SameSeats.of_courses ((readied_within z s).courses (by decide))
  rw [enterReady_eq]
  split
  · exact (readied.trans ((k.rerunCourses z _).trans (k.testRestock z _))).order
  · exact readied.order

/-- The plates of a zone that becomes READY come to be available (R139). -/
theorem readied_posted {c : Cabinet} (cabinet : s.cabinet? z = some c) :
    Posted s { s.ledger with plates := fun y => if y = z then c.stock - c.reserved else s.ledger.plates y } (readied z s) := by
  obtain ⟨r, zone, -, -⟩ := cabinet?_eq_some.mp cabinet
  have cabinets : ∀ y, (readied z s).cabinet? y = s.cabinet? y := fun y =>
    ((sameStock_ops.refresh z _).cabinets y).trans ((moveZone_stock z .ready s).cabinets y)
  have state : (readied z s).zoneState z = .ready := by
    rw [readied, refreshStandby_zoneState]
    exact zoneState_entered (moveZone_of zone .ready)
  have others : ∀ y, y ≠ z → (readied z s).zoneState y = s.zoneState y := fun y other => by
    rw [readied, refreshStandby_zoneState, State.zoneState, postZoneState, post_zones, moveZone_others z .ready s y other]
    rfl
  refine ⟨fun d => ?_, fun y => ?_, fun y => by rw [cabinets]⟩
  · rw [State.course?, (readied_within z s).courses (by decide)]
    rfl
  · dsimp only
    rw [ledger_plates, cabinets]
    by_cases same : y = z
    · subst same
      rw [if_pos rfl, cabinet]
      exact if_pos state
    · rw [if_neg same, ledger_plates, others y same]

theorem enterReady_ledger {c : Cabinet} (cabinet : s.cabinet? z = some c) (law : courseLaw s) (d : CourseId) :
    (enterReady z s).course? d = (Ledger.reruns s s.courses.order
      { s.ledger with plates := fun y => if y = z then c.stock - c.reserved else s.ledger.plates y } z).course d := by
  have order : (readied z s).courses.order = s.courses.order := congrArg CourseTable.order ((readied_within z s).courses (by decide))
  have rerun := (readied_posted cabinet).rerunCourses (tidy_of_courseLaw law) z order
  rw [enterReady_eq, cabinet]
  exact (rerun.1.same (sameTable_ops.testRestock z _)).course d

/-! ### STANDBY -/

/-- A zone that enters STANDBY stays there, or is woken by the task that its restock test opens (R71, R72, R129). -/
theorem enterStandby_entry (zone : s.zones.get z = some r) : ∃ k, (enterQuietly z .standby s).zones = s.zones.set z (some k) ∧
    (k = r.enter .standby ∨ k = (r.enter .standby).enter .preheat) ∧ (s.task? z ≠ none → k = r.enter .standby) := by
  have zones := moveZone_of zone .standby
  have restock := (moveZone_within z .standby s).restock (by decide)
  unfold enterQuietly
  generalize moveZone z .standby s = u at zones restock
  have left : (testRestock z u).zones = u.zones → ∃ k, (testRestock z u).zones = s.zones.set z (some k) ∧
      (k = r.enter .standby ∨ k = (r.enter .standby).enter .preheat) ∧ (s.task? z ≠ none → k = r.enter .standby) := fun same =>
    ⟨_, same.trans zones, .inl rfl, fun _ => rfl⟩
  cases due : taskDue u z with
  | false => exact left (by rw [testRestock_of_not_due due])
  | true =>
    cases cabinet : u.cabinet? z with
    | none => rw [taskDue, cabinet] at due; cases due
    | some c =>
      obtain ⟨-, -, some_, -, free⟩ := (taskDue_of_cabinet cabinet).mp due
      obtain ⟨k, kind⟩ := Option.isSome_iff_exists.mp some_
      have free' : s.task? z = none := by
        rw [State.task?, ← restock]
        exact free
      have tested := testRestock_of_due cabinet kind due
      have opened := ((taskOpened_within z c k u).zones (by decide)).trans zones
      have standby : (taskOpened z c k u).zoneState z = .standby := zoneState_entered opened
      have reported : report z (openedTask z c k u).paged (taskOpened z c k u) =
          if (openedTask z c k u).paged then moveZone z .preheat (taskOpened z c k u) else taskOpened z c k u := by
        unfold report
        dsimp only
        rw [refreshStandby_of_away (by rw [standby]; decide), wakeStandby, if_pos standby]
      rw [reported] at tested
      cases paged : (openedTask z c k u).paged with
      | false =>
        rw [paged] at tested
        exact left (tested ▸ (opened.trans zones.symm))
      | true =>
        rw [paged] at tested
        have record : (taskOpened z c k u).zones.get z = some (r.enter .standby) := by rw [opened, Table.get_set_same]
        refine ⟨(r.enter .standby).enter .preheat, ?_, .inr rfl, fun busy => absurd free' busy⟩
        rw [tested, if_pos rfl, moveZone_of record, opened, Table.set_set]

end

/-- Settles O27. -/
theorem zoneTimersExpire : Obligations.ZoneTimersExpire := by
  intro z r s quiet zone
  refine ⟨fun idle => ?_, fun soak runs => ?_, fun idle => ?_, fun recover fresh => ?_, fun idle => ?_, fun ready runs => ?_⟩
  · rw [exec_quiet (f := soakExpiry z) rfl quiet, soakExpiry, zone]
    dsimp only
    rw [if_neg]
    simpa [Option.isSome_iff_ne_none] using idle
  · have run : soakExpiry z s = enterReady z s := by
      rw [soakExpiry, zone]
      exact if_pos ⟨soak, Option.isSome_iff_ne_none.mpr runs⟩
    obtain ⟨k, here, record⟩ := enterReady_record zone
    refine ⟨enterReady z s, k, ?_, enterReady_touches z s, here, record, enterReady_noticed z s, enterReady_order z s, fun none_ => ?_,
      fun c cabinet law => enterReady_ledger cabinet law⟩
    · rw [exec_quiet (f := soakExpiry z) rfl quiet, run]
    · rw [enterReady_eq, none_]
      exact (readied_within z s).courses (by decide)
  · rw [exec_quiet (f := recoverLimitReached z) rfl quiet, recoverLimitReached, zone]
    dsimp only
    rw [if_neg idle]
  · have run : recoverLimitReached z s = raise .zoneSlow r.group z.val
        (s.setZone z { r with recoverTimer := some (100 * r.recoverLimit), slowRaised := true }) := by
      rw [recoverLimitReached, zone]
      exact if_pos ⟨recover, fresh⟩
    refine ⟨_, exec_quiet (f := recoverLimitReached z) rfl quiet, ?_⟩
    rw [run]
    exact ⟨raise_touches _ _ _ _, raise_paged .zoneSlow r.group z.val _⟩
  · rw [exec_quiet (f := standbyExpiry z) rfl quiet, standbyExpiry, zone]
    dsimp only
    rw [if_neg]
    simpa [Option.isSome_iff_ne_none] using idle
  · have run : standbyExpiry z s = enterQuietly z .standby s := by
      rw [standbyExpiry, zone]
      exact if_pos ⟨ready, Option.isSome_iff_ne_none.mpr runs⟩
    obtain ⟨k, zones, how, busy⟩ := enterStandby_entry zone
    exact ⟨enterQuietly z .standby s, k, by rw [exec_quiet (f := standbyExpiry z) rfl quiet, run], enterQuietly_touches _ _ _, zones, how, busy⟩

end Sys2Proof.Machine
end

section
/-! PROOF. COURSE_FIRE (R138 to R140). -/

namespace Sys2Proof.Machine

/-! ### The page queue through passes (R155, R157) -/

/-- The page queue stays lawful. -/
def PagesKept (s t : State) : Prop := pageLaw s → pageLaw t

theorem PagesKept.of_desk {s t : State} (h : t.desk = s.desk) : PagesKept s t := (Fewer.of_desk h).law

theorem PagesKept.of_within {bs : List Block} {s t : State} (h : Within bs s t) (apart : Block.paging ∉ bs) : PagesKept s t :=
  .of_desk (h.desk apart)

theorem pagesKept_ops : PassOps PagesKept where
  refl _ := id
  trans h k law := k (h law)
  post k o v s := .of_desk (post_desk k o v s)
  raise c g o s law := pageLaw.raise law c g o
  clear c o s := (clearEvent_fewer c o s).law
  opened z t s _ _ := .of_desk rfl
  closed z s := .of_desk rfl
  woken z s := .of_desk rfl
  refresh z s := .of_within (refreshStandby_within z s) (by decide)
  wake z s _ := .of_within (moveZone_within z _ s) (by decide)
  reserve z c n s _ _ := .of_within (setCabinet_within z _ s) (by decide)
  course c r r' s _ := .of_desk rfl

section
variable {cause object : Nat} {s : State}

/-- A page of a cause stands, or the queue is full, behind a restock test. -/
theorem PagedOrFull.testRestock (h : PagedOrFull cause object s) (law : pageLaw s) (z : ZoneId) :
    PagedOrFull cause object (testRestock z s) := by
  cases due : taskDue s z with
  | false => rwa [testRestock_of_not_due due]
  | true =>
    cases cabinet : s.cabinet? z with
    | none => rw [taskDue, cabinet] at due; cases due
    | some c =>
      obtain ⟨-, -, some_, -⟩ := (taskDue_of_cabinet cabinet).mp due
      obtain ⟨k, kind⟩ := Option.isSome_iff_exists.mp some_
      rw [testRestock_of_due cabinet kind due]
      refine PagedOrFull.of_desk ?_ ((report_within z _ _).desk (by decide))
      unfold taskOpened
      refine PagedOrFull.of_desk ?_ (post_desk _ _ _ _)
      split
      · exact PagedOrFull.raise (s := { s with restock := s.restock ++ [openedTask z c k s] }) h law _ _ _
      · exact h

theorem PagedOrFull.wakeListed (h : PagedOrFull cause object s) (law : pageLaw s) (z : ZoneId) :
    PagedOrFull cause object (wakeListed s z) := by
  have woken : Within [.zones, .permit, .ports] s (wakeStandby z s) := wakeStandby_within z s
  unfold Machine.wakeListed
  split
  · exact (h.of_desk (woken.desk (by decide))).testRestock (PagesKept.of_within woken (by decide) law) z
  · exact h

theorem PagedOrFull.wakeAll (zs : List ZoneId) : ∀ s : State, PagedOrFull cause object s → pageLaw s →
    PagedOrFull cause object (zs.foldl Machine.wakeListed s) := by
  induction zs with
  | nil => exact fun _ h _ => h
  | cons z zs ih => exact fun s h law => ih _ (h.wakeListed law z) (pagesKept_ops.wakeListed s z law)

end

section
variable {c : CourseId} {r : Course} {s : State}

/-! ### The pass of a fire -/

theorem settleCourse_noticed (live : s.course? c = some r) :
    Noticed .courseState c.val (if 0 < r.need then 2 else 1) s (settleCourse c true s) := by
  unfold settleCourse
  rw [live]
  dsimp only
  by_cases needs : r.need = 0
  · rw [if_pos needs, if_neg (by omega)]
    exact noticed_post _ _ _ (fun _ => rfl) rfl
  · rw [if_neg needs, if_pos (by omega)]
    have posted : Noticed .courseState c.val 2 s (post .courseState c.val 2 (raise .courseShort r.group c.val
        (s.setCourse c (some { r with short := true })))) :=
      noticed_post _ _ _ (fun p => (raise_grown _ _ _ _ p).role) (congrArg TimeBase.clock ((raise_touches _ _ _ _).within.time (by decide)))
    exact posted.grown (grown_ops.toStockOps.fold _ grown_ops.wakeListed _ _)

theorem settleCourse_paged (live : s.course? c = some r) (needs : 0 < r.need) (law : pageLaw s) :
    PagedOrFull 32 c.val (settleCourse c true s) := by
  have lawful : pageLaw (raise .courseShort r.group c.val (s.setCourse c (some { r with short := true }))) :=
    pageLaw.raise (s := s.setCourse c (some { r with short := true })) law _ _ _
  have paged : PagedOrFull 32 c.val (raise .courseShort r.group c.val (s.setCourse c (some { r with short := true }))) :=
    raise_paged .courseShort r.group c.val _
  unfold settleCourse
  rw [live]
  dsimp only
  rw [if_neg (by omega)]
  exact PagedOrFull.wakeAll _ _ (paged.of_desk (post_desk _ _ _ _)) (PagesKept.of_desk (post_desk _ _ _ _) lawful)

/-- The pass of a fire posts how the course stands, and raises COURSE_SHORT where it has a need (R140). -/
theorem runPass_fired (live : s.course? c = some r) (entries : Entries r.entries) :
    let after : Course := { r with entries := passEntries s r }
    Noticed .courseState c.val (if 0 < after.need then 2 else 1) s (runPass c none true s) ∧
      (0 < after.need → pageLaw s → PagedOrFull 32 c.val (runPass c none true s)) := by
  intro after
  have walked := walk_reserved none (walkOf s r) s r live entries
  rw [walkOf_ofKind] at walked
  have now : ((walkOf s r).foldl (passAt c none) s).course? c = some after := walked.live
  have run : runPass c none true s = settleCourse c true ((walkOf s r).foldl (passAt c none) s) := by
    rw [runPass, live]
  have grown : Grown s ((walkOf s r).foldl (passAt c none) s) := grown_ops.toStockOps.fold _ (grown_ops.passAt c none) _ s
  have pages : PagesKept s ((walkOf s r).foldl (passAt c none) s) := pagesKept_ops.toStockOps.fold _ (pagesKept_ops.passAt c none) _ s
  have time : ((walkOf s r).foldl (passAt c none) s).time = s.time :=
    (foldl_related ServiceOnly.refl ServiceOnly.trans _ (passAt_touches c none) _ s).within.time (by decide)
  rw [run]
  exact ⟨(settleCourse_noticed now).from (fun p => (grown p).role) (congrArg TimeBase.clock time),
    fun needs law => settleCourse_paged now needs (pages law)⟩

end

/-! ### The command -/

theorem mapM_index?_val {n : Nat} (l : List (Fin n)) : (l.map (·.val)).mapM (index? n) = some l := by
  induction l with
  | nil => rfl
  | cons a l ih =>
    rw [List.map_cons, List.mapM_cons, index?_val, ih]
    rfl

theorem mapM_index?_eq_none {n : Nat} {l : List Nat} (h : ∃ x ∈ l, n ≤ x) : l.mapM (index? n) = none := by
  cases mapped : l.mapM (index? n) with
  | none => rfl
  | some r =>
    obtain ⟨x, mem, large⟩ := h
    have all := forall₂_of_mapM mapped
    exfalso
    clear mapped
    induction all with
    | nil => cases mem
    | cons first _ ih =>
      rcases List.mem_cons.mp mem with rfl | mem
      · rw [index?_eq_none_iff.mpr large] at first
        cases first
      · exact ih mem

theorem cabinetList?_val {cs : List ZoneId} (apart : cs.Nodup) (few : cs.length ≤ 6) : cabinetList? (cs.map (·.val)) = some cs := by
  rw [cabinetList?, if_neg, mapM_index?_val]
  rw [List.length_map, List.nodup_map_iff Fin.val_injective]
  exact not_or.mpr ⟨Nat.not_lt.mpr few, not_not.mpr apart⟩

theorem cabinetList?_eq_none {l : List Nat} (h : 6 < l.length ∨ ¬ l.Nodup ∨ ∃ x ∈ l, 31 < x) : cabinetList? l = none := by
  unfold cabinetList?
  split
  · rfl
  · next fits =>
    obtain ⟨few, apart⟩ := not_or.mp fits
    exact mapM_index?_eq_none ((h.resolve_left few).resolve_left apart)

theorem freeSlot_eq_some {c : CourseId} {s : State} (free : s.course? c = none) (lowest : ∀ b, b < c → s.course? b ≠ none) :
    freeSlot s = some c := by
  cases found : freeSlot s with
  | none => exact absurd free (by simpa using List.find?_eq_none.mp found c (List.mem_finRange c))
  | some d =>
    refine congrArg some (le_antisymm (not_lt.mp fun above => ?_) (not_lt.mp fun below => lowest d below (freeSlot_free found)))
    obtain ⟨-, i, hi, there, before⟩ := List.find?_eq_some_iff_getElem.mp found
    have at_ : d.val = i := by rw [← there]; simp [allCourses]
    have above' : c.val < d.val := above
    have early := before c.val (by omega)
    simp [allCourses, free] at early

section
variable {room kind covers group : Nat} {cabinets : List Nat} {s : State}

theorem courseFire_outOfRange (out : 63 < room ∨ 7 < kind ∨ covers < 1 ∨ 2000 < covers ∨ PageGroup.ofCode? group = none ∨
    6 < cabinets.length ∨ ¬ cabinets.Nodup ∨ ∃ x ∈ cabinets, 31 < x) : courseFire room kind covers group cabinets s = refuse .range s := by
  unfold courseFire
  split
  · next k g cs hk hg hcs =>
    have range : 63 < room ∨ covers < 1 ∨ 2000 < covers := by
      rcases out with far | far | few | many | unknown | list
      · exact .inl far
      · rw [index?_eq_none_iff.mpr far] at hk
        cases hk
      · exact .inr (.inl few)
      · exact .inr (.inr many)
      · rw [unknown] at hg
        cases hg
      · rw [cabinetList?_eq_none list] at hcs
        cases hcs
    exact if_pos range
  · rfl

/-- The course that a fire seats (R138). -/
def firedCourse (room : Nat) (k : WareId) (covers : Nat) (g : PageGroup) (cs : List ZoneId) (clock : Nat) : Course :=
  { short := false, room := room, kind := k, covers := covers, plated := 0, group := g, cabinets := cs, entries := [], fired := clock }

theorem courseFire_judged {k : WareId} {g : PageGroup} {cs : List ZoneId} (rooms : room ≤ 63) (some_ : 1 ≤ covers) (few : covers ≤ 2000)
    (grouped : PageGroup.ofCode? group = some g) (listed : cabinetList? cabinets = some cs) :
    courseFire room k.val covers group cabinets s =
      if (s.wares.get k).defined = false then refuse .notFound s
      else (freeSlot s).elim (refuse .full s) fun c =>
        reply (fireData c (runPass c none true (seatCourse c (firedCourse room k covers g cs s.time.clock) s)))
          (runPass c none true (seatCourse c (firedCourse room k covers g cs s.time.clock) s)) := by
  unfold courseFire
  rw [index?_val, grouped, listed]
  dsimp only
  rw [if_neg (by omega)]
  refine if_congr Iff.rfl rfl ?_
  cases freeSlot s <;> rfl

theorem fireData_eq {c : CourseId} {r : Course} (live : s.course? c = some r) : fireData c s =
    bigEndian 1 c.val ++ bigEndian 1 r.stateCode ++ bigEndian 2 r.totalReserved ++ bigEndian 2 r.need := by
  rw [fireData, live]

end

/-- Settles O39: the pass of the fire is the ledger's walk from no entries, and what R139 says of it is what the walk keeps. -/
theorem courseFireReserves : Obligations.CourseFireReserves := by
  intro t room covers group k g cs s judged rooms some_ few grouped apart listed cmd
  have body : ∀ a b d f l, exec (.courseFire t a b d f l) s = .next (placeAnswer t.port (courseFire a b d f l (heard t s))) :=
    fun a b d f l => by rw [exec_of_request (body := courseFire a b d f l) rfl, command_judged judged]
  have fire := courseFire_judged (s := heard t s) (k := k) rooms some_ few grouped (cabinetList?_val apart listed)
  have slots : freeSlot (heard t s) = freeSlot s := by simp [freeSlot, State.course?]
  rw [heard_wares, heard_time, slots] at fire
  refine ⟨fun a b d f l out => ?_, fun unknown => ?_, fun known full => ?_, fun known c free lowest => ?_⟩
  · rw [body, courseFire_outOfRange out]
    rfl
  · rw [body, fire, if_pos unknown]
    rfl
  · have none_ : freeSlot s = none := List.find?_eq_none.mpr fun c _ => by simpa [Option.isNone_iff_eq_none] using full c
    rw [body, fire, if_neg (by rw [known]; nofun), none_]
    rfl
  rw [freeSlot_eq_some free lowest, if_neg (by rw [known]; nofun), Option.elim_some] at fire
  have seated : ∀ d, (seatCourse c (firedCourse room k covers g cs s.time.clock) (heard t s)).course? d =
      if d = c then some (firedCourse room k covers g cs s.time.clock) else s.course? d := fun d => by
    refine (setCourse_course? (heard t s) c d _).trans ?_
    rw [State.course?, heard_courses]
    rfl
  have order : (seatCourse c (firedCourse room k covers g cs s.time.clock) (heard t s)).courses.order = s.courses.order ++ [c] := by
    change (heard t s).courses.order ++ [c] = _
    rw [heard_courses]
  have zones : (seatCourse c (firedCourse room k covers g cs s.time.clock) (heard t s)).zones = s.zones := heard_zones t s
  have wares : (seatCourse c (firedCourse room k covers g cs s.time.clock) (heard t s)).wares = s.wares := heard_wares t s
  have desk : (seatCourse c (firedCourse room k covers g cs s.time.clock) (heard t s)).desk = (heard t s).desk := rfl
  have clock : (seatCourse c (firedCourse room k covers g cs s.time.clock) (heard t s)).time.clock = s.time.clock :=
    congrArg TimeBase.clock (heard_time t s)
  have roles : ∀ p, ((seatCourse c (firedCourse room k covers g cs s.time.clock) (heard t s)).ports.get p).role = (s.ports.get p).role :=
    fun p => heard_role t s p
  have touched := (seatCourse_touches c (firedCourse room k covers g cs s.time.clock) (heard t s)).trans (runPass_touches c none true _)
  generalize seatCourse c (firedCourse room k covers g cs s.time.clock) (heard t s) = v at *
  have live := seated c
  rw [if_pos rfl] at live
  have tidy : Entries (firedCourse room k covers g cs s.time.clock).entries := ⟨Nat.zero_le _, List.nodup_nil, nofun⟩
  have passed := runPass_passed live tidy none true
  obtain ⟨noticed, paged⟩ := runPass_fired live tidy
  have cabinets : ∀ y, v.cabinet? y = s.cabinet? y := cabinet?_congr zones
  have states : ∀ y, v.zoneState y = s.zoneState y := zoneState_congr zones
  have plates : v.ledger.plates = s.ledger.plates := funext fun y => by rw [ledger_plates, ledger_plates, cabinets, states]
  have walked : walkedBy v k cs = walkedBy s k cs := ofKind_eq (fun y => by rw [cabinets]) k cs
  have same : passEntries v (firedCourse room k covers g cs s.time.clock) = entriesAfter s.ledger.plates (walkedBy s k cs) covers [] := by
    rw [passEntries, plates]
    change entriesAfter _ (walkedBy v k cs) _ _ = _
    rw [walked]
    rfl
  have walk := walk_entriesAfter (walkedBy s k cs) s.ledger.plates covers [] tidy
  rw [same] at passed noticed paged
  have available : ∀ z b, s.cabinet? z = some b → s.zoneState z = .ready → s.ledger.plates z = b.stock - b.reserved := fun z b cabinet ready => by
    rw [ledger_plates, cabinet]
    exact if_pos ready
  have inWalk : ∀ z, z ∈ walkedBy s k cs → (∃ b, s.cabinet? z = some b ∧ b.kind = some k) ∧ (cs = [] ∨ z ∈ cs) := fun z mem => by
    obtain ⟨there, kind⟩ := List.mem_filter.mp mem
    refine ⟨by simpa [Option.any_eq_true] using kind, ?_⟩
    split at there
    · next empty => exact .inl empty
    · exact .inr there
  generalize entriesAfter s.ledger.plates (walkedBy s k cs) covers [] = entries at *
  intro entries' total short
  have most : total ≤ covers := by
    have most := walk.most
    change total ≤ 0 + covers at most
    omega
  have need : ({ firedCourse room k covers g cs s.time.clock with entries := entries } : Course).need = covers - total := by
    change covers - 0 - total = _
    omega
  have isShort : short = decide (0 < covers - total) := decide_eq_decide.mpr (by omega)
  rw [need] at noticed paged
  have record : (runPass c none true v).course? c = some {
      short := short, room := room, kind := k, covers := covers, plated := 0, group := g, cabinets := cs, entries := entries
      fired := s.time.clock } := by
    rw [passed.course, if_pos rfl, need, ← isShort]
    rfl
  refine ⟨runPass c none true v, ?_, touched, passed.wares.trans wares, passed.order.trans order, record, most, walk.entries.few,
    walk.entries.apart, fun e mem => ?_, fun isShort_ room_ z mem ready b cabinet => ?_, fun z => ?_, fun d other => ?_, fun isShort_ law => ?_, ?_⟩
  · rw [body, fire]
    refine congrArg (fun d => (.next (answered t .ok d _) : Result)) ((fireData_eq record).trans ?_)
    have rest : covers - 0 - total = covers - total := by omega
    change _ ++ _ ++ bigEndian 2 total ++ bigEndian 2 (covers - 0 - total) = _
    rw [rest]
    rfl
  · rcases walk.onto e mem with ⟨d, there, -⟩ | ⟨there, plate⟩
    · cases there
    · obtain ⟨⟨b, cabinet, kind⟩, among⟩ := inWalk e.1 there
      obtain ⟨z, zone, warmer, its⟩ := cabinet?_eq_some.mp cabinet
      have ready : s.zoneState e.1 = .ready := by
        by_contra away
        rw [ledger_plates, cabinet] at plate
        dsimp only at plate
        rw [if_neg away] at plate
        omega
      have within := walk.within e.1
      have held := le_heldIn mem
      rw [available _ _ cabinet ready] at within
      change _ ≤ 0 + _ at within
      rw [Nat.zero_add] at within
      exact ⟨z, zone, b, its, warmer, (zoneState_of zone).symm.trans ready, kind, walk.entries.some e mem, held.trans within, among⟩
  · have used := walk.used (by
      have less : total < covers := of_decide_eq_true isShort_
      change total < 0 + covers
      omega) room_ z mem
    rw [passed.cabinet, cabinets] at cabinet
    obtain ⟨a, before, rfl⟩ := Option.map_eq_some_iff.mp cabinet
    rw [available z a before ready] at used
    change _ + 0 ≤ _ at used
    change a.stock ≤ a.reserved + (heldIn entries z - 0)
    omega
  · rw [passed.cabinet, cabinets]
    rfl
  · rw [passed.course, if_neg other, seated, if_neg other]
  · have less : total < covers := of_decide_eq_true isShort_
    exact paged (by omega) (PagesKept.of_desk desk ((heard_fewer t s).law law))
  · have said : (if short then 2 else 1) = if 0 < covers - total then 2 else 1 := by rw [isShort]; simp
    rw [said]
    exact noticed.from roles clock

end Sys2Proof.Machine
end

section
/-! PROOF. A zone leaves service, which its entries into OFF and FAULT share (R38, R66, R76): the record, the cuts, the minimums, the
program, the cabinet released with the passes that follow, and the task. -/

namespace Sys2Proof.Machine

/-! ### Leaving: the record, the minimums and the cuts -/

/-- A rack whose stage's zone leaves service (R104, R105). -/
def Rack.zeroedFor (line : DishLine) (z : ZoneId) (k : Rack) : Rack :=
  { k with
    washMin := if line.wash = some z ∧ k.stage = .wash then 0 else k.washMin
    rinseMin := if line.booster = some z ∧ k.stage = .rinse then some 0 else k.rinseMin }

theorem zeroMinimums_racks (z : ZoneId) (s : State) : (zeroMinimums z s).line.racks = s.line.racks.map (·.zeroedFor s.line z) := by
  have first : ∀ u : State, (if s.line.wash = some z then changeRacks .wash (fun r => { r with washMin := 0 }) u else u).line =
      { u.line with racks := u.line.racks.map fun k =>
        { k with washMin := if s.line.wash = some z ∧ k.stage = .wash then 0 else k.washMin } } := fun u => by
    by_cases wash : s.line.wash = some z
    · rw [if_pos wash]
      refine congrArg (fun l => { u.line with racks := l }) (List.map_congr_left fun k _ => ?_)
      by_cases stage : k.stage = .wash
      · simp only [wash, stage, true_and, if_true]
      · simp only [stage, and_false, if_false]
    · simp only [wash, false_and, if_false, List.map_id']
  have second : ∀ u : State, (if s.line.booster = some z then changeRacks .rinse (fun r => { r with rinseMin := some 0 }) u else u).line.racks =
      u.line.racks.map fun k => { k with rinseMin := if s.line.booster = some z ∧ k.stage = .rinse then some 0 else k.rinseMin } := fun u => by
    by_cases booster : s.line.booster = some z
    · rw [if_pos booster]
      refine List.map_congr_left fun k _ => ?_
      by_cases stage : k.stage = .rinse
      · simp only [booster, stage, true_and, if_true]
      · simp only [stage, and_false, if_false]
    · simp only [booster, false_and, if_false, List.map_id']
  have line := first s
  unfold zeroMinimums
  dsimp only
  have booster : (if s.line.wash = some z then changeRacks .wash (fun r => { r with washMin := 0 }) s else s).line.booster = s.line.booster := by
    rw [line]
  rw [booster, second, line, List.map_map]
  rfl

section
variable {z : ZoneId} {st : ZoneState} {r : Zone} {s : State}

theorem leaving_record (zone : s.zones.get z = some r) : (leaving z st s).zones = s.zones.set z (some (r.enter st)) := by
  rw [leaving_zones, changeZone_of zone]
  rfl

theorem leaving_line (z : ZoneId) (st : ZoneState) (s : State) :
    (leaving z st s).line.racks = s.line.racks.map (·.zeroedFor s.line z) := by
  have cut := (cutLoads_cut (zoneLoads (zeroMinimums z (moveZone z st s)) z) (zeroMinimums z (moveZone z st s))).placement
  have moved := moveZone_within z st s
  have settings := moved.lineSettings (by decide)
  obtain ⟨_, _, same⟩ := cut
  have wash : (moveZone z st s).line.wash = s.line.wash := by
    have same := congrArg DishLine.wash settings
    exact same
  have booster : (moveZone z st s).line.booster = s.line.booster := by
    have same := congrArg DishLine.booster settings
    exact same
  rw [leaving, same]
  change (zeroMinimums z (moveZone z st s)).line.racks = _
  rw [zeroMinimums_racks, moved.racks (by decide)]
  refine List.map_congr_left fun k _ => ?_
  rw [Rack.zeroedFor, Rack.zeroedFor, wash, booster]

theorem zoneLoads_left (zone : s.zones.get z = some r) : zoneLoads (zeroMinimums z (moveZone z st s)) z = r.loads := by
  have zones : (zeroMinimums z (moveZone z st s)).zones = s.zones.set z (some (r.enter st)) := by
    rw [(zeroMinimums_within z _).zones (by decide), moveZone_of zone]
  rw [zoneLoads, zones, Table.get_set_same]
  exact r.enter_loads st

theorem leaving_cut (zone : s.zones.get z = some r) : FrameCut (· ∈ r.loads) s (leaving z st s) ∧
    Cut (· ∈ r.loads) (zeroMinimums z (moveZone z st s)) (leaving z st s) := by
  have before : Within [.racks, .zones, .permit, .ports] s (zeroMinimums z (moveZone z st s)) :=
    ((moveZone_within z st s).mono (by decide)).trans ((zeroMinimums_within z _).mono (by decide))
  have cut := cutLoads_cut (zoneLoads (zeroMinimums z (moveZone z st s)) z) (zeroMinimums z (moveZone z st s))
  rw [zoneLoads_left zone] at cut
  have left : cutLoads r.loads (zeroMinimums z (moveZone z st s)) = leaving z st s := by rw [leaving, zoneLoads_left zone]
  rw [left] at cut
  refine ⟨?_, cut⟩
  have frame := cut.frame
  unfold FrameCut at frame ⊢
  rwa [before.loads (by decide), before.time (by decide), before.alloc (by decide)] at frame

theorem leaving_within (z : ZoneId) (st : ZoneState) (s : State) :
    Within [.loads, .alloc, .zones, .permit, .racks, .ports] s (leaving z st s) := by
  have cut := (cutLoads_cut (zoneLoads (zeroMinimums z (moveZone z st s)) z) (zeroMinimums z (moveZone z st s))).placement.within
  exact (((moveZone_within z st s).mono (by decide)).trans ((zeroMinimums_within z _).mono (by decide))).trans (cut.mono (by decide))

/-! ### The program's end (R91) -/

/-- The programs that end with an entry into OFF, and into FAULT. -/
def endsWithOff : ProgramState → Bool
  | .running | .held => true
  | .none | .loaded | .done | .aborted => false

def endsWithFault : ProgramState → Bool
  | .loaded | .running | .held => true
  | .none | .done | .aborted => false

/-- The program of a zone ended where its state is among some. -/
def endProgram (ends : ProgramState → Bool) (z : ZoneId) (s : State) : State := if ends (programState s z) then abortProgram z s else s

theorem endProgramOff_eq (z : ZoneId) : endProgramOff z = endProgram endsWithOff z := by
  funext s
  unfold endProgramOff endProgram
  cases programState s z <;> rfl

theorem endProgramFault_eq (z : ZoneId) : endProgramFault z = endProgram endsWithFault z := by
  funext s
  unfold endProgramFault endProgram
  cases programState s z <;> rfl

/-- A program ended where its state is among some (R90). -/
def Program.ended (ends : ProgramState → Bool) (g : Program) : Program :=
  if ends g.state then { g with state := .aborted, lastRun := g.current, timer := 0 } else g

/-- What the end of a program does beside the record. -/
structure ProgramEnds (ends : ProgramState → Bool) (z : ZoneId) (r : Zone) (s t : State) : Prop where
  zones : t.zones = s.zones.set z (some { r with program := r.program.map (Program.ended ends) })
  within : Within [.zones, .paging, .ports] s t
  grown : Grown s t
  desk : (∀ g ∈ r.program, g.state ≠ .held) → SameDesk s t

theorem endProgram_ends {ends : ProgramState → Bool} (idle : ends .none = false) (zone : s.zones.get z = some r) :
    ProgramEnds ends z r s (endProgram ends z s) := by
  have left : r.program.map (Program.ended ends) = r.program → endProgram ends z s = s → ProgramEnds ends z r s (endProgram ends z s) :=
    fun same eq => by
      rw [eq]
      refine ⟨?_, Within.refl _ s, Grown.refl s, fun _ => .refl s⟩
      rw [same, ← zone, Table.set_get]
  cases program : r.program with
  | none =>
    refine left (by rw [program]; rfl) ?_
    have state : programState s z = .none := by rw [programState, zone, Option.bind_some, program]
    rw [endProgram, state, idle]
    rfl
  | some g =>
    have state : programState s z = g.state := by rw [programState, zone, Option.bind_some, program]
    cases among : ends g.state with
    | false =>
      refine left (by rw [program, Option.map_some, Program.ended, among]; rfl) ?_
      rw [endProgram, state, among]
      rfl
    | true =>
      have eq : endProgram ends z s = abortProgram z s := by rw [endProgram, state, among, if_pos rfl]
      rw [eq, abortProgram_eq zone program]
      have set := (setZone_touches z { r with program := some { g with state := .aborted, lastRun := g.current, timer := 0 } } s)
      have stored : Within [.zones] s (s.setZone z { r with program := some { g with state := .aborted, lastRun := g.current, timer := 0 } }) :=
        within_zones s _
      have ended : r.program.map (Program.ended ends) = some { g with state := .aborted, lastRun := g.current, timer := 0 } := by
        rw [program, Option.map_some, Program.ended, among, if_pos rfl]
      refine ⟨?_, ?_, ?_, fun away => ?_⟩
      · rw [ended, post_zones]
        split
        · rw [(clearEvent_touches _ _ _).within.zones (by decide)]
          rfl
        · rfl
      · refine Within.trans ?_ ((post_touches _ _ _ _).within.mono (by decide))
        split
        · exact (stored.mono (by decide)).trans ((clearEvent_touches _ _ _).within.mono (by decide))
        · exact stored.mono (by decide)
      · refine Grown.trans ?_ (post_grown _ _ _ _)
        split
        · exact Grown.trans (.of_ports rfl) (clearEvent_grown _ _ (s.setZone z _))
        · exact .of_ports rfl
      · rw [if_neg (away g program)]
        exact ⟨rfl, rfl⟩

/-! ### The cabinet released (R126, R145) -/

theorem releaseCabinet_of_none (none_ : s.cabinet? z = none) : releaseCabinet z s = s := by rw [releaseCabinet, none_]

/-- The courses that hold an entry on a cabinet, in fire order. -/
def holdersOf (z : ZoneId) (s : State) : List CourseId := s.courses.order.filter (holdsEntry s z)

/-- The cabinet emptied of every reservation, before the passes that follow. -/
def unreserved (z : ZoneId) (b : Cabinet) (s : State) : State :=
  report z false (((holdersOf z s).foldl (removeEntry z) s).setCabinet z { b with reserved := 0 })

theorem releaseCabinet_of_some {b : Cabinet} (cabinet : s.cabinet? z = some b) :
    releaseCabinet z s = (holdersOf z s).foldl (fun s c => runPass c none false s) (unreserved z b s) := by
  rw [releaseCabinet, cabinet]
  rfl

theorem removeAll_zones (z : ZoneId) (cs : List CourseId) (s : State) : (cs.foldl (removeEntry z) s).zones = s.zones ∧
    SameSeats s (cs.foldl (removeEntry z) s) := by
  obtain ⟨slots, eq, each⟩ := removeEntries_eq z cs s
  rw [eq]
  refine ⟨rfl, rfl, fun d => ?_⟩
  change (slots.get d).isSome = _
  rw [each]
  split
  · exact Option.isSome_map
  · rfl

/-- What the release of a cabinet does to the zone's own record and to the seats, and that no task is opened by it. -/
theorem releaseCabinet_zone (zone : s.zones.get z = some r) (away : r.state ≠ .ready) (still : r.state ≠ .standby) :
    (releaseCabinet z s).zones.get z =
      some { r with cabinet := if r.kind = .warmer then r.cabinet.map fun c => { c with reserved := 0 } else r.cabinet } := by
  cases cabinet : s.cabinet? z with
  | none =>
    rw [releaseCabinet_of_none cabinet, zone]
    refine congrArg some ?_
    rw [State.cabinet?, zone] at cabinet
    dsimp only at cabinet
    split
    · next warmer =>
      rw [if_pos warmer] at cabinet
      rw [cabinet]
      cases r
      cases cabinet
      rfl
    · rfl
  | some b =>
    obtain ⟨q, zone', warmer, its⟩ := cabinet?_eq_some.mp cabinet
    cases zone.symm.trans zone'
    have removed := (removeAll_zones z (holdersOf z s) s).1
    have emptied : (unreserved z b s).zones.get z = some { r with cabinet := some { b with reserved := 0 } } := by
      have set : (((holdersOf z s).foldl (removeEntry z) s).setCabinet z { b with reserved := 0 }).zones.get z =
          some { r with cabinet := some { b with reserved := 0 } } := by
        rw [setCabinet_eq (by rw [removed]; exact zone), setZone_get, if_pos rfl]
      have state := zoneState_of set
      rw [unreserved, report_of_away (by rw [state]; exact away) (by rw [state]; exact still), set]
    have state := zoneState_of emptied
    rw [releaseCabinet_of_some cabinet, if_pos warmer, its, Option.map_some, ← emptied]
    exact idleKept_ops.runPasses (holdersOf z s) _ z (by rw [state]; exact away) (by rw [state]; exact still)

theorem unreserved_seats (z : ZoneId) (b : Cabinet) (s : State) : SameSeats s (unreserved z b s) :=
  ((removeAll_zones z _ s).2.trans (.of_courses ((setCabinet_within z _ _).courses (by decide)))).trans
    (.of_courses ((report_within z false _).courses (by decide)))

theorem releaseCabinet_seats (z : ZoneId) (s : State) : SameSeats s (releaseCabinet z s) := by
  cases cabinet : s.cabinet? z with
  | none =>
    rw [releaseCabinet_of_none cabinet]
    exact .of_courses rfl
  | some b =>
    rw [releaseCabinet_of_some cabinet]
    exact (unreserved_seats z b s).trans (sameSeats_ops.runPasses _ _)

/-! ### The task closed (R132) -/

theorem closeTask_of_none {how : TaskClosing} (none_ : s.task? z = none) : closeTask z how s = s := by rw [closeTask, none_]

theorem closeTask_restock (z : ZoneId) (how : TaskClosing) (s : State) :
    (closeTask z how s).restock = s.restock.filter fun t => t.cabinet ≠ z := by
  cases task : s.task? z with
  | none =>
    rw [closeTask_of_none task]
    refine (List.filter_eq_self.mpr fun t mem => ?_).symm
    simpa using List.find?_eq_none.mp task t mem
  | some t =>
    rw [closeTask, task]
    dsimp only
    rw [(report_within z false _).restock (by decide)]
    split
    · rw [(clearEvent_touches _ _ _).within.restock (by decide), post_restock]
    · rw [post_restock]

theorem closeTask_task? (z : ZoneId) (how : TaskClosing) (s : State) : (closeTask z how s).task? z = none := by
  rw [State.task?, closeTask_restock]
  refine List.find?_eq_none.mpr fun t mem => ?_
  simpa using (List.mem_filter.mp mem).2

end

end Sys2Proof.Machine
end

section
/-! PROOF. A zone out of service, whole (R38, R66, R76); ZONE_STOP and ZONE_CLEAR (R66, R77). -/

namespace Sys2Proof.Machine

section
variable {ends : ProgramState → Bool} {z : ZoneId} {st : ZoneState} {r : Zone} {s u : State}

/-! ### The passes of a release (R145) -/

/-- What the courses and the READY cabinets hold once every entry on a cabinet is released. -/
def releasedLedger (z : ZoneId) (s : State) : Ledger where
  course d := (s.course? d).map fun q => { q with entries := q.entries.filter fun e => e.1 ≠ z }
  plates y := if y = z then 0 else s.ledger.plates y

theorem releasedLedger_tidy (law : courseLaw s) : (releasedLedger z s).Tidy := fun c q live => by
  obtain ⟨r, live', rfl⟩ := Option.map_eq_some_iff.mp live
  exact ((tidy_of_courseLaw law c r live').remove z).1

theorem holdersOf_eq (courses : u.courses = s.courses) : holdersOf z u =
    s.courses.order.filter fun d => (s.course? d).any fun q => q.entries.any fun e => e.1 = z := by
  unfold holdersOf
  rw [courses]
  refine List.filter_congr fun d _ => ?_
  have same : u.course? d = s.course? d := by rw [State.course?, courses]; rfl
  rw [Bool.eq_iff_iff, holdsEntry_iff, same]
  simp [Option.any_eq_true]

/-- The release of a cabinet whose zone is out of service posts the ledger in which its entries are gone. -/
theorem unreserved_posted {b : Cabinet} (law : courseLaw s) (cabinet : s.cabinet? z = some b) (cabinets : ∀ y, u.cabinet? y = s.cabinet? y)
    (courses : u.courses = s.courses) (states : ∀ y, y ≠ z → u.zoneState y = s.zoneState y) (away : u.zoneState z ≠ .ready) :
    Posted s (releasedLedger z s) (unreserved z b u) := by
  obtain ⟨slots, eq, each⟩ := removeEntries_eq z (holdersOf z u) u
  have cabinet' : ((holdersOf z u).foldl (removeEntry z) u).cabinet? z = some b := by
    rw [eq]
    exact (cabinets z).trans cabinet
  have emptied : ∀ y, (unreserved z b u).cabinet? y = if y = z then some { b with reserved := 0 } else s.cabinet? y := fun y => by
    rw [unreserved, (sameStock_ops.report z false _).cabinets, setCabinet_cabinet? cabinet', eq]
    exact if_congr Iff.rfl rfl (cabinets y)
  have state : ∀ y, (unreserved z b u).zoneState y = u.zoneState y := fun y => by
    refine (refreshStandby_zoneState z y _).trans ((setCabinet_zoneState z y _ _).trans ?_)
    rw [eq]
    rfl
  refine ⟨fun d => ?_, fun y => ?_, fun y => ?_⟩
  · have kept : (unreserved z b u).course? d = ((holdersOf z u).foldl (removeEntry z) u).course? d := by
      rw [State.course?, unreserved, (report_within z false _).courses (by decide), (setCabinet_within z _ _).courses (by decide)]
      rfl
    have same : u.course? d = s.course? d := by rw [State.course?, courses]; rfl
    rw [kept, eq]
    change slots.get d = (s.course? d).map (Course.without z)
    rw [each, same]
    split
    · rfl
    · next out =>
      cases live : s.course? d with
      | none => rfl
      | some q =>
        refine congrArg some (Course.without_of_not_any ?_).symm
        by_contra any
        refine out (List.mem_filter.mpr ⟨?_, holdsEntry_iff.mpr ⟨q, same.trans live, by simpa using any⟩⟩)
        rw [courses]
        exact (law.2.1 d).mpr (by rw [live]; rfl)
  · change _ = if y = z then 0 else s.ledger.plates y
    rw [ledger_plates, emptied, state]
    by_cases here : y = z
    · subst here
      rw [if_pos rfl, if_pos rfl]
      exact if_neg away
    · rw [if_neg here, if_neg here, states y here, ledger_plates]
  · rw [emptied]
    split
    · next same => rw [same, cabinet]; rfl
    · rfl

theorem releaseCabinet_ledger {b : Cabinet} (law : courseLaw s) (cabinet : s.cabinet? z = some b) (cabinets : ∀ y, u.cabinet? y = s.cabinet? y)
    (courses : u.courses = s.courses) (states : ∀ y, y ≠ z → u.zoneState y = s.zoneState y) (away : u.zoneState z ≠ .ready) :
    Posted s ((s.courses.order.filter fun d => (s.course? d).any fun q => q.entries.any fun e => e.1 = z).foldl (Ledger.pass s)
      (releasedLedger z s)) (releaseCabinet z u) := by
  rw [releaseCabinet_of_some ((cabinets z).trans cabinet), holdersOf_eq courses]
  exact (Posted.runPasses _ (unreserved_posted law cabinet cabinets courses states away) (releasedLedger_tidy law)).1

/-! ### Out of service -/

/-- A zone out of service: OFF or in FAULT (R66, R76). -/
def ZoneState.outOfService (st : ZoneState) : Prop := st = .off ∨ st = .fault

theorem ZoneState.outOfService.away (h : st.outOfService) : st ≠ .ready ∧ st ≠ .standby := by
  rcases h with rfl | rfl <;> decide

/-- What leaving service does, whole (R38, R66, R76). -/
structure Departed (ends : ProgramState → Bool) (z : ZoneId) (st : ZoneState) (r : Zone) (s w : State) : Prop where
  zone : w.zones.get z = some { r.enter st with
    program := r.program.map (Program.ended ends)
    cabinet := if r.kind = .warmer then r.cabinet.map fun c => { c with reserved := 0 } else r.cabinet }
  served : AllServiced (s.setZone z { r.enter st with program := r.program.map (Program.ended ends) }) w
  touches : ZoneMoveOnly s w
  grown : Grown s w
  frame : FrameCut (· ∈ r.loads) s w
  bindings : ∀ n, (w.loads.get n).binding = (s.loads.get n).binding
  racks : w.line.racks = s.line.racks.map (·.zeroedFor s.line z)
  free : w.task? z = none
  wares : w.wares = s.wares
  seats : SameSeats s w
  courses : s.cabinet? z = none → w.courses = s.courses
  ledger : ∀ b, s.cabinet? z = some b → courseLaw s → ∀ d, w.course? d =
    ((s.courses.order.filter fun d => (s.course? d).any fun q => q.entries.any fun e => e.1 = z).foldl (Ledger.pass s) (releasedLedger z s)).course d
  desk : s.cabinet? z = none → s.task? z = none → (∀ g ∈ r.program, g.state ≠ .held) → SameDesk s w

theorem endProgram_touches (ends : ProgramState → Bool) (z : ZoneId) (s : State) : StockOnly s (endProgram ends z s) := by
  unfold endProgram
  split
  · exact abortProgram_touches z s
  · exact StockOnly.refl s

theorem leaveService_departed (gone : st.outOfService) (idle : ends .none = false) (zone : s.zones.get z = some r) :
    Departed ends z st r s (leaveService z st (endProgram ends z) s) := by
  have touches := leaveService_touches z st (endProgram ends z) (endProgram_touches ends z) s
  have left := leaving_record (st := st) zone
  have leftZone : (leaving z st s).zones.get z = some (r.enter st) := by rw [left, Table.get_set_same]
  have within := leaving_within z st s
  have cut := leaving_cut (st := st) zone
  have racks := leaving_line z st s
  have done := endProgram_ends (ends := ends) idle leftZone
  have endTouches := (endProgram_touches ends z (leaving z st s)).service
  have eq : leaveService z st (endProgram ends z) s = closeTask z .withdrawn (releaseCabinet z (endProgram ends z (leaving z st s))) := rfl
  rw [eq] at touches ⊢
  generalize bDef : endProgram ends z (leaving z st s) = b at *
  have program : (r.enter st).program = r.program := r.enter_program st
  have bZones : b.zones = s.zones.set z (some { r.enter st with program := r.program.map (Program.ended ends) }) := by
    rw [done.zones, left, Table.set_set, program]
  have bZone : b.zones.get z = some { r.enter st with program := r.program.map (Program.ended ends) } := by rw [bZones, Table.get_set_same]
  have bState : b.zoneState z = st := (zoneState_of bZone).trans (r.enter_state st)
  have bOther : ∀ y, y ≠ z → b.zones.get y = s.zones.get y := fun y other => by rw [bZones, Table.get_set_ne _ _ other]
  have bCourses : b.courses = s.courses := (done.within.courses (by decide)).trans (within.courses (by decide))
  have bRestock : b.restock = s.restock := (done.within.restock (by decide)).trans (within.restock (by decide))
  have bWares : b.wares = s.wares := (done.within.wares (by decide)).trans (within.wares (by decide))
  have bCabinets : ∀ y, b.cabinet? y = s.cabinet? y := fun y => by
    by_cases here : y = z
    · subst here
      rw [State.cabinet?, State.cabinet?, bZone, zone]
      simp only [Zone.enter_kind, Zone.enter_cabinet]
    · rw [State.cabinet?, bOther y here]
      rfl
  have bTask : b.task? z = s.task? z := by rw [State.task?, bRestock]; rfl
  have service : ServiceOnly b (closeTask z .withdrawn (releaseCabinet z b)) :=
    (releaseCabinet_touches z b).trans (closeTask_touches z .withdrawn _).service
  have whole := endTouches.trans service
  have released := releaseCabinet_zone (r := { r.enter st with program := r.program.map (Program.ended ends) }) bZone
    (by rw [show _ = st from r.enter_state st]; exact gone.away.1) (by rw [show _ = st from r.enter_state st]; exact gone.away.2)
  have releasedState : (releaseCabinet z b).zoneState z = st := (zoneState_of released).trans (r.enter_state st)
  have loads := whole.within.loads (by decide)
  have alloc := whole.within.alloc (by decide)
  refine ⟨?_, ?_, touches, ?_, ?_, fun n => ?_, ?_, closeTask_task? z _ _, ?_, ?_, fun none_ => ?_, fun c cabinet law d => ?_,
    fun none_ free away => ?_⟩
  · rw [idleKept_ops.closeTask z .withdrawn _ z (by rw [releasedState]; exact gone.away.1) (by rw [releasedState]; exact gone.away.2), released]
    simp only [Zone.enter_kind, Zone.enter_cabinet]
  · exact AllServiced.trans (.of_zones bZones)
      ((allServiced_ops.releaseCabinet z b).trans (allServiced_ops.closeTask z .withdrawn _))
  · exact ((leaving_grown z st s).trans done.grown).trans
      ((grown_ops.releaseCabinet z b).trans (grown_ops.closeTask z .withdrawn _))
  · have frame := cut.1
    unfold FrameCut at frame ⊢
    rwa [loads, alloc]
  · rw [loads, cut.2.binding, (zeroMinimums_within z _).loads (by decide), (moveZone_within z st s).loads (by decide)]
  · rw [whole.within.racks (by decide), racks]
  · rw [(closeTask_touches z .withdrawn _).within.wares (by decide), sameWares_ops.releaseCabinet z b, bWares]
  · exact (SameSeats.of_courses bCourses).trans ((releaseCabinet_seats z b).trans (sameSeats_ops.closeTask z .withdrawn _))
  · rw [(closeTask_touches z .withdrawn _).within.courses (by decide), releaseCabinet_of_none ((bCabinets z).trans none_), bCourses]
  · have posted := releaseCabinet_ledger law cabinet bCabinets bCourses
      (fun y other => by rw [State.zoneState, bOther y other]; rfl) (by rw [bState]; exact gone.away.1)
    exact (posted.same (sameTable_ops.closeTask z .withdrawn _)).course d
  · have desk := done.desk (by rw [program]; exact away)
    have leftDesk := leaving_desk z st s
    rw [releaseCabinet_of_none ((bCabinets z).trans none_), closeTask_of_none (bTask.trans free)]
    exact leftDesk.trans desk

end

end Sys2Proof.Machine
end

section
/-! PROOF. ZONE_STOP and ZONE_CLEAR (R66, R77): the entry into OFF. -/

namespace Sys2Proof.Machine

/-! ### The same books in two states -/

section
variable {s u : State}

theorem walkedBy_congr (cabinets : ∀ y, u.cabinet? y = s.cabinet? y) (k : WareId) (cs : List ZoneId) :
    walkedBy u k cs = walkedBy s k cs := ofKind_eq (fun y => by rw [cabinets]) k cs

theorem Ledger.pass_congr (cabinets : ∀ y, u.cabinet? y = s.cabinet? y) : Ledger.pass u = Ledger.pass s := by
  funext l c
  unfold Ledger.pass
  simp only [walkedBy_congr cabinets]

theorem Ledger.rerun_congr (cabinets : ∀ y, u.cabinet? y = s.cabinet? y) : Ledger.rerun u = Ledger.rerun s := by
  funext z l c
  unfold Ledger.rerun
  rw [Ledger.pass_congr cabinets, cabinets]

theorem ledger_congr (zones : u.zones = s.zones) (courses : u.courses = s.courses) : u.ledger = s.ledger := by
  have course : u.course? = s.course? := by funext d; rw [State.course?, courses]; rfl
  have plates : u.ledger.plates = s.ledger.plates := by
    funext y
    rw [ledger_plates, ledger_plates, cabinet?_congr zones, zoneState_congr zones]
  change Ledger.mk u.course? u.ledger.plates = _
  rw [course, plates]
  rfl

end

theorem courseLaw.of_courses {s u : State} (courses : u.courses = s.courses) (law : courseLaw s) : courseLaw u := by
  have course : u.course? = s.course? := by funext d; rw [State.course?, courses]; rfl
  unfold courseLaw
  rw [courses, course]
  exact law

section
variable {t : Transfer} {z : ZoneId} {r : Zone} {s u v w : State}

/-- A zone's entry into OFF is its leaving service, what the command does before the notice, and the notice. -/
theorem enterOff_eq (z : ZoneId) (f : State → State) (s : State) :
    enterOff z f s = post .zoneState z.val 0 (f (leaveService z .off (endProgram endsWithOff z) s)) := by
  rw [← endProgramOff_eq]
  rfl

theorem off_departed (zone : s.zones.get z = some r) :
    Departed endsWithOff z .off r s (leaveService z .off (endProgram endsWithOff z) s) :=
  leaveService_departed (.inl rfl) rfl zone

theorem endsWithOff_iff (st : ProgramState) : endsWithOff st = true ↔ st = .running ∨ st = .held := by cases st <;> decide

theorem ended_off : Program.ended endsWithOff = fun g : Program =>
    if g.state = .running ∨ g.state = .held then { g with state := .aborted, lastRun := g.current, timer := 0 } else g := by
  funext g
  exact if_congr (endsWithOff_iff g.state) rfl rfl

/-- A frame cut, told of the state in which the request came. -/
theorem FrameCut.of_heard {which : LoadId → Prop} (h : FrameCut which (heard t s) w) : FrameCut which s w := by
  unfold FrameCut at h ⊢
  rwa [heard_loads, heard_time, heard_alloc] at h

section
variable (departed : Departed endsWithOff z .off r (heard t s) u) (paging : PagingOnly u v)
include departed paging

/-- What the notice behind an entry into OFF leaves of leaving service. -/
theorem off_noticed (grown : Grown u v) : let w := post .zoneState z.val 0 v
    ZoneMoveOnly (heard t s) w ∧ FrameCut (fun n => n ∈ r.loads) s w ∧ w.task? z = none ∧ Noticed .zoneState z.val 0 s w ∧
      w.line.racks = s.line.racks.map (·.zeroedFor s.line z) ∧ w.zones = u.zones ∧ w.courses = u.courses := by
  have within := paging.within
  refine ⟨departed.touches.trans (paging.stock.service.zoneMove.trans (post_touches _ _ _ _).stock.service.zoneMove), ?_, ?_, ?_, ?_, ?_, ?_⟩
  · have frame := departed.frame.of_heard
    unfold FrameCut at frame ⊢
    rwa [post_loads, post_alloc, within.loads (by decide), within.alloc (by decide)]
  · rw [State.task?, post_restock, within.restock (by decide)]
    exact departed.free
  · exact noticed_post _ _ _ (fun p => (grown p).role.trans ((departed.grown p).role.trans (heard_role t s p)))
      (congrArg TimeBase.clock ((within.time (by decide)).trans ((departed.touches.within.time (by decide)).trans (heard_time t s))))
  · rw [post_line, within.racks (by decide), departed.racks, heard_line]
  · rw [post_zones, within.zones (by decide)]
  · rw [post_courses, within.courses (by decide)]

end

/-- What leaving service does to the Course Table, told of the state in which the request came (R145). -/
theorem Departed.books {ends : ProgramState → Bool} {st : ZoneState} (h : Departed ends z st r (heard t s) u) (same : w.courses = u.courses) :
    w.courses.order = s.courses.order ∧ (s.cabinet? z = none → w.courses = s.courses) ∧
      (s.cabinet? z ≠ none → courseLaw s → ∀ d, w.course? d =
        ((s.courses.order.filter fun d => (s.course? d).any fun q => q.entries.any fun e => e.1 = z).foldl (Ledger.pass s)
          (releasedLedger z s)).course d) := by
  have cabinets : ∀ y, (heard t s).cabinet? y = s.cabinet? y := cabinet?_congr (heard_zones t s)
  have course : (heard t s).course? = s.course? := by funext d; rw [State.course?, heard_courses]; rfl
  refine ⟨?_, fun none_ => ?_, fun some_ law d => ?_⟩
  · rw [same, h.seats.order, heard_courses]
  · rw [same, h.courses ((cabinets z).trans none_), heard_courses]
  · obtain ⟨b, cabinet⟩ := Option.ne_none_iff_exists'.mp some_
    have told := h.ledger b ((cabinets z).trans cabinet) (courseLaw.of_courses (heard_courses t s) law) d
    have released : releasedLedger z (heard t s) = releasedLedger z s := by
      unfold releasedLedger
      rw [course, ledger_congr (heard_zones t s) (heard_courses t s)]
    rw [Ledger.pass_congr cabinets, released, course, heard_courses] at told
    rw [← told, State.course?, same]
    rfl

end

/-- Settles O25: both commands leave service and post the notice; what becomes of the cabinet's courses is told by the ledger. -/
theorem stopAndClearEnterOff : Obligations.StopAndClearEnterOff := by
  intro t z r s judged
  have zone := judged.2
  have body : ∀ i body, meaning i = .request t kindRoles body → exec i s = .next (placeAnswer t.port (body (heard t s))) :=
    fun i body h => exec_zone h judged
  refine ⟨fun fault => ?_, fun off => ?_, fun unclear => ?_, ?_⟩
  · rw [body _ (zoneStop t.port z.val) rfl, zoneStop, withZone_judged judged, fault]
    rfl
  · rw [body _ (zoneStop t.port z.val) rfl, zoneStop, withZone_judged judged, off]
    rfl
  · rw [body _ (zoneClear t.port z.val) rfl, zoneClear, withZone_judged judged, if_neg]
    · rfl
    · exact fun ⟨fault, clean⟩ => unclear.elim (fun h => h fault) fun h => h clean
  have departed := off_departed (z := z) (s := heard t s) (r := r) (by rw [heard_zones]; exact zone)
  have cabinet := cabinet?_congr (heard_zones t s) z
  have task : (heard t s).task? z = s.task? z := by rw [State.task?, heard_restock]; rfl
  generalize uDef : leaveService z .off (endProgram endsWithOff z) (heard t s) = u at departed
  have entered : ∀ f : State → State, enterOff z f (heard t s) = post .zoneState z.val 0 (f u) := fun f => by rw [enterOff_eq, uDef]
  have desk : s.cabinet? z = none → s.task? z = none → (∀ g ∈ r.program, g.state ≠ .held) → u.desk = (heard t s).desk :=
    fun none_ free away => (departed.desk (cabinet.trans none_) (task.trans free) away).1
  have told : ∀ v, PagingOnly u v → Grown u v → _ := fun v paging grown => off_noticed departed paging grown
  rintro i (⟨rfl, sound, on⟩ | ⟨rfl, fault, clean⟩)
  · have run : zoneStop t.port z.val (heard t s) = accept (enterOff z id (heard t s)) := by
      rw [zoneStop, withZone_judged judged]
      cases state : r.state with
      | off => exact absurd state on
      | fault => exact absurd state sound
      | _ => rfl
    obtain ⟨touches, frame, free, noticed, racks, zones, courses⟩ := told u (PagingOnly.refl u) (Grown.refl u)
    obtain ⟨order, none_, ledger⟩ := departed.books courses
    refine ⟨post .zoneState z.val 0 u, ?_, touches, ?_, frame, free, noticed, racks, order, none_, ledger, u, departed.touches, desk,
      fun _ => rfl, nofun, nofun⟩
    · rw [body _ (zoneStop t.port z.val) rfl, run, entered]
      rfl
    · rw [zones, departed.zone, ended_off]
  · have run : zoneClear t.port z.val (heard t s) = accept (enterOff z (clearEvent r.faultCause.raised z.val) (heard t s)) := by
      rw [zoneClear, withZone_judged judged, if_pos ⟨fault, clean⟩]
    obtain ⟨touches, frame, free, noticed, racks, zones, courses⟩ :=
      told _ (clearEvent_touches r.faultCause.raised z.val u) (clearEvent_grown r.faultCause.raised z.val u)
    obtain ⟨order, none_, ledger⟩ := departed.books courses
    refine ⟨post .zoneState z.val 0 (clearEvent r.faultCause.raised z.val u), ?_, touches, ?_, frame, free, noticed, racks, order, none_,
      ledger, u, departed.touches, desk, nofun, fun _ cause => by rw [cause]; rfl, fun _ cause => ?_⟩
    · rw [body _ (zoneClear t.port z.val) rfl, run, entered]
      rfl
    · rw [zones, departed.zone, ended_off]
    · rcases cause with cause | cause <;> rw [cause] <;> rfl

end Sys2Proof.Machine
end

section
/-! PROOF. ZONE_DEFINE (R60, R61): its refusals in order, the record it leaves, the bindings and the reservations released. -/

namespace Sys2Proof.Machine

/-! ### The checks (R60) -/

theorem ZoneKind.ofCode?_code (k : ZoneKind) : ZoneKind.ofCode? k.code = some k := by cases k <;> rfl

theorem ZoneKind.ofCode?_large {n : Nat} (large : 3 < n) : ZoneKind.ofCode? n = none := by
  obtain ⟨m, rfl⟩ := Nat.exists_eq_add_of_lt large
  rw [show 3 + m + 1 = m + 4 by omega]
  rfl

theorem loadList?_val {loads : List LoadId} (apart : loads.Nodup) (some_ : 1 ≤ loads.length) (few : loads.length ≤ 4) :
    loadList? (loads.map (·.val)) = some loads := by
  rw [loadList?, if_neg, mapM_index?_val]
  rw [List.length_map, List.nodup_map_iff Fin.val_injective, not_or, not_or, not_not]
  exact ⟨Nat.not_lt.mpr some_, Nat.not_lt.mpr few, apart⟩

theorem loadList?_eq_none {l : List Nat} (h : l = [] ∨ 4 < l.length ∨ ¬ l.Nodup ∨ ∃ n ∈ l, 47 < n) : loadList? l = none := by
  unfold loadList?
  split
  · rfl
  · next fits =>
    rw [not_or, not_or, not_not] at fits
    obtain ⟨some_, few, apart⟩ := fits
    rcases h with rfl | many | twice | far
    · exact absurd Nat.zero_lt_one some_
    · exact absurd many few
    · exact absurd apart twice
    · exact mapM_index?_eq_none far

section
variable {p : PortId} {v : ZoneSettings} {z : ZoneId} {kind : ZoneKind} {channel : ChannelId} {loads : List LoadId} {group : PageGroup}
  {s : State}

/-- The rights that ZONE_DEFINE asks for: to the kind given, and to the kind that the zone has (R59). -/
theorem mayDefine_iff : mayDefine s p z kind = true ↔
    s.roleOf p = kind.commandedBy ∧ ∀ r ∈ s.zones.get z, s.roleOf p = r.kind.commandedBy := by
  unfold mayDefine
  cases s.zones.get z <;> simp

theorem zoneDefine_unnumbered (out : 31 < v.zone ∨ 3 < v.kind) : zoneDefine p v s = refuse .range s := by
  unfold zoneDefine
  rcases out with far | far
  · rw [index?_eq_none_iff.mpr far]
  · rw [ZoneKind.ofCode?_large far]
    cases index? 32 v.zone <;> rfl

section
variable (number : v.zone = z.val) (kinded : v.kind = kind.code)
include number kinded

theorem zoneDefine_denied (denied : mayDefine s p z kind = false) : zoneDefine p v s = refuse .denied s := by
  unfold zoneDefine
  rw [number, index?_val, kinded, ZoneKind.ofCode?_code]
  exact if_pos denied

theorem zoneDefine_outOfRange (may : mayDefine s p z kind = true) (out : 31 < v.channel ∨ loadList? v.loads = none ∨ 3 < v.level ∨
    PageGroup.ofCode? v.group = none ∨ 600 < v.soakTime ∨ v.recoverLimit < 10 ∨ 900 < v.recoverLimit) :
    zoneDefine p v s = refuse .range s := by
  unfold zoneDefine
  rw [number, index?_val, kinded, ZoneKind.ofCode?_code]
  dsimp only
  rw [if_neg (by rw [may]; nofun)]
  split
  · next channel loads group hc hl hg =>
    refine if_pos ?_
    rcases out with far | none_ | level | none_ | sizes
    · rw [index?_eq_none_iff.mpr far] at hc
      cases hc
    · rw [none_] at hl
      cases hl
    · exact .inl level
    · rw [none_] at hg
      cases hg
    · exact .inr sizes
  · rfl

section
variable (may : mayDefine s p z kind = true) (channeled : v.channel = channel.val) (listed : loadList? v.loads = some loads)
  (grouped : PageGroup.ofCode? v.group = some group)
  (sizes : v.level ≤ 3 ∧ v.soakTime ≤ 600 ∧ 10 ≤ v.recoverLimit ∧ v.recoverLimit ≤ 900)
include may channeled listed grouped sizes

theorem zoneDefine_conflict {why : Status} (conflict : defineConflict s z kind loads = some why) : zoneDefine p v s = refuse why s := by
  unfold zoneDefine
  rw [number, index?_val, kinded, ZoneKind.ofCode?_code]
  dsimp only
  rw [if_neg (by rw [may]; nofun), channeled, index?_val, listed, grouped]
  dsimp only
  rw [if_neg (by omega), conflict]

theorem zoneDefine_taken (free : defineConflict s z kind loads = none) :
    zoneDefine p v s = acceptClamped (zoneSettingsMoved v (definedZone p v kind channel loads group (s.zones.get z))) []
      (enterOff z id (rebind z loads (s.setZone z (definedZone p v kind channel loads group (s.zones.get z))))) := by
  unfold zoneDefine
  rw [number, index?_val, kinded, ZoneKind.ofCode?_code]
  dsimp only
  rw [if_neg (by rw [may]; nofun), channeled, index?_val, listed, grouped]
  dsimp only
  rw [if_neg (by omega), free]

end

end

/-! ### The checks on the zone as it stands (R60) -/

/-- A zone that is not OFF. -/
abbrev InService (s : State) (z : ZoneId) : Prop := ∃ r ∈ s.zones.get z, r.state ≠ .off

theorem defineConflict_inService (on : InService s z) : defineConflict s z kind loads = some .state := by
  obtain ⟨r, zone, away⟩ := on
  have any : ((s.zones.get z).any fun r => r.state != .off) = true := by
    rw [show s.zones.get z = some r from zone]
    simpa using away
  exact if_pos any

theorem stocked_iff : ((s.zones.get z).any fun r => r.kind == .warmer && kind != .warmer && r.cabinet.any fun c => decide (0 < c.stock)) = true ↔
    ∃ c ∈ s.cabinet? z, 0 < c.stock ∧ kind ≠ .warmer := by
  constructor
  · intro any
    obtain ⟨r, zone, its⟩ := (Option.any_eq_true _ _).mp any
    obtain ⟨both, full⟩ := Bool.and_eq_true_iff.mp its
    obtain ⟨warmer, other⟩ := Bool.and_eq_true_iff.mp both
    obtain ⟨c, cabinet, stock⟩ := (Option.any_eq_true _ _).mp full
    exact ⟨c, cabinet?_eq_some.mpr ⟨r, zone, by simpa using warmer, cabinet⟩, of_decide_eq_true stock, by simpa using other⟩
  · rintro ⟨c, cabinet, stock, other⟩
    obtain ⟨r, zone, warmer, its⟩ := cabinet?_eq_some.mp cabinet
    rw [zone, Option.any_some, warmer, its, Option.any_some, decide_eq_true stock]
    simpa using other

section
variable (off : ¬ InService s z)
include off

theorem not_any_inService : ¬ ((s.zones.get z).any fun r => r.state != .off) = true := by
  simpa [Option.any_eq_true] using off

theorem defineConflict_stocked (stocked : ∃ c ∈ s.cabinet? z, 0 < c.stock ∧ kind ≠ .warmer) :
    defineConflict s z kind loads = some .state := by
  unfold defineConflict
  rw [if_neg (not_any_inService off), if_pos (stocked_iff.mpr stocked)]

section
variable (unstocked : ¬ ∃ c ∈ s.cabinet? z, 0 < c.stock ∧ kind ≠ .warmer)
include unstocked

theorem defineConflict_eq : defineConflict s z kind loads =
    if (loads.any fun n => (s.loads.get n).binding != none && (s.loads.get n).binding != some z) = true then some .conflict else none := by
  unfold defineConflict
  rw [if_neg (not_any_inService off), if_neg fun h => unstocked (stocked_iff.mp h)]

theorem defineConflict_bound (bound : ∃ n ∈ loads, ∃ y ∈ (s.loads.get n).binding, y ≠ z) :
    defineConflict s z kind loads = some .conflict := by
  obtain ⟨n, mem, y, its, other⟩ := bound
  rw [defineConflict_eq off unstocked, if_pos]
  refine List.any_eq_true.mpr ⟨n, mem, ?_⟩
  rw [show (s.loads.get n).binding = some y from its]
  simpa using other

theorem defineConflict_free (free : ∀ n ∈ loads, ∀ y ∈ (s.loads.get n).binding, y = z) : defineConflict s z kind loads = none := by
  rw [defineConflict_eq off unstocked, if_neg]
  intro any
  obtain ⟨n, mem, bound⟩ := List.any_eq_true.mp any
  cases its : (s.loads.get n).binding with
  | none => rw [its] at bound; cases bound
  | some y =>
    have same := free n mem y its
    rw [its, same] at bound
    simp at bound

end

end

end

/-! ### The record and the bindings (R61) -/

section
variable {p : PortId} {v : ZoneSettings} {z : ZoneId} {kind : ZoneKind} {channel : ChannelId} {loads : List LoadId} {group : PageGroup}
  {s : State}

/-- A zone as ZONE_DEFINE leaves it is OFF already. -/
theorem definedZone_enter (old : Option Zone) :
    (definedZone p v kind channel loads group old).enter .off = definedZone p v kind channel loads group old := by
  simp [Zone.enter, Zone.setActive, Zone.setpointFor, definedZone]

theorem definedZone_program (old : Option Zone) : (definedZone p v kind channel loads group old).program.map (Program.ended endsWithOff) =
    (definedZone p v kind channel loads group old).program := by
  unfold definedZone
  dsimp only
  split
  · rfl
  · rfl

theorem zoneSettingsMoved_iff (old : Option Zone) : zoneSettingsMoved v (definedZone p v kind channel loads group old) =
    decide (clampTo kind.setpointRange.1 kind.setpointRange.2 v.setpoint ≠ v.setpoint ∨
      clampTo kind.setpointRange.1 kind.setpointRange.2 v.fallback ≠ v.fallback ∨
      (kind = .warmer ∧ clampTo 300 900 v.standby ≠ v.standby) ∨ clampTo 5 200 v.band ≠ v.band ∨
      clampTo 5 100 v.tolerance ≠ v.tolerance ∨ clampTo 50 500 v.margin ≠ v.margin) := by
  rw [Bool.eq_iff_iff]
  unfold zoneSettingsMoved definedZone ZoneKind.clampSetpoint
  by_cases warmer : kind = .warmer
  · simp [warmer, ZoneKind.setpointRange, or_assoc]
  · simp [warmer, or_assoc]

/-- The cabinet that a zone's definition leaves it: the one it had as a WARMER, or a fresh one. -/
theorem cabinetAfter_eq (kind : ZoneKind) : cabinetAfter (s.zones.get z) kind =
    if kind = .warmer then (if ∃ r ∈ s.zones.get z, r.kind = .warmer then s.cabinet? z else some Cabinet.fresh) else none := by
  unfold cabinetAfter
  refine if_congr Iff.rfl ?_ rfl
  unfold State.cabinet?
  cases s.zones.get z with
  | none => simp
  | some r =>
    by_cases warmer : r.kind = .warmer
    · simp [warmer]
    · simp [warmer]

theorem rebind_binding (n : LoadId) : ((rebind z loads s).loads.get n).binding =
    if n ∈ loads then some z else if (s.loads.get n).binding = some z then none else (s.loads.get n).binding := by
  rw [rebind, Table.get_build]
  dsimp only
  by_cases listed : n ∈ loads
  · rw [if_pos listed, if_pos listed]
  · rw [if_neg listed, if_neg listed]
    split <;> rfl

theorem rebind_touches (z : ZoneId) (loads : List LoadId) (s : State) : ZoneMoveOnly s (rebind z loads s) :=
  PlacementOnly.zoneMove ⟨_, s.alloc, rfl⟩

/-- A zone newly defined leaves service: its record, the bindings, and the notice. -/
theorem defined_entry {d : Zone} (off : d.enter .off = d) (fresh : d.program.map (Program.ended endsWithOff) = d.program) :
    let w := enterOff z id (rebind z loads (s.setZone z d))
    ZoneMoveOnly s w ∧
      w.zones.get z = some { d with cabinet := if d.kind = .warmer then d.cabinet.map fun c => { c with reserved := 0 } else d.cabinet } ∧
      (∀ n, (w.loads.get n).binding =
        if n ∈ loads then some z else if (s.loads.get n).binding = some z then none else (s.loads.get n).binding) ∧
      Noticed .zoneState z.val 0 s w := by
  have set : ZoneMoveOnly s (rebind z loads (s.setZone z d)) :=
    (setZone_touches z d s).service.zoneMove.trans (rebind_touches z loads _)
  have here : (rebind z loads (s.setZone z d)).zones.get z = some d := by
    change (s.setZone z d).zones.get z = _
    rw [setZone_get, if_pos rfl]
  have bound : ∀ n, ((rebind z loads (s.setZone z d)).loads.get n).binding =
      if n ∈ loads then some z else if (s.loads.get n).binding = some z then none else (s.loads.get n).binding :=
    fun n => rebind_binding n
  have roles : ∀ q, ((rebind z loads (s.setZone z d)).ports.get q).role = (s.ports.get q).role := fun _ => rfl
  dsimp only
  rw [enterOff_eq]
  generalize rebind z loads (s.setZone z d) = u at *
  have departed := off_departed here
  refine ⟨(set.trans departed.touches).trans (post_touches _ _ _ _).stock.service.zoneMove, ?_, fun n => ?_, ?_⟩
  · rw [post_zones]
    change (leaveService z .off (endProgram endsWithOff z) u).zones.get z = _
    rw [departed.zone, off, fresh]
  · rw [post_loads]
    exact (departed.bindings n).trans (bound n)
  · exact noticed_post _ _ _ (fun q => ((departed.grown q).role).trans (roles q))
      (congrArg TimeBase.clock ((departed.touches.within.time (by decide)).trans (set.within.time (by decide))))

end

/-- Settles O22. -/
theorem zoneDefineSetsRecordAndBindings : Obligations.ZoneDefineSetsRecordAndBindings := by
  have body : ∀ {t : Transfer} {roles : List Role} {s : State}, Judged t roles s → (∀ x ∈ roles, x ∈ kindRoles) → ∀ v,
      exec (.zoneDefine t v) s = .next (placeAnswer t.port (zoneDefine t.port v (heard t s))) := fun judged right v => by
    obtain ⟨quiet, taken, role, whole⟩ := judged
    rw [exec_of_request (body := zoneDefine _ v) rfl, command_judged ⟨quiet, taken, right _ role, whole⟩]
  constructor
  · intro t v s judged
    have run := body judged (fun x mem => mem) v
    have roleOf : (heard t s).roleOf t.port = (s.ports.get t.port).role := heard_role t s t.port
    refine ⟨fun out => ?_, fun z kind number kinded => ⟨fun denied => ?_, fun first second out => ?_⟩⟩
    · rw [run, zoneDefine_unnumbered out]
      rfl
    · rw [run, zoneDefine_denied number kinded]
      · rfl
      · rw [Bool.eq_false_iff, ne_eq, mayDefine_iff, roleOf, heard_zones]
        rintro ⟨kindly, present⟩
        rcases denied with other | ⟨r, zone, other⟩
        · exact other (List.mem_singleton.mpr kindly)
        · exact other (List.mem_singleton.mpr (present r zone))
    · rw [run, zoneDefine_outOfRange number kinded]
      · rfl
      · rw [mayDefine_iff, roleOf, heard_zones]
        exact ⟨List.mem_singleton.mp first, fun r zone => List.mem_singleton.mp (second r zone)⟩
      · rcases out with far | empty | many | twice | large | level | rest
        · exact .inl far
        · exact .inr (.inl (loadList?_eq_none (.inl empty)))
        · exact .inr (.inl (loadList?_eq_none (.inr (.inl many))))
        · exact .inr (.inl (loadList?_eq_none (.inr (.inr (.inl twice)))))
        · exact .inr (.inl (loadList?_eq_none (.inr (.inr (.inr large)))))
        · exact .inr (.inr (.inl level))
        · exact .inr (.inr (.inr rest))
  · intro t v z kind channel loads group s judged number kinded channeled listed apart size grouped sizes kinds
    have run := body judged (fun x mem => List.mem_singleton.mp mem ▸ kind.commandedBy_mem) v
    have role : (heard t s).roleOf t.port = kind.commandedBy := (heard_role t s t.port).trans (List.mem_singleton.mp judged.2.2.1)
    have may : mayDefine (heard t s) t.port z kind = true := by
      rw [mayDefine_iff, role, heard_zones]
      exact ⟨rfl, fun r zone => (kinds r zone).symm⟩
    have listed' : loadList? v.loads = some loads := by rw [listed]; exact loadList?_val apart size.1 size.2
    have cabinet : (heard t s).cabinet? z = s.cabinet? z := cabinet?_congr (heard_zones t s) z
    have refusal : ∀ why, defineConflict (heard t s) z kind loads = some why → exec (.zoneDefine t v) s = .next (refusedWith t why s) :=
      fun why conflict => by
        rw [run, zoneDefine_conflict number kinded may channeled listed' grouped sizes conflict]
        rfl
    refine ⟨fun on => refusal _ (defineConflict_inService (by rwa [InService, heard_zones])), fun off => ?_⟩
    have off' : ¬ InService (heard t s) z := by
      rw [InService, heard_zones]
      rintro ⟨r, zone, on⟩
      exact on (off r zone)
    refine ⟨fun stocked => refusal _ (defineConflict_stocked off' (by rwa [cabinet])), fun empty => ?_⟩
    have unstocked : ¬ ∃ c ∈ (heard t s).cabinet? z, 0 < c.stock ∧ kind ≠ .warmer := by
      rw [cabinet]
      rintro ⟨c, its, stock, other⟩
      exact other (empty c its stock)
    refine ⟨fun bound => refusal _ (defineConflict_bound off' unstocked (by rwa [heard_loads])), fun free => ?_⟩
    have taken := zoneDefine_taken number kinded may channeled listed' grouped sizes
      (defineConflict_free off' unstocked (by rwa [heard_loads]))
    intro within range sp fb moved kept
    obtain ⟨touches, record, bindings, noticed⟩ := defined_entry (z := z) (loads := loads) (s := heard t s)
      (definedZone_enter (p := t.port) (v := v) (kind := kind) (channel := channel) (loads := loads) (group := group)
        ((heard t s).zones.get z)) (definedZone_program _)
    refine ⟨_, ?_, touches, ?_, ?_, ?_⟩
    · rw [run, taken, zoneSettingsMoved_iff]
      rfl
    · have cabinets : (if kind = .warmer then (cabinetAfter ((heard t s).zones.get z) kind).map (fun c => { c with reserved := 0 })
          else cabinetAfter ((heard t s).zones.get z) kind) = if kind = .warmer then kept.map fun c => { c with reserved := 0 } else none := by
        rw [cabinetAfter_eq, cabinet, heard_zones]
        by_cases warmer : kind = .warmer
        · simp only [if_pos warmer]
          rfl
        · simp only [if_neg warmer]
      rw [record, ← cabinets]
      rfl
    · simpa only [heard_loads] using bindings
    · exact noticed.from (fun q => heard_role t s q) (congrArg TimeBase.clock (heard_time t s))

end Sys2Proof.Machine
end

section
/-! PROOF. Facts for the cabinets: what services leave of them, that the plates reserved are those that courses hold (R124), that
the reruns of an event leave its own cabinet's task to the test behind them (R141), and the close of a task (R132). -/

namespace Sys2Proof.Machine

/-! ### Cabinets after services -/

section
variable {s t u : State} {z : ZoneId}

theorem Serviced.cabinet {r k : Zone} (h : Serviced r k) : k.kind = r.kind ∧ ∃ n, k.cabinet = r.cabinet.map fun b => { b with reserved := n } := by
  obtain ⟨n, rfl | ⟨-, t, rfl⟩ | ⟨-, rfl⟩⟩ := h
  · exact ⟨rfl, n, rfl⟩
  · exact ⟨rfl, n, rfl⟩
  · exact ⟨r.enter_kind _, n, by rw [Zone.reserving, r.enter_cabinet]⟩

theorem AllServiced.cabinet (h : AllServiced s t) (y : ZoneId) : ∃ n, t.cabinet? y = (s.cabinet? y).map fun b => { b with reserved := n } := by
  unfold State.cabinet?
  cases zone : s.zones.get y with
  | none =>
    rw [h.undefined y zone]
    exact ⟨0, rfl⟩
  | some r =>
    obtain ⟨k, zone', how⟩ := h.record y r zone
    obtain ⟨kind, n, cabinet⟩ := how.cabinet
    rw [zone']
    dsimp only
    rw [kind, cabinet]
    refine ⟨n, ?_⟩
    split <;> rfl

theorem AllServiced.state (h : AllServiced s t) (y : ZoneId) :
    t.zoneState y = s.zoneState y ∨ (s.zoneState y = .standby ∧ t.zoneState y = .preheat) := by
  unfold State.zoneState
  cases zone : s.zones.get y with
  | none =>
    rw [h.undefined y zone]
    exact .inl rfl
  | some r =>
    obtain ⟨k, zone', how⟩ := h.record y r zone
    rw [zone']
    exact how.state

/-- Services neither take a zone out of service nor bring one back. -/
theorem AllServiced.inService (h : AllServiced s t) (y : ZoneId) :
    t.zoneState y ≠ .off ∧ t.zoneState y ≠ .fault ↔ s.zoneState y ≠ .off ∧ s.zoneState y ≠ .fault := by
  rcases h.state y with same | ⟨standby, preheat⟩
  · rw [same]
  · rw [standby, preheat]
    decide

/-! ### Reserved and held (R124) -/

/-- The entries are as R139 has them, and every cabinet has reserved what the courses hold on it. -/
structure Accounted (s : State) : Prop where
  entries : ∀ c r, s.course? c = some r → Entries r.entries
  held : ∀ y b, s.cabinet? y = some b → b.reserved = heldOn s y

theorem accounted_of_laws (cabinets : cabinetLaw s) (courses : courseLaw s) : Accounted s :=
  ⟨tidy_of_courseLaw courses, fun y b cabinet => (cabinets.1 y b cabinet).2.2.1⟩

theorem heldOn_congr (courses : ∀ d, t.course? d = s.course? d) (y : ZoneId) : heldOn t y = heldOn s y := by
  rw [heldOn_eq, heldOn_eq]
  exact Finset.sum_congr rfl fun d _ => by rw [courses]

theorem Accounted.same (h : Accounted s) (courses : ∀ d, t.course? d = s.course? d) (cabinets : ∀ y b, t.cabinet? y = some b →
    ∃ a, s.cabinet? y = some a ∧ b.reserved = a.reserved) : Accounted t := by
  refine ⟨fun c r live => h.entries c r ((courses c).symm.trans live), fun y b cabinet => ?_⟩
  obtain ⟨a, before, same⟩ := cabinets y b cabinet
  rw [same, h.held y a before, heldOn_congr courses]

theorem Accounted.table (h : Accounted s) (table : SameTable s t) : Accounted t :=
  h.same table.course? fun y b cabinet => ⟨b, (table.stock.cabinets y).symm.trans cabinet, rfl⟩

theorem Accounted.runPass (h : Accounted s) (c : CourseId) (deferred : Option ZoneId) (fired : Bool) :
    Accounted (runPass c deferred fired s) := by
  cases live : s.course? c with
  | none => rwa [runPass_of_free live]
  | some r =>
    have entries := h.entries c r live
    have passed := runPass_passed live entries deferred fired
    have walk : Walk s.ledger.plates (walkedBy s r.kind r.cabinets) r.need r.entries (passEntries s r) :=
      walk_entriesAfter _ _ _ _ entries
    generalize passEntries s r = es at passed walk
    refine ⟨fun d q there => ?_, fun y b cabinet => ?_⟩
    · rw [passed.course] at there
      split at there
      · cases there
        exact walk.entries
      · exact h.entries d q there
    · rw [passed.cabinet] at cabinet
      obtain ⟨a, before, rfl⟩ := Option.map_eq_some_iff.mp cabinet
      have change := sum_heldBy_of_differ (s := s) (t := Machine.runPass c deferred fired s) c
        (fun d other => by rw [passed.course, if_neg other]) y
      rw [passed.course, if_pos rfl, live, heldBy_some, heldBy_some] at change
      have held := h.held y a before
      have more := walk.more y
      rw [heldOn_eq] at held ⊢
      dsimp only at change ⊢
      omega

theorem Accounted.rerunCourse (h : Accounted s) (z : ZoneId) (c : CourseId) : Accounted (rerunCourse z s c) := by
  unfold Machine.rerunCourse
  split
  · split
    · exact h.runPass _ _ _
    · exact h
  · exact h

theorem Accounted.rerunCourses (h : Accounted s) (z : ZoneId) : Accounted (rerunCourses z s) := by
  have all : ∀ (cs : List CourseId) (u : State), Accounted u → Accounted (cs.foldl (Machine.rerunCourse z) u) := by
    intro cs
    induction cs with
    | nil => exact fun _ h => h
    | cons c cs ih => exact fun u h => ih _ (h.rerunCourse z c)
  exact all _ s h

/-! ### The deferred test (R141) -/

theorem testRestock_task?_other {y : ZoneId} (other : y ≠ z) (s : State) : (testRestock y s).task? z = s.task? z := by
  cases due : taskDue s y with
  | false => rw [testRestock_of_not_due due]
  | true =>
    cases cabinet : s.cabinet? y with
    | none => rw [taskDue, cabinet] at due; cases due
    | some c =>
      obtain ⟨-, -, some_, -⟩ := (taskDue_of_cabinet cabinet).mp due
      obtain ⟨k, kind⟩ := Option.isSome_iff_exists.mp some_
      have restock : (testRestock y s).restock = s.restock ++ [openedTask y c k s] := by
        rw [testRestock_of_due cabinet kind due, (report_within y _ _).restock (by decide), taskOpened, post_restock]
        split
        · rw [(raise_touches _ _ _ _).within.restock (by decide)]
        · rfl
      rw [State.task?, restock, List.find?_append]
      have its : [openedTask y c k s].find? (fun t => t.cabinet == z) = none := by
        have : (y == z) = false := by simpa using other
        rw [List.find?_singleton]
        exact if_neg (by rw [show (openedTask y c k s).cabinet = y from rfl, this]; nofun)
      rw [its, Option.or_none]
      rfl

/-- A cabinet without a task whose zone is not in STANDBY. -/
structure Untasked (z : ZoneId) (s : State) : Prop where
  task : s.task? z = none
  awake : s.zoneState z ≠ .standby

theorem Untasked.of_same (h : Untasked z s) (restock : t.restock = s.restock) (state : t.zoneState z = s.zoneState z) : Untasked z t :=
  ⟨by rw [State.task?, restock]; exact h.task, state ▸ h.awake⟩

theorem Untasked.other {y : ZoneId} (h : Untasked z s) (other : y ≠ z) : Untasked z (testRestock y s) := by
  refine ⟨(testRestock_task?_other other s).trans h.task, ?_⟩
  have kept := testRestock_others y s z (Ne.symm other)
  rw [State.zoneState, kept]
  exact h.awake

theorem Untasked.reserve (h : Untasked z s) (y : ZoneId) (n : Nat) : Untasked z (reservePlates y n s) := by
  unfold reservePlates
  split
  · next c cabinet =>
    refine h.of_same ?_ ?_
    · rw [(report_within y false _).restock (by decide), (setCabinet_within y _ s).restock (by decide)]
    · exact (refreshStandby_zoneState y z _).trans (setCabinet_zoneState y z _ s)
  · exact h

theorem Untasked.course (h : Untasked z s) (c : CourseId) (f : Course → Course) : Untasked z (changeCourse c f s) := by
  unfold changeCourse
  split
  · exact h.of_same rfl rfl
  · exact h

theorem Untasked.passAt (h : Untasked z s) (c : CourseId) (y : ZoneId) : Untasked z (passAt c (some z) s y) := by
  unfold Machine.passAt
  split
  · split
    · refine Untasked.course ?_ c _
      split
      · exact h.reserve y _
      · next other => exact (h.reserve y _).other fun same => other (congrArg some same.symm)
    · exact h
  · exact h

theorem Untasked.wakeListed (h : Untasked z s) (y : ZoneId) : Untasked z (wakeListed s y) := by
  unfold Machine.wakeListed
  split
  · next standby =>
    have other : y ≠ z := fun same => h.awake (same ▸ standby.1)
    refine Untasked.other (h.of_same ?_ ?_) other
    · exact (wakeStandby_within y s).restock (by decide)
    · unfold wakeStandby
      rw [if_pos standby.1, State.zoneState, moveZone_others y _ s z (Ne.symm other)]
      rfl
  · exact h

theorem Untasked.fold {α : Type} {f : State → α → State} (kept : ∀ s a, Untasked z s → Untasked z (f s a)) (l : List α) :
    ∀ s : State, Untasked z s → Untasked z (l.foldl f s) := by
  induction l with
  | nil => exact fun _ h => h
  | cons a l ih => exact fun s h => ih _ (kept s a h)

theorem Untasked.settleCourse (h : Untasked z s) (c : CourseId) (fired : Bool) : Untasked z (settleCourse c fired s) := by
  have raised : ∀ (r : Course), Untasked z (post .courseState c.val 2 (raise .courseShort r.group c.val
      (s.setCourse c (some { r with short := true })))) := fun r => by
    have within := (raise_touches .courseShort r.group c.val (s.setCourse c (some { r with short := true }))).within
    exact h.of_same (within.restock (by decide)) (zoneState_congr (within.zones (by decide)) z)
  unfold Machine.settleCourse
  split
  · next r live =>
    dsimp only
    split
    · split
      · exact h.of_same rfl rfl
      split
      · have within := (clearEvent_touches .courseShort c.val (s.setCourse c (some { r with short := false }))).within
        exact h.of_same (within.restock (by decide)) (zoneState_congr (within.zones (by decide)) z)
      · exact h.of_same rfl rfl
    · refine Untasked.fold (fun s y h => h.wakeListed y) _ _ ?_
      split
      · exact raised r
      · exact h.of_same rfl rfl
  · exact h

theorem Untasked.rerunCourses (h : Untasked z s) : Untasked z (rerunCourses z s) := by
  refine Untasked.fold (fun s c h => ?_) _ s h
  unfold Machine.rerunCourse
  split
  · split
    · unfold Machine.runPass
      split
      · exact (Untasked.fold (fun s y h => h.passAt c y) _ _ h).settleCourse c false
      · exact h
    · exact h
  · exact h

/-! ### The close of a task (R132, R135) -/

theorem closeTask_others (z : ZoneId) (how : TaskClosing) (s : State) : OthersKept z s (closeTask z how s) := by
  cases task : s.task? z with
  | none =>
    rw [closeTask_of_none task]
    exact .of_zones rfl
  | some t =>
    rw [closeTask, task]
    dsimp only
    refine OthersKept.trans (.of_zones ?_) (report_others z false _)
    split
    · rw [(clearEvent_touches _ _ _).within.zones (by decide)]
      rfl
    · rfl

theorem closeTask_noticed (how : TaskClosing) (open_ : s.task? z ≠ none) : Noticed .restockTask z.val how.value s (closeTask z how s) := by
  obtain ⟨t, task⟩ := Option.ne_none_iff_exists'.mp open_
  have posted : Noticed .restockTask z.val how.value s
      (post .restockTask z.val how.value { s with restock := s.restock.filter fun t => t.cabinet ≠ z }) :=
    noticed_post _ _ _ (fun _ => rfl) rfl
  rw [closeTask, task]
  dsimp only
  refine Noticed.grown ?_ (grown_ops.report z false _)
  split
  · exact posted.grown (clearEvent_grown _ _ _)
  · exact posted

theorem closeTask_state (y : ZoneId) (how : TaskClosing) (s : State) : (closeTask z how s).zoneState y = s.zoneState y := by
  cases task : s.task? z with
  | none => rw [closeTask_of_none task]
  | some t =>
    rw [closeTask, task]
    dsimp only
    refine (refreshStandby_zoneState z y _).trans ?_
    split
    · exact zoneState_congr ((clearEvent_touches _ _ _).within.zones (by decide)) y
    · rfl

end

end Sys2Proof.Machine
end

section
/-! PROOF. CABINET_SET and RESTOCK_CONFIRM (R125, R131). -/

namespace Sys2Proof.Machine

/-! ### CABINET_SET (R125) -/

section
variable {p : PortId} {z : ZoneId} {k : WareId} {capacity low high : Nat} {c : Cabinet} {r : Zone} {s u : State}

/-- The checks that CABINET_SET makes of a WARMER's cabinet, and what it then does. -/
def cabinetSetAt (z : ZoneId) (k : WareId) (capacity low high : Nat) (c : Cabinet) (s : State) : Answer :=
  if (s.wares.get k).defined = false then refuse .notFound s
  else if high ≤ low ∨ capacity < high then refuse .range s
  else if c.stock ≠ 0 ∧ c.kind ≠ some k then refuse .state s
  else if capacity < c.stock then refuse .state s
  else if c.kind = some k ∧ c.capacity = capacity ∧ c.low = low ∧ c.high = high then accept s
  else accept (testRestock z (report z false (closeTask z .withdrawn
    (s.setCabinet z { c with kind := some k, capacity := capacity, low := low, high := high }))))

theorem cabinetSet_eq (sizes : 1 ≤ capacity ∧ capacity ≤ 400 ∧ low ≤ 399 ∧ 1 ≤ high ∧ high ≤ 400) (zone : Nat) :
    cabinetSet p zone k.val capacity low high s = withZone p zone s fun z _ =>
      (s.cabinet? z).elim (refuse .state s) fun c => cabinetSetAt z k capacity low high c s := by
  unfold cabinetSet
  rw [index?_val]
  dsimp only
  rw [if_neg (by omega)]
  refine congrArg (withZone p zone s) (funext fun z => funext fun _ => ?_)
  cases s.cabinet? z <;> rfl

theorem cabinetSet_outOfRange {y i a b d : Nat} (out : 31 < y ∨ 7 < i ∨ a < 1 ∨ 400 < a ∨ 399 < b ∨ d < 1 ∨ 400 < d) :
    cabinetSet p y i a b d s = refuse .range s := by
  unfold cabinetSet
  split
  · rfl
  · next k known =>
    split
    · rfl
    · rcases out with far | far | sizes
      · exact withZone_outOfRange far p s _
      · rw [index?_eq_none_iff.mpr far] at known
        cases known
      · omega

/-- A cabinet set anew: its task is closed, its zone told and its restock test made. -/
theorem cabinet_replaced {b : Cabinet} (cabinet : s.cabinet? z = some c) :
    let w := testRestock z (report z false (closeTask z .withdrawn (s.setCabinet z b)))
    let rest := s.restock.filter fun q => q.cabinet ≠ z
    StockOnly s w ∧ w.cabinet? z = some b ∧ OthersKept z s w ∧ (s.task? z ≠ none → Noticed .restockTask z.val 3 s w) ∧
      (s.zoneState z = .off ∨ s.zoneState z = .fault → w.restock = rest) ∧
      (s.zoneState z ≠ .off → s.zoneState z ≠ .fault → TaskTest z b { s with restock := rest } w) := by
  have set := setCabinet_within z b s
  have stored : (s.setCabinet z b).cabinet? z = some b := by rw [setCabinet_cabinet? cabinet, if_pos rfl]
  have state : (s.setCabinet z b).zoneState z = s.zoneState z := setCabinet_zoneState z z b s
  have touches := setCabinet_touches z b s
  have others : OthersKept z s (s.setCabinet z b) := changeZone_others z _ s
  have ports : (s.setCabinet z b).ports = s.ports := set.ports (by decide)
  have time : (s.setCabinet z b).time = s.time := set.time (by decide)
  have restock : (s.setCabinet z b).restock = s.restock := set.restock (by decide)
  have wares : (s.setCabinet z b).wares = s.wares := set.wares (by decide)
  dsimp only
  generalize s.setCabinet z b = v at *
  have closing := closeTask_touches z .withdrawn v
  have grown := grown_ops.closeTask z .withdrawn v
  have closed : (closeTask z .withdrawn v).restock = s.restock.filter fun q => q.cabinet ≠ z := by rw [closeTask_restock, restock]
  have told := report_within z false (closeTask z .withdrawn v)
  have cab : (report z false (closeTask z .withdrawn v)).cabinet? z = some b :=
    ((sameStock_ops.report z false _).cabinets z).trans (((sameStock_ops.closeTask z .withdrawn v).cabinets z).trans stored)
  have zone : (report z false (closeTask z .withdrawn v)).zoneState z = s.zoneState z :=
    (refreshStandby_zoneState z z _).trans ((closeTask_state z .withdrawn v).trans state)
  refine ⟨touches.trans (closing.trans ((report_touches z false _).trans (testRestock_touches z _))),
    ((sameStock_ops.testRestock z _).cabinets z).trans cab, ?_, fun busy => ?_, fun away => ?_, fun on sound => ?_⟩
  · exact others.trans ((closeTask_others z .withdrawn v).trans ((report_others z false _).trans (testRestock_others z _)))
  · have task : v.task? z = s.task? z := by rw [State.task?, restock]; rfl
    have noticed : Noticed .restockTask z.val 3 v (closeTask z .withdrawn v) := closeTask_noticed .withdrawn (by rwa [task])
    exact (noticed.from (fun q => by rw [ports]) (congrArg TimeBase.clock time)).grown
      ((grown_ops.report z false _).trans (grown_ops.testRestock z _))
  · rw [testRestock_of_not_due, told.restock (by decide), closed]
    rw [Bool.eq_false_iff, ne_eq, taskDue_of_cabinet cab, zone]
    exact fun ⟨on, sound, _⟩ => away.elim on sound
  · refine (testRestock_tested cab (zone ▸ on) (zone ▸ sound)).from ?_ ?_ ?_ fun q => ?_
    · exact (told.wares (by decide)).trans ((closing.within.wares (by decide)).trans wares)
    · exact (told.restock (by decide)).trans closed
    · exact congrArg TimeBase.clock ((told.time (by decide)).trans ((closing.within.time (by decide)).trans time))
    · exact (grown_ops.report z false _ q).role.trans ((grown q).role.trans (by rw [ports]))

end

/-! ### RESTOCK_CONFIRM (R131) -/

section
variable {z : ZoneId} {n : Nat} {k : WareId} {c : Cabinet} {s : State}

theorem restockConfirm_outOfRange {y m : Nat} (out : 31 < y ∨ m < 1 ∨ 400 < m) : restockConfirm y m s = refuse .range s := by
  unfold restockConfirm
  split
  · rfl
  · next z number =>
    rcases out with far | sizes
    · rw [index?_eq_none_iff.mpr far] at number
      cases number
    · exact if_pos sizes

theorem restockConfirm_undefined (some_ : 1 ≤ n) (few : n ≤ 400) (undefined : s.zones.get z = none) :
    restockConfirm z.val n s = refuse .notFound s := by
  unfold restockConfirm
  rw [index?_val]
  dsimp only
  rw [if_neg (by omega), undefined]
  rfl

section
variable (some_ : 1 ≤ n) (few : n ≤ 400) (known : s.zones.get z ≠ none)
include some_ few known

theorem restockConfirm_unkind (unkind : ∀ c ∈ s.cabinet? z, c.kind = none) : restockConfirm z.val n s = refuse .state s := by
  unfold restockConfirm
  rw [index?_val]
  dsimp only
  rw [if_neg (by omega), if_neg (by simpa using known)]
  split
  · rfl
  · next c cabinet => rw [unkind c cabinet]

theorem restockConfirm_eq (cabinet : s.cabinet? z = some c) (kind : c.kind = some k) : restockConfirm z.val n s =
    if restockMove n (s.wares.get k) c = 0 then refuse .empty s
    else acceptClamped (restockMove n (s.wares.get k) c != n) (bigEndian 2 (restockMove n (s.wares.get k) c))
      (confirmRestock z k c (restockMove n (s.wares.get k) c) s) := by
  unfold restockConfirm
  rw [index?_val]
  dsimp only
  rw [if_neg (by omega), if_neg (by simpa using known), cabinet]
  dsimp only
  rw [kind]

end

/-- The plates of a RESTOCK_CONFIRM in their cabinet, its task still open. -/
def restocked (z : ZoneId) (k : WareId) (c : Cabinet) (m : Nat) (s : State) : State :=
  (s.setWare k { s.wares.get k with clean := (s.wares.get k).clean - m }).setCabinet z { c with stock := c.stock + m }

/-- The plates moved, the task closed and the zone told. -/
def restockTold (z : ZoneId) (k : WareId) (c : Cabinet) (m : Nat) (s : State) : State :=
  report z true (closeTask z .confirmed (restocked z k c m s))

theorem confirmRestock_eq (z : ZoneId) (k : WareId) (c : Cabinet) (m : Nat) (s : State) :
    confirmRestock z k c m s = testRestock z (rerunCourses z (restockTold z k c m s)) := rfl

section
variable (cabinet : s.cabinet? z = some c) (m : Nat)
include cabinet

/-- The books with the plates moved. -/
theorem restocked_books (k : WareId) : (∀ y, (restocked z k c m s).cabinet? y = if y = z then some { c with stock := c.stock + m } else s.cabinet? y) ∧
    (∀ y, (restocked z k c m s).zoneState y = s.zoneState y) ∧ (restocked z k c m s).courses = s.courses ∧
    (restocked z k c m s).restock = s.restock ∧ Grown s (restocked z k c m s) ∧ (restocked z k c m s).time = s.time ∧
    (restocked z k c m s).wares = s.wares.set k { s.wares.get k with clean := (s.wares.get k).clean - m } := by
  have set := setCabinet_within z { c with stock := c.stock + m }
    (s.setWare k { s.wares.get k with clean := (s.wares.get k).clean - m })
  exact ⟨setCabinet_cabinet? (s := s.setWare k { s.wares.get k with clean := (s.wares.get k).clean - m }) cabinet,
    fun y => setCabinet_zoneState z y _ _, set.courses (by decide), set.restock (by decide), .of_ports (set.ports (by decide)),
    set.time (by decide), set.wares (by decide)⟩

omit cabinet in
theorem restockTold_table (k : WareId) : SameTable (restocked z k c m s) (restockTold z k c m s) :=
  (sameTable_ops.closeTask z .confirmed _).trans (sameTable_ops.report z true _)

/-- The plates moved come to be available where the zone is READY. -/
theorem restockTold_posted (k : WareId) : Posted s { s.ledger with
    plates := fun y => if y = z ∧ s.zoneState z = .ready then c.stock + m - c.reserved else s.ledger.plates y } (restockTold z k c m s) := by
  obtain ⟨cabinets, states, courses, -⟩ := restocked_books cabinet m k
  refine Posted.same ⟨fun d => ?_, fun y => ?_, fun y => ?_⟩ (restockTold_table m k)
  · rw [State.course?, courses]
    rfl
  · dsimp only
    rw [ledger_plates, cabinets, states]
    by_cases here : y = z
    · subst here
      rw [if_pos rfl]
      dsimp only
      by_cases ready : s.zoneState y = .ready
      · rw [if_pos ready, if_pos ⟨rfl, ready⟩]
      · rw [if_neg ready, if_neg fun both => ready both.2, ledger_plates, cabinet]
        exact (if_neg ready).symm
    · rw [if_neg here, if_neg fun both => here both.1, ledger_plates]
  · rw [cabinets]
    split
    · next same => rw [same, cabinet]; rfl
    · rfl

omit cabinet in
theorem restockTold_untasked (k : WareId) : Untasked z (restockTold z k c m s) := by
  have closed : (closeTask z .confirmed (restocked z k c m s)).task? z = none := closeTask_task? z _ _
  have told := report_within z true (closeTask z .confirmed (restocked z k c m s))
  refine ⟨?_, ?_⟩
  · rw [State.task?, restockTold, told.restock (by decide)]
    exact closed
  · unfold restockTold report
    dsimp only
    rw [if_pos rfl]
    unfold wakeStandby
    split
    · next standby =>
      unfold State.zoneState at standby
      split at standby
      · next r zone =>
        rw [zoneState_entered (moveZone_of zone .preheat)]
        decide
      · cases standby
    · next awake => exact awake

/-- A RESTOCK_CONFIRM taken, in the books. -/
theorem confirmRestock_books (k : WareId) (law : courseLaw s) (d : CourseId) : (confirmRestock z k c m s).course? d =
    (Ledger.reruns s s.courses.order { s.ledger with
      plates := fun y => if y = z ∧ s.zoneState z = .ready then c.stock + m - c.reserved else s.ledger.plates y } z).course d := by
  obtain ⟨-, -, courses, -⟩ := restocked_books cabinet m k
  have order : (restockTold z k c m s).courses.order = s.courses.order := by rw [(restockTold_table m k).stock.courses, courses]
  have rerun := (restockTold_posted cabinet m k).rerunCourses (tidy_of_courseLaw law) z order
  rw [confirmRestock_eq]
  exact (rerun.1.same (sameTable_ops.testRestock z _)).course d

theorem confirmRestock_accounted (k : WareId) (h : Accounted s) : Accounted (confirmRestock z k c m s) := by
  obtain ⟨cabinets, -, courses, -⟩ := restocked_books cabinet m k
  have moved : Accounted (restocked z k c m s) := by
    refine h.same (fun d => by rw [State.course?, courses]; rfl) fun y b there => ?_
    rw [cabinets] at there
    split at there
    · next same =>
      cases there
      exact ⟨c, same ▸ cabinet, rfl⟩
    · exact ⟨b, there, rfl⟩
  rw [confirmRestock_eq]
  exact ((moved.table (restockTold_table m k)).rerunCourses z).table (sameTable_ops.testRestock z _)

omit cabinet in
theorem confirmRestock_served (k : WareId) : AllServiced (restocked z k c m s) (confirmRestock z k c m s) := by
  have o := allServiced_ops
  rw [confirmRestock_eq, restockTold]
  exact ((o.closeTask z .confirmed _).trans (o.report z true _)).trans ((o.rerunCourses z _).trans (o.testRestock z _))

/-- The restock test that ends a RESTOCK_CONFIRM. -/
theorem confirmRestock_tested {c' : Cabinet} (kind : c'.kind = some k) (after : (confirmRestock z k c m s).cabinet? z = some c') :
    let u := confirmRestock z k c m s
    let due := s.zoneState z ≠ .off ∧ s.zoneState z ≠ .fault ∧ c'.stock - c'.reserved < c'.low
    (¬ due → u.task? z = none) ∧
    (due → u.task? z = some {
        cabinet := z, kind := k, wanted := max 1 (c'.high - c'.stock), paged := decide (m < (s.wares.get k).clean)
        opened := s.time.clock } ∧
      (m < (s.wares.get k).clean → PagedOrFull 48 z.val u) ∧
      Noticed .restockTask z.val (if m < (s.wares.get k).clean then 1 else 0) s u) := by
  intro u due
  obtain ⟨-, states, -, -, grown, time, wares⟩ := restocked_books cabinet m k
  have o := allServiced_ops
  have served : AllServiced (restocked z k c m s) (rerunCourses z (restockTold z k c m s)) :=
    ((o.closeTask z .confirmed _).trans (o.report z true _)).trans (o.rerunCourses z _)
  have free : (rerunCourses z (restockTold z k c m s)).task? z = none := ((restockTold_untasked m k).rerunCourses).task
  have on := served.inService z
  rw [states] at on
  have cab : (rerunCourses z (restockTold z k c m s)).cabinet? z = some c' :=
    ((sameStock_ops.testRestock z _).cabinets z).symm.trans after
  have told := (closeTask_touches z .confirmed (restocked z k c m s)).trans (report_touches z true _)
  have whole : ServiceOnly (restocked z k c m s) (rerunCourses z (restockTold z k c m s)) := told.service.trans (rerunCourses_touches z _)
  have same : (rerunCourses z (restockTold z k c m s)).wares = (restocked z k c m s).wares :=
    ((sameWares_ops.rerunCourses z _).trans ((told.within.wares (by decide))))
  have clean : ((rerunCourses z (restockTold z k c m s)).wares.get k).clean = (s.wares.get k).clean - m := by
    rw [same, wares, Table.get_set_same]
  have clock : (rerunCourses z (restockTold z k c m s)).time.clock = s.time.clock :=
    congrArg TimeBase.clock ((whole.within.time (by decide)).trans time)
  have roles : ∀ p, ((rerunCourses z (restockTold z k c m s)).ports.get p).role = (s.ports.get p).role := fun p =>
    ((grown_ops.rerunCourses z _ p).role).trans (((grown_ops.report z true _ p).role).trans
      (((grown_ops.closeTask z .confirmed _ p).role).trans (grown p).role))
  have run : u = testRestock z (rerunCourses z (restockTold z k c m s)) := rfl
  clear_value u
  generalize rerunCourses z (restockTold z k c m s) = v at *
  have more : (1 ≤ (s.wares.get k).clean - m) = (m < (s.wares.get k).clean) := propext (by omega)
  by_cases low : due
  · refine ⟨fun not_ => absurd low not_, fun _ => ?_⟩
    obtain ⟨here, sound, below⟩ := low
    obtain ⟨here', sound'⟩ := on.mpr ⟨here, sound⟩
    have tested := testRestock_tested cab here' sound'
    rw [← run] at tested
    unfold TaskTest at tested
    rw [kind] at tested
    dsimp only at tested
    rw [if_pos ⟨below, free⟩, clean, clock] at tested
    simp only [more] at tested
    obtain ⟨restock, paged, noticed⟩ := tested
    refine ⟨?_, fun enough => paged (decide_eq_true enough), ?_⟩
    · rw [State.task?, restock, List.find?_append]
      rw [State.task?] at free
      rw [free, Option.none_or, List.find?_singleton]
      exact if_pos (by simp)
    · simp only [decide_eq_true_eq] at noticed
      exact noticed.from roles clock
  · refine ⟨fun _ => ?_, fun yes => absurd yes low⟩
    have idle : testRestock z v = v := by
      refine testRestock_of_not_due ?_
      rw [Bool.eq_false_iff, ne_eq, taskDue_of_cabinet cab]
      rintro ⟨here, sound, -, below, -⟩
      obtain ⟨here', sound'⟩ := on.mp ⟨here, sound⟩
      exact low ⟨here', sound', below⟩
    rw [run, idle]
    exact free

theorem confirmRestock_noticed (k : WareId) (busy : s.task? z ≠ none) : Noticed .restockTask z.val 2 s (confirmRestock z k c m s) := by
  obtain ⟨-, -, -, restock, grown, time, -⟩ := restocked_books cabinet m k
  have task : (restocked z k c m s).task? z = s.task? z := by rw [State.task?, restock]; rfl
  have noticed : Noticed .restockTask z.val 2 (restocked z k c m s) (closeTask z .confirmed (restocked z k c m s)) :=
    closeTask_noticed .confirmed (by rwa [task])
  rw [confirmRestock_eq, restockTold]
  exact (noticed.from (fun p => (grown p).role) (congrArg TimeBase.clock time)).grown
    ((grown_ops.report z true _).trans ((grown_ops.rerunCourses z _).trans (grown_ops.testRestock z _)))

theorem confirmRestock_wares (k : WareId) : (confirmRestock z k c m s).wares =
    s.wares.set k { s.wares.get k with clean := (s.wares.get k).clean - m } := by
  obtain ⟨-, -, -, -, -, -, wares⟩ := restocked_books cabinet m k
  have o := sameWares_ops
  have same : SameWares (restocked z k c m s) (confirmRestock z k c m s) :=
    o.trans (o.trans (o.closeTask z .confirmed _) (o.report z true _)) (o.trans (o.rerunCourses z _) (o.testRestock z _))
  exact same.trans wares

theorem confirmRestock_order (k : WareId) : (confirmRestock z k c m s).courses.order = s.courses.order := by
  obtain ⟨-, -, courses, -⟩ := restocked_books cabinet m k
  have o := sameSeats_ops
  have same : SameSeats (restocked z k c m s) (confirmRestock z k c m s) :=
    o.trans (o.trans (o.closeTask z .confirmed _) (o.report z true _)) (o.trans (o.rerunCourses z _) (o.testRestock z _))
  rw [same.order, courses]

end

end

/-- Settles O38. -/
theorem cabinetsAreSetAndRestocked : Obligations.CabinetsAreSetAndRestocked := by
  constructor
  · intro t z r c k capacity low high s judged cabinet sizes cmd
    have body : ∀ y i a b d, exec (.cabinetSet t y i a b d) s = .next (placeAnswer t.port (cabinetSet t.port y i a b d (heard t s))) :=
      fun y i a b d => exec_zone (body := cabinetSet t.port y i a b d) rfl judged
    have role : (heard t s).roleOf t.port = r.kind.commandedBy := (heard_role t s t.port).trans (List.mem_singleton.mp judged.1.2.2.1)
    have cabinets : ∀ y, (heard t s).cabinet? y = s.cabinet? y := cabinet?_congr (heard_zones t s)
    have run : exec cmd s = .next (placeAnswer t.port (cabinetSetAt z k capacity low high c (heard t s))) := by
      rw [body, cabinetSet_eq sizes, withZone_judged judged, cabinets, cabinet]
      rfl
    refine ⟨fun y i a b d out => ?_, fun y undefined => ?_, fun y v zone denied => ?_, fun y v zone same none_ => ?_, ?_⟩
    · rw [body, cabinetSet_outOfRange out]
      rfl
    · rw [body, cabinetSet_eq sizes, withZone_undefined (by rwa [heard_zones])]
      rfl
    · rw [body, cabinetSet_eq sizes, withZone_denied (r := v) (by rwa [heard_zones])]
      · rfl
      · exact fun right => denied (List.mem_singleton.mpr ((heard_role t s t.port).symm.trans right))
    · have judged' : ZoneJudged t y v s := ⟨⟨judged.1.1, judged.1.2.1, same ▸ judged.1.2.2.1, judged.1.2.2.2⟩, zone⟩
      rw [body, cabinetSet_eq sizes, withZone_judged judged', cabinets, none_]
      rfl
    intro ordered holds same
    have state : (heard t s).zoneState z = s.zoneState z := zoneState_congr (heard_zones t s) z
    have zone : s.zoneState z = r.state := zoneState_of judged.2
    unfold cabinetSetAt at run
    rw [heard_wares] at run
    refine ⟨fun unknown => ?_, fun known => ⟨fun disordered => ?_, fun inOrder unfit => ?_, fun inOrder fits already => ?_,
      fun inOrder fits anew => ?_⟩⟩
    · rw [run, if_pos unknown]
      rfl
    all_goals rw [if_neg (by rw [known]; nofun)] at run
    · rw [run, if_pos (by omega)]
      rfl
    all_goals rw [if_neg (by omega)] at run
    · rw [run]
      by_cases other : c.stock ≠ 0 ∧ c.kind ≠ some k
      · rw [if_pos other]
        rfl
      · rw [if_neg other, if_pos]
        · rfl
        · rw [not_and_or, not_not, not_not] at other
          by_contra room
          exact unfit ⟨other, Nat.not_lt.mp room⟩
    all_goals
      rw [if_neg (fun other => fits.1.elim other.1 other.2), if_neg (Nat.not_lt.mpr fits.2)] at run
    · rw [run, if_pos already]
      rfl
    · rw [if_neg anew] at run
      obtain ⟨touches, stored, others, noticed, left, tested⟩ := cabinet_replaced (s := heard t s) (z := z) (c := c)
        (b := { c with kind := some k, capacity := capacity, low := low, high := high }) ((cabinets z).trans cabinet)
      have task : (heard t s).task? z = s.task? z := by rw [State.task?, heard_restock]; rfl
      rw [state, zone, heard_restock] at left tested
      refine ⟨_, run.trans rfl, touches, stored, fun y other => (others y other).trans (by rw [heard_zones]), fun busy => ?_, left,
        fun on sound => ?_⟩
      · exact (noticed (by rwa [task])).from (fun q => heard_role t s q) (congrArg TimeBase.clock (heard_time t s))
      · exact (tested on sound).from (heard_wares t s) rfl (congrArg TimeBase.clock (heard_time t s)) fun q => heard_role t s q
  · intro t z n s judged some_ few
    have body : ∀ y m, exec (.restockConfirm t y m) s = .next (placeAnswer t.port (restockConfirm y m (heard t s))) :=
      fun y m => by rw [exec_of_request (body := restockConfirm y m) rfl, command_judged judged]
    have cabinets : ∀ y, (heard t s).cabinet? y = s.cabinet? y := cabinet?_congr (heard_zones t s)
    have states : ∀ y, (heard t s).zoneState y = s.zoneState y := zoneState_congr (heard_zones t s)
    have course : ∀ d, (heard t s).course? d = s.course? d := fun d => by rw [State.course?, heard_courses]; rfl
    have zones : (heard t s).zones.get z = s.zones.get z := by rw [heard_zones]
    refine ⟨fun y m out => ?_, fun undefined => ?_, fun known unkind => ?_, ?_⟩
    · rw [body, restockConfirm_outOfRange out]
      rfl
    · rw [body, restockConfirm_undefined some_ few (zones.trans undefined)]
      rfl
    · rw [body, restockConfirm_unkind some_ few (by rwa [zones]) (by rwa [cabinets])]
      rfl
    intro c k cabinet kind w m
    have known : (heard t s).zones.get z ≠ none := by
      obtain ⟨r, zone, -⟩ := cabinet?_eq_some.mp cabinet
      rw [zones, zone]
      nofun
    have cab : (heard t s).cabinet? z = some c := (cabinets z).trans cabinet
    have run := restockConfirm_eq some_ few known cab kind
    rw [heard_wares] at run
    change _ = if m = 0 then _ else acceptClamped (m != n) (bigEndian 2 m) (confirmRestock z k c m (heard t s)) at run
    refine ⟨fun nothing => ?_, fun plates => ?_⟩
    · rw [body, run, if_pos nothing]
      rfl
    rw [if_neg plates] at run
    have less : m ≤ n := min_le_left _ _
    clear_value m
    have moved : (m != n) = decide (m < n) := by
      rw [Bool.eq_iff_iff]
      simp
      omega
    have served := confirmRestock_served (c := c) (s := heard t s) (z := z) m k
    obtain ⟨restockedCabinets, -⟩ := restocked_books cab m k
    obtain ⟨reserved, after⟩ := served.cabinet z
    rw [restockedCabinets, if_pos rfl, Option.map_some] at after
    have wares : (heard t s).wares = s.wares := heard_wares t s
    have clock : (heard t s).time.clock = s.time.clock := congrArg TimeBase.clock (heard_time t s)
    have roles : ∀ q, ((heard t s).ports.get q).role = (s.ports.get q).role := heard_role t s
    have courses : (heard t s).courses = s.courses := heard_courses t s
    have task : (heard t s).task? z = s.task? z := by rw [State.task?, heard_restock]; rfl
    have tested := confirmRestock_tested cab m (k := k) (c' := { c with stock := c.stock + m, reserved := reserved }) kind after
    rw [states, wares, clock] at tested
    refine ⟨confirmRestock z k c m (heard t s), ?_, confirmRestock_touches z k c m _, ?_, ⟨_, after, rfl, fun cabLaw crsLaw => ?_, tested.1,
      fun due => ?_⟩, ?_, fun law d => ?_, fun y c' other there => ?_, fun busy => ?_⟩
    · rw [body, run, moved]
      rfl
    · rw [confirmRestock_wares cab, wares]
    · have accounted : Accounted (heard t s) :=
        (accounted_of_laws cabLaw crsLaw).same course fun y b there => ⟨b, (cabinets y).symm.trans there, rfl⟩
      exact (confirmRestock_accounted cab m k accounted).held z _ after
    · obtain ⟨opened, paged, noticed⟩ := tested.2 due
      exact ⟨opened, paged, noticed.from roles clock⟩
    · rw [confirmRestock_order cab, courses]
    · rw [confirmRestock_books cab m k (courseLaw.of_courses courses law) d, ledger_congr (heard_zones t s) courses, states, courses]
      unfold Ledger.reruns
      rw [Ledger.rerun_congr cabinets]
    · obtain ⟨amount, how⟩ := served.cabinet y
      rw [there, restockedCabinets, if_neg other, cabinets] at how
      obtain ⟨b, before, same⟩ := Option.map_eq_some_iff.mp how.symm
      exact ⟨b, before, by rw [← same], by rw [← same]⟩
    · exact (confirmRestock_noticed cab m k (by rwa [task])).from roles clock

end Sys2Proof.Machine
end

section
/-! PROOF. COURSE_PLATED (R142, R143): plates drawn one after another from a course's entries. -/

namespace Sys2Proof.Machine

/-! ### The entries that are left -/

theorem entriesDrawn_succ {es : List (ZoneId × Nat)} (some_ : ∀ e ∈ es, 1 ≤ e.2) (n : Nat) :
    entriesDrawn (n + 1) es = entriesDrawn n (takeFromHead es) := by
  cases es with
  | nil => rfl
  | cons e es =>
    have one := some_ e List.mem_cons_self
    rw [takeFromHead]
    by_cases last : e.2 ≤ 1
    · rw [if_pos last, entriesDrawn, if_pos (by omega), show n + 1 - e.2 = n by omega]
    · rw [if_neg last, entriesDrawn, entriesDrawn]
      dsimp only
      by_cases all : e.2 ≤ n + 1
      · rw [if_pos all, if_pos (by omega), show n + 1 - e.2 = n - (e.2 - 1) by omega]
      · rw [if_neg all, if_neg (by omega), show e.2 - (n + 1) = e.2 - 1 - n by omega]

theorem entriesDrawn_zero {es : List (ZoneId × Nat)} (some_ : ∀ e ∈ es, 1 ≤ e.2) : entriesDrawn 0 es = es := by
  cases es with
  | nil => rfl
  | cons e es =>
    have one := some_ e List.mem_cons_self
    rw [entriesDrawn, if_neg (by omega)]
    rfl

/-- The entries drawn at once are those drawn plate by plate. -/
theorem entriesDrawn_eq {n : Nat} {es : List (ZoneId × Nat)} (h : Entries es) (few : n ≤ heldAll es) : entriesDrawn n es = drawnOf n es := by
  induction n generalizing es with
  | zero => exact entriesDrawn_zero h.some
  | succ n ih =>
    obtain ⟨taken, one⟩ := heldAll_takeFromHead h (by omega)
    rw [entriesDrawn_succ h.some, drawnOf]
    exact ih taken (by omega)

theorem heldIn_drawnOf_le {n : Nat} {es : List (ZoneId × Nat)} (h : Entries es) (few : n ≤ heldAll es) (y : ZoneId) :
    heldIn (drawnOf n es) y ≤ heldIn es y := by
  induction n generalizing es with
  | zero => exact le_rfl
  | succ n ih =>
    obtain ⟨taken, one⟩ := heldAll_takeFromHead h (by omega)
    refine (ih taken (by omega)).trans ?_
    cases es with
    | nil => exact le_rfl
    | cons e es =>
      have each := h.take.2.2.1 y
      omega

/-! ### Plates drawn -/

/-- What the drawing of some plates does: the course's entries, OUT of its kind, and the cabinets' stock and reserved counts. -/
structure Drawn (c : CourseId) (r : Course) (es : List (ZoneId × Nat)) (n : Nat) (s t : State) : Prop where
  course : ∀ d, t.course? d = if d = c then some { r with entries := es } else s.course? d
  order : t.courses.order = s.courses.order
  wares : t.wares = s.wares.set r.kind { s.wares.get r.kind with out := (s.wares.get r.kind).out + n }
  cabinet : ∀ z, t.cabinet? z = (s.cabinet? z).map fun a => { a with
    stock := a.stock - (heldIn r.entries z - heldIn es z), reserved := a.reserved - (heldIn r.entries z - heldIn es z) }

section
variable {c : CourseId} {r : Course} {es : List (ZoneId × Nat)} {s t u : State}

theorem Drawn.none (live : s.course? c = some r) : Drawn c r r.entries 0 s s := by
  refine ⟨fun d => ?_, rfl, (Table.set_get _ _).symm, fun z => ?_⟩
  · split
    · next same => rw [same, live]
    · rfl
  · simp

theorem Drawn.trans {es' : List (ZoneId × Nat)} {m n : Nat} (h : Drawn c r es m s t) (k : Drawn c { r with entries := es } es' n t u)
    (first : ∀ y, heldIn es y ≤ heldIn r.entries y) (second : ∀ y, heldIn es' y ≤ heldIn es y) : Drawn c r es' (m + n) s u := by
  refine ⟨fun d => ?_, k.order.trans h.order, ?_, fun z => ?_⟩
  · rw [k.course, h.course]
    split <;> rfl
  · rw [k.wares, h.wares, Table.set_set, Table.get_set_same, Nat.add_assoc]
  · rw [k.cabinet, h.cabinet, Option.map_map]
    refine congrArg (fun f => Option.map f (s.cabinet? z)) (funext fun b => ?_)
    have one := first z
    have two := second z
    dsimp only [Function.comp]
    rw [Nat.sub_sub, Nat.sub_sub,
      show heldIn r.entries z - heldIn es z + (heldIn es z - heldIn es' z) = heldIn r.entries z - heldIn es' z by omega]

/-- One plate drawn from the first entry (R142). -/
theorem plateOne_drawn {e : ZoneId × Nat} {rest : List (ZoneId × Nat)} (live : s.course? c = some r) (first : r.entries = e :: rest)
    (entries : Entries r.entries) {b : Cabinet} (cabinet : s.cabinet? e.1 = some b) (kind : b.kind = some r.kind) :
    Drawn c r (takeFromHead r.entries) 1 s (plateOne c s) := by
  have run : plateOne c s = drawPlate e.1 (s.setCourse c (some { r with entries := takeFromHead r.entries })) := by
    rw [plateOne, live, Option.bind_some, first, List.head?_cons]
    dsimp only
    rw [changeCourse, live]
    dsimp only
    rw [first]
  have cabinet' : (s.setCourse c (some { r with entries := takeFromHead r.entries })).cabinet? e.1 = some b := cabinet
  have same := (sameStock_ops.report e.1 false (((s.setCourse c (some { r with entries := takeFromHead r.entries })).setCabinet e.1
      { b with stock := b.stock - 1, reserved := b.reserved - 1 }).setWare r.kind
      { s.wares.get r.kind with out := (s.wares.get r.kind).out + 1 })).trans (sameStock_ops.testRestock e.1 _)
  have set := setCabinet_within e.1 { b with stock := b.stock - 1, reserved := b.reserved - 1 }
    (s.setCourse c (some { r with entries := takeFromHead r.entries }))
  rw [run, drawPlate_eq cabinet' kind]
  change Drawn c r _ 1 s (testRestock e.1 (report e.1 false (((s.setCourse c (some { r with entries := takeFromHead r.entries })).setCabinet
    e.1 { b with stock := b.stock - 1, reserved := b.reserved - 1 }).setWare r.kind
      { s.wares.get r.kind with out := (s.wares.get r.kind).out + 1 })))
  refine ⟨fun d => ?_, ?_, ?_, fun z => ?_⟩
  · rw [State.course?, same.courses]
    change ((s.setCourse c (some { r with entries := takeFromHead r.entries })).setCabinet e.1 _).courses.slots.get d = _
    rw [set.courses (by decide)]
    exact setCourse_course? s c d _
  · rw [same.courses]
    change ((s.setCourse c (some { r with entries := takeFromHead r.entries })).setCabinet e.1 _).courses.order = _
    rw [set.courses (by decide)]
    rfl
  · rw [same.wares]
    change ((s.setCourse c (some { r with entries := takeFromHead r.entries })).setCabinet e.1 _).wares.set _ _ = _
    rw [set.wares (by decide)]
    rfl
  · rw [same.cabinets]
    refine (setCabinet_cabinet? cabinet' z).trans ?_
    rw [first] at entries
    have each := entries.take.2.2.1 z
    rw [first]
    by_cases here : z = e.1
    · rw [if_pos here] at each
      rw [if_pos here, here, cabinet, Option.map_some, ← here,
        show heldIn (e :: rest) z - heldIn (takeFromHead (e :: rest)) z = 1 by omega]
    · rw [if_neg here] at each
      rw [if_neg here, show heldIn (e :: rest) z - heldIn (takeFromHead (e :: rest)) z = 0 by omega]
      exact (Option.map_id').symm

theorem platePlates_drawn (n : Nat) : ∀ (s : State) (r : Course), s.course? c = some r → Entries r.entries →
    (∀ e ∈ r.entries, ∃ b, s.cabinet? e.1 = some b ∧ b.kind = some r.kind) → n ≤ heldAll r.entries →
    Drawn c r (drawnOf n r.entries) n s (platePlates c n s) := by
  induction n with
  | zero => exact fun s r live _ _ _ => Drawn.none live
  | succ n ih =>
    intro s r live entries kinds few
    obtain ⟨taken, one⟩ := heldAll_takeFromHead entries (by omega)
    cases first : r.entries with
    | nil =>
      rw [first] at few
      cases few
    | cons e rest =>
      obtain ⟨b, cabinet, kind⟩ := kinds e (by rw [first]; exact List.mem_cons_self)
      have drawn := plateOne_drawn live first entries cabinet kind
      have now := drawn.course c
      rw [if_pos rfl] at now
      have next := ih (plateOne c s) _ now taken (fun d mem => ?_) (by dsimp only; omega)
      · have whole := drawn.trans next (fun y => ?_) fun y => heldIn_drawnOf_le taken (by omega) y
        · rw [Nat.add_comm 1 n] at whole
          rw [← first]
          exact whole
        · rw [first] at entries ⊢
          have each := entries.take.2.2.1 y
          omega
      · rw [first] at mem entries
        obtain ⟨x, there, same⟩ := entries.take.2.2.2 d mem
        obtain ⟨a, before, its⟩ := kinds x (by rw [first]; exact there)
        rw [← same]
        exact ⟨_, (drawn.cabinet x.1).trans (congrArg (Option.map _) before), its⟩

/-! ### The command (R142, R143) -/

theorem coursePlated_outOfRange {d m : Nat} (out : 15 < d ∨ m < 1 ∨ 2000 < m) : coursePlated d m s = refuse .range s := by
  unfold coursePlated
  split
  · rfl
  · next c number =>
    rcases out with far | sizes
    · rw [index?_eq_none_iff.mpr far] at number
      cases number
    · exact if_pos sizes

theorem coursePlated_free {n : Nat} (some_ : 1 ≤ n) (few : n ≤ 2000) (free : s.course? c = none) :
    coursePlated c.val n s = refuse .notFound s := by
  unfold coursePlated
  rw [index?_val]
  dsimp only
  rw [if_neg (by omega), free]

theorem coursePlated_eq {n : Nat} (some_ : 1 ≤ n) (few : n ≤ 2000) (live : s.course? c = some r) : coursePlated c.val n s =
    if heldAll r.entries = 0 then refuse .empty s
    else acceptClamped (min n (heldAll r.entries) != n)
      (bigEndian 2 (min n (heldAll r.entries)) ++ bigEndian 2 (r.plated + min n (heldAll r.entries)))
      (if r.plated + min n (heldAll r.entries) = r.covers then freeCourse c (post .courseState c.val 3
        (changeCourse c (fun q => { q with plated := r.plated + min n (heldAll r.entries) }) (platePlates c (min n (heldAll r.entries)) s)))
      else changeCourse c (fun q => { q with plated := r.plated + min n (heldAll r.entries) }) (platePlates c (min n (heldAll r.entries)) s)) := by
  unfold coursePlated
  rw [index?_val]
  dsimp only
  rw [if_neg (by omega), live]
  rfl

/-- The plates drawn and counted as plated. -/
theorem plated_drawn {n p : Nat} (live : s.course? c = some r) (entries : Entries r.entries)
    (kinds : ∀ e ∈ r.entries, ∃ b, s.cabinet? e.1 = some b ∧ b.kind = some r.kind) (few : n ≤ heldAll r.entries) :
    Drawn c r (drawnOf n r.entries) n s (platePlates c n s) ∧
      changeCourse c (fun q => { q with plated := p }) (platePlates c n s) =
        (platePlates c n s).setCourse c (some { r with plated := p, entries := drawnOf n r.entries }) := by
  have drawn := platePlates_drawn n s r live entries kinds few
  refine ⟨drawn, ?_⟩
  have now := drawn.course c
  rw [if_pos rfl] at now
  rw [changeCourse, now]

end

end Sys2Proof.Machine
end

section
/-! PROOF. COURSE_PLATED and COURSE_CLOSE (R142 to R144). -/

namespace Sys2Proof.Machine

/-! ### The pages of a cause that no more is raised (R156, R166) -/

/-- A course's slot is FREE and no page of its COURSE_SHORT has some id. -/
structure ShutOff (c : CourseId) (i : PageId) (s : State) : Prop where
  free : s.course? c = none
  pages : ∀ q ∈ s.desk.pages, q.cause = 32 → q.object = c.val → q.id ≠ i

/-- Every page stood before, but for its state. -/
def OldPages (s t : State) : Prop := ∀ q ∈ t.desk.pages, ∃ p ∈ s.desk.pages, p.id = q.id ∧ p.cause = q.cause ∧ p.object = q.object

theorem OldPages.of_subset {s t : State} (h : ∀ q ∈ t.desk.pages, q ∈ s.desk.pages) : OldPages s t := fun q mem => ⟨q, h q mem, rfl, rfl, rfl⟩

theorem OldPages.trans {s t u : State} (h : OldPages s t) (k : OldPages t u) : OldPages s u := fun q mem => by
  obtain ⟨p, there, id_, cause, object⟩ := k q mem
  obtain ⟨o, before, id', cause', object'⟩ := h p there
  exact ⟨o, before, id'.trans id_, cause'.trans cause, object'.trans object⟩

theorem closePage_old (p : Page) (o : Outcome) (s : State) : OldPages s (closePage p o s) :=
  .of_subset fun _ mem => List.mem_of_mem_filter mem

theorem release_old (e : EntryId) (s : State) : OldPages s (release e s) := by
  unfold release
  split
  · intro q mem
    obtain ⟨p, there, rfl⟩ := List.mem_map.mp mem
    refine ⟨p, there, ?_⟩
    split <;> exact ⟨rfl, rfl, rfl⟩
  · exact .of_subset fun _ mem => mem

theorem clearEvent_old (c : Cause) (o : Nat) (s : State) : OldPages s (clearEvent c o s) := by
  unfold clearEvent
  split
  · next p _ =>
    unfold retirePage
    split
    · next e _ _ =>
      exact OldPages.trans (OldPages.trans (t := pushCancel { page := p.id, address := (s.staff e).address } s)
        (.of_subset fun _ mem => mem) (closePage_old p .event _)) (release_old e _)
    · exact (closePage_old p .event s).trans (release_old _ _)
    · exact (closePage_old p .event s).trans (.of_subset fun _ mem => mem)
    · exact closePage_old p .event s
  · exact .of_subset fun _ mem => mem

section
variable {c : CourseId} {i : PageId} {s t : State}

theorem ShutOff.of_old (h : ShutOff c i s) (courses : t.courses = s.courses) (old : OldPages s t) : ShutOff c i t := by
  refine ⟨by rw [State.course?, courses]; exact h.free, fun q mem cause object same => ?_⟩
  obtain ⟨p, there, id_, cause', object'⟩ := old q mem
  exact h.pages p there (cause'.trans cause) (object'.trans object) (id_.trans same)

theorem ShutOff.of_same (h : ShutOff c i s) (courses : t.courses = s.courses) (desk : t.desk = s.desk) : ShutOff c i t :=
  h.of_old courses (.of_subset fun _ mem => desk ▸ mem)

theorem ShutOff.of_within {bs : List Block} (h : ShutOff c i s) (within : Within bs s t) (courses : Block.courses ∉ bs)
    (desk : Block.paging ∉ bs) : ShutOff c i t := h.of_same (within.courses courses) (within.desk desk)

/-- A raise of another cause, or for another object, leaves it. -/
theorem ShutOff.raise (h : ShutOff c i s) (x : Cause) (g : PageGroup) (o : Nat) (other : x.code = 32 → o ≠ c.val) :
    ShutOff c i (raise x g o s) := by
  have added : ∀ u : State, ShutOff c i u → ShutOff c i (addPage x.source x.code o x.role g x.closure u) := fun u hu => by
    refine ⟨hu.free, fun q mem cause object => ?_⟩
    rcases List.mem_append.mp mem with old | new
    · exact hu.pages q old cause object
    · rw [List.mem_singleton.mp new] at cause object
      exact absurd object (other cause)
  rw [raise_eq]
  split
  · exact h
  split
  · exact added s h
  split
  · next p _ => exact added _ (h.of_old rfl (closePage_old p .dropped s))
  · exact h.of_same rfl rfl

theorem ShutOff.testRestock (h : ShutOff c i s) (z : ZoneId) : ShutOff c i (testRestock z s) := by
  cases due : taskDue s z with
  | false => rwa [testRestock_of_not_due due]
  | true =>
    cases cabinet : s.cabinet? z with
    | none => rw [taskDue, cabinet] at due; cases due
    | some b =>
      obtain ⟨-, -, some_, -⟩ := (taskDue_of_cabinet cabinet).mp due
      obtain ⟨k, kind⟩ := Option.isSome_iff_exists.mp some_
      have opened : ShutOff c i { s with restock := s.restock ++ [openedTask z b k s] } := h.of_same rfl rfl
      rw [testRestock_of_due cabinet kind due]
      refine ShutOff.of_within ?_ (report_within z _ _) (by decide) (by decide)
      unfold taskOpened
      refine ShutOff.of_same ?_ (post_courses _ _ _ _) (post_desk _ _ _ _)
      split
      · exact opened.raise .restock _ _ nofun
      · exact opened

theorem ShutOff.course (h : ShutOff c i s) (d : CourseId) (f : Course → Course) : ShutOff c i (changeCourse d f s) := by
  unfold changeCourse
  split
  · next r live =>
    refine ⟨?_, h.pages⟩
    rw [setCourse_course?, if_neg, h.free]
    rintro rfl
    cases h.free.symm.trans live
  · exact h

theorem ShutOff.setLive (h : ShutOff c i s) {d : CourseId} {r : Course} (live : s.course? d = some r) (v : Course) :
    ShutOff c i (s.setCourse d (some v)) := by
  have changed := h.course d fun _ => v
  rwa [changeCourse, live] at changed

theorem ShutOff.fold {α : Type} {f : State → α → State} (kept : ∀ s a, ShutOff c i s → ShutOff c i (f s a)) (l : List α) :
    ∀ s : State, ShutOff c i s → ShutOff c i (l.foldl f s) := by
  induction l with
  | nil => exact fun _ h => h
  | cons a l ih => exact fun s h => ih _ (kept s a h)

theorem ShutOff.passAt (h : ShutOff c i s) (d : CourseId) (deferred : Option ZoneId) (z : ZoneId) : ShutOff c i (passAt d deferred s z) := by
  have reserved : ∀ n, ShutOff c i (reservePlates z n s) := fun n => by
    unfold reservePlates
    split
    · exact (h.of_within (setCabinet_within z _ s) (by decide) (by decide)).of_within (report_within z false _) (by decide) (by decide)
    · exact h
  unfold Machine.passAt
  split
  · split
    · refine ShutOff.course ?_ d _
      split
      · exact reserved _
      · exact (reserved _).testRestock z
    · exact h
  · exact h

theorem ShutOff.wakeListed (h : ShutOff c i s) (z : ZoneId) : ShutOff c i (wakeListed s z) := by
  unfold Machine.wakeListed
  split
  · exact (h.of_within (wakeStandby_within z s) (by decide) (by decide)).testRestock z
  · exact h

theorem ShutOff.settleCourse (h : ShutOff c i s) (d : CourseId) (fired : Bool) : ShutOff c i (settleCourse d fired s) := by
  unfold Machine.settleCourse
  split
  · next r live =>
    have other : d.val ≠ c.val := fun same => by
      rw [Fin.ext same, h.free] at live
      cases live
    dsimp only
    split
    · have settled := h.setLive live { r with short := false }
      split
      · exact settled.of_same rfl rfl
      split
      · exact (settled.of_old ((clearEvent_touches _ _ _).within.courses (by decide)) (clearEvent_old _ _ _)).of_same rfl rfl
      · exact settled
    · have settled := h.setLive live { r with short := true }
      refine ShutOff.fold (fun s y h => h.wakeListed y) _ _ ?_
      split
      · exact (settled.raise .courseShort r.group d.val fun _ => other).of_same rfl rfl
      · exact settled
  · exact h

theorem ShutOff.refill (h : ShutOff c i s) (z : ZoneId) : ShutOff c i (refill s z) := by
  refine ShutOff.testRestock (ShutOff.fold (fun s d h => ?_) _ s h) z
  unfold rerunCourse
  split
  · split
    · unfold Machine.runPass
      split
      · exact (ShutOff.fold (fun s y h => h.passAt d _ y) _ _ h).settleCourse d false
      · exact h
    · exact h
  · exact h

end

/-- The clearing event of a cause closes the page that it finds (R166). -/
theorem clearEvent_closed {x : Cause} {o : Nat} {p : Page} {s : State}
    (found : (s.desk.pages.find? fun p => p.closure = .event ∧ p.cause = x.code ∧ p.object = o) = some p) :
    Closed p .event s (clearEvent x o s) := by
  have same : (s.desk.pages.find? fun p => p.closure == .event && p.cause == x.code && p.object == o) = some p := by
    rw [← found]
    refine congrArg (fun f => List.find? f s.desk.pages) (funext fun q => ?_)
    rw [Bool.eq_iff_iff]
    simp [and_assoc]
  rw [clearEvent, same]
  exact (pageDoneAndClearingEventsClose.2.2 p .event s).2.1

end Sys2Proof.Machine
end

section
/-! PROOF. COURSE_PLATED and COURSE_CLOSE, settled (R142 to R144). -/

namespace Sys2Proof.Machine

section
variable {c : CourseId} {r : Course} {s u : State}

/-! ### What a close gives up (R144) -/

/-- The plates of a course given up. -/
def givenUp (r : Course) (s : State) : State := r.entries.foldl (fun s e => releasePlates e.1 e.2 s) s

/-- The course closed, before the reruns for the cabinets released. -/
def shut (c : CourseId) (r : Course) (s : State) : State :=
  post .courseState c.val 4 (freeCourse c (if r.short then clearEvent .courseShort c.val (givenUp r s) else givenUp r s))

theorem closeCourse_eq (c : CourseId) (r : Course) (s : State) : closeCourse c r s = (r.entries.map (·.1)).foldl refill (shut c r s) := rfl

theorem releasePlates_within (z : ZoneId) (n : Nat) (s : State) : Within [.zones, .permit, .ports] s (releasePlates z n s) ∧
    ∀ y, (releasePlates z n s).zoneState y = s.zoneState y := by
  unfold releasePlates
  split
  · exact ⟨((setCabinet_within z _ s).mono (by decide)).trans (report_within z false _),
      fun y => (refreshStandby_zoneState z y _).trans (setCabinet_zoneState z y _ s)⟩
  · exact ⟨.refl _ s, fun _ => rfl⟩

theorem givenUp_within (r : Course) (s : State) : Within [.zones, .permit, .ports] s (givenUp r s) ∧
    ∀ y, (givenUp r s).zoneState y = s.zoneState y := by
  unfold givenUp
  induction r.entries generalizing s with
  | nil => exact ⟨.refl _ s, fun _ => rfl⟩
  | cons e es ih =>
    obtain ⟨first, states⟩ := releasePlates_within e.1 e.2 s
    obtain ⟨rest, states'⟩ := ih (releasePlates e.1 e.2 s)
    exact ⟨first.trans rest, fun y => (states' y).trans (states y)⟩

theorem givenUp_served (r : Course) (s : State) : AllServiced s (givenUp r s) :=
  allServiced_ops.toStockOps.fold (fun (s : State) (e : ZoneId × Nat) => releasePlates e.1 e.2 s)
    (fun s e => allServiced_ops.releasePlates e.1 e.2 s) r.entries s

theorem givenUp_grown (r : Course) (s : State) : Grown s (givenUp r s) :=
  grown_ops.toStockOps.fold (fun (s : State) (e : ZoneId × Nat) => releasePlates e.1 e.2 s)
    (fun s e => grown_ops.releasePlates e.1 e.2 s) r.entries s

/-- The state in which the course's slot becomes FREE. -/
def cleared (c : CourseId) (r : Course) (s : State) : State :=
  if r.short then clearEvent .courseShort c.val (givenUp r s) else givenUp r s

theorem cleared_within (c : CourseId) (r : Course) (s : State) : Within [.paging, .ports] (givenUp r s) (cleared c r s) := by
  unfold cleared
  split
  · exact (clearEvent_touches _ _ _).within.mono (by decide)
  · exact .refl _ _

/-- The books of a course closed. -/
structure Shut (c : CourseId) (r : Course) (s t : State) : Prop where
  course : ∀ d, t.course? d = if d = c then none else s.course? d
  order : t.courses.order = s.courses.order.filter (· ≠ c)
  cabinet : ∀ z, t.cabinet? z = (s.cabinet? z).map fun b => { b with reserved := b.reserved - heldIn r.entries z }
  state : ∀ z, t.zoneState z = s.zoneState z
  restock : t.restock = s.restock
  time : t.time = s.time
  served : AllServiced s t
  grown : Grown s t

theorem shut_books (c : CourseId) (r : Course) (s : State) : Shut c r s (shut c r s) := by
  obtain ⟨-, -, courses, cabinets⟩ := releaseEntries_eq r.entries s
  obtain ⟨given, states⟩ := givenUp_within r s
  have within := cleared_within c r s
  have courses' : (cleared c r s).courses = s.courses := (within.courses (by decide)).trans courses
  have zones : (shut c r s).zones = (givenUp r s).zones := within.zones (by decide)
  refine ⟨fun d => ?_, ?_, fun z => ?_, fun z => ?_, ?_, ?_, ?_, ?_⟩
  · refine (setCourse_course? (cleared c r s) c d none).trans ?_
    rw [State.course?, courses']
    rfl
  · change (cleared c r s).courses.order.filter (· ≠ c) = _
    rw [courses']
  · rw [cabinet?_congr zones]
    exact cabinets z
  · rw [zoneState_congr zones]
    exact states z
  · exact (within.restock (by decide)).trans (given.restock (by decide))
  · exact (within.time (by decide)).trans (given.time (by decide))
  · exact (givenUp_served r s).trans (.of_zones zones)
  · have cleared : Grown (givenUp r s) (cleared c r s) := by
      unfold Machine.cleared
      split
      · exact clearEvent_grown _ _ _
      · exact .refl _
    exact (givenUp_grown r s).trans (cleared.trans ((grown_ops.freeCourse c _).trans (post_grown _ _ _ _)))

/-! ### The reruns that follow a close (R141, R144) -/

theorem Posted.refills {s₀ : State} {order : List CourseId} (zs : List ZoneId) : ∀ {s : State} {l : Ledger}, Posted s₀ l s → l.Tidy →
    s.courses.order = order → Posted s₀ (zs.foldl (Ledger.reruns s₀ order) l) (zs.foldl refill s) := by
  induction zs with
  | nil => exact fun h _ _ => h
  | cons z zs ih =>
    intro s l h tidy same
    obtain ⟨rerun, tidy'⟩ := h.rerunCourses tidy z same
    have kept : SameSeats s (refill s z) := (sameSeats_ops.rerunCourses z s).trans (sameSeats_ops.testRestock z _)
    exact ih (rerun.same (sameTable_ops.testRestock z _)) tidy' (kept.order.trans same)

theorem refills_seats (zs : List ZoneId) (s : State) : SameSeats s (zs.foldl refill s) :=
  sameSeats_ops.toStockOps.fold _ (fun s z => (sameSeats_ops.rerunCourses z s).trans (sameSeats_ops.testRestock z _)) zs s

theorem refills_served (zs : List ZoneId) (s : State) : AllServiced s (zs.foldl refill s) :=
  allServiced_ops.toStockOps.fold _ (fun s z => (allServiced_ops.rerunCourses z s).trans (allServiced_ops.testRestock z _)) zs s

theorem refills_grown (zs : List ZoneId) (s : State) : Grown s (zs.foldl refill s) :=
  grown_ops.toStockOps.fold _ (fun s z => (grown_ops.rerunCourses z s).trans (grown_ops.testRestock z _)) zs s

theorem Accounted.refills (zs : List ZoneId) : ∀ {s : State}, Accounted s → Accounted (zs.foldl refill s) := by
  induction zs with
  | nil => exact fun h => h
  | cons z zs ih => exact fun h => ih ((h.rerunCourses z).table (sameTable_ops.testRestock z _))

/-- Without a SHORT course, and with no restock test that opens a task, nothing follows the release of a cabinet. -/
theorem refills_idle {zs : List ZoneId} (filled : ∀ d q, s.course? d = some q → q.short = false) (due : ∀ z ∈ zs, taskDue s z = false) :
    zs.foldl refill s = s := by
  have rerun : ∀ z, rerunCourses z s = s := fun z => by
    have one : ∀ d, rerunCourse z s d = s := fun d => by
      unfold rerunCourse
      cases live : s.course? d with
      | none => rfl
      | some q =>
        dsimp only
        rw [filled d q live, Bool.false_and]
        rfl
    unfold rerunCourses
    induction s.courses.order with
    | nil => rfl
    | cons d ds ih => rw [List.foldl_cons, one, ih]
  induction zs with
  | nil => rfl
  | cons z zs ih =>
    rw [List.foldl_cons, refill, rerun, testRestock_of_not_due (due z List.mem_cons_self)]
    exact ih fun y mem => due y (List.mem_cons_of_mem _ mem)

/-! ### The books of a close -/

/-- What the courses and the READY cabinets hold once a course has given up its plates. -/
def closedLedger (c : CourseId) (r : Course) (s : State) : Ledger where
  course d := if d = c then none else s.course? d
  plates z := match s.cabinet? z with
    | some a => if s.zoneState z = .ready then a.stock - (a.reserved - heldIn r.entries z) else 0
    | none => 0

theorem shut_posted (c : CourseId) (r : Course) (s : State) : Posted s (closedLedger c r s) (shut c r s) := by
  have books := shut_books c r s
  refine ⟨books.course, fun z => ?_, fun z => ?_⟩
  · rw [ledger_plates, books.cabinet, books.state]
    unfold closedLedger
    dsimp only
    cases s.cabinet? z <;> rfl
  · rw [books.cabinet, Option.map_map]
    rfl

theorem closedLedger_tidy (law : courseLaw s) : (closedLedger c r s).Tidy := fun d q live => by
  unfold closedLedger at live
  dsimp only at live
  split at live
  · cases live
  · exact tidy_of_courseLaw law d q live

theorem shut_accounted (live : s.course? c = some r) (h : Accounted s) : Accounted (shut c r s) := by
  have books := shut_books c r s
  refine ⟨fun d q there => ?_, fun y b cabinet => ?_⟩
  · rw [books.course] at there
    split at there
    · cases there
    · exact h.entries d q there
  · rw [books.cabinet] at cabinet
    obtain ⟨a, before, rfl⟩ := Option.map_eq_some_iff.mp cabinet
    have differ := sum_heldBy_of_differ (s := s) (t := shut c r s) c (fun d other => by rw [books.course, if_neg other]) y
    rw [books.course, if_pos rfl, live, heldBy_some] at differ
    change _ = _ + 0 at differ
    have held := h.held y a before
    rw [heldOn_eq] at held ⊢
    dsimp only
    omega

theorem closeCourse_accounted (live : s.course? c = some r) (h : Accounted s) : Accounted (closeCourse c r s) :=
  Accounted.refills _ (shut_accounted live h)

/-- Where nothing follows a close, the clearing event is all that becomes of pages and staff. -/
theorem closeCourse_idle (filled : ∀ d q, d ≠ c → s.course? d = some q → q.short = false)
    (stocked : ∀ e ∈ r.entries, ∀ a ∈ s.cabinet? e.1, s.task? e.1 ≠ none ∨ a.low ≤ a.stock - (a.reserved - heldIn r.entries e.1)) :
    SameDesk (if r.short then clearEvent .courseShort c.val s else s) (closeCourse c r s) := by
  have books := shut_books c r s
  have idle : (r.entries.map (·.1)).foldl refill (shut c r s) = shut c r s := by
    refine refills_idle (fun d q live => ?_) fun z mem => ?_
    · rw [books.course] at live
      split at live
      · cases live
      · next other => exact filled d q other live
    · obtain ⟨e, there, rfl⟩ := List.mem_map.mp mem
      have task : (shut c r s).task? e.1 = s.task? e.1 := by rw [State.task?, books.restock]; rfl
      cases cabinet : s.cabinet? e.1 with
      | none => rw [taskDue, books.cabinet, cabinet]; rfl
      | some a =>
        have cabinet' : (shut c r s).cabinet? e.1 = some { a with reserved := a.reserved - heldIn r.entries e.1 } := by
          rw [books.cabinet, cabinet]
          rfl
        rw [Bool.eq_false_iff, ne_eq, taskDue_of_cabinet cabinet', task]
        rintro ⟨-, -, -, low, free⟩
        rcases stocked e there a cabinet with busy | enough
        · exact busy free
        · exact absurd low (Nat.not_lt.mpr enough)
  rw [closeCourse_eq, idle]
  have given : SameDesk s (givenUp r s) := .of_within (givenUp_within r s).1 (by decide)
  have done : SameDesk (if r.short then clearEvent .courseShort c.val s else s) (cleared c r s) := by
    unfold cleared
    split
    · exact given.clearEvent .courseShort c.val
    · exact given
  exact done

/-- The page of a course that was SHORT is closed (R144, R166). -/
theorem closeCourse_page (short : r.short = true) {p : Page}
    (found : (s.desk.pages.find? fun p => p.closure = .event ∧ p.cause = 32 ∧ p.object = c.val) = some p) :
    (∀ q ∈ (closeCourse c r s).desk.pages, q.cause = 32 → q.object = c.val → q.id ≠ p.id) ∧
      Noticed .pageClosed p.id.val (2 * 256 + 32) s (closeCourse c r s) := by
  obtain ⟨given, -⟩ := givenUp_within r s
  have desk := given.desk (by decide)
  have closed : Closed p .event (givenUp r s) (clearEvent .courseShort c.val (givenUp r s)) := clearEvent_closed (by rw [desk]; exact found)
  have cause : p.cause = 32 := by
    have fits := List.find?_some found
    simp only [decide_eq_true_eq] at fits
    exact fits.2.1
  have eq : shut c r s = post .courseState c.val 4 (freeCourse c (clearEvent .courseShort c.val (givenUp r s))) := by
    rw [shut, if_pos short]
  obtain ⟨ids, -, noticed⟩ := closed
  rw [cause] at noticed
  have gone : ShutOff c p.id (shut c r s) := by
    refine ⟨by rw [(shut_books c r s).course, if_pos rfl], fun q mem _ _ same => ?_⟩
    rw [eq] at mem
    have mem' : q.id ∈ (clearEvent .courseShort c.val (givenUp r s)).desk.pages.map (·.id) := List.mem_map_of_mem (f := (·.id)) mem
    rw [ids, same] at mem'
    simpa using (List.mem_filter.mp mem').2
  refine ⟨(ShutOff.fold (fun s z h => h.refill z) _ _ gone).pages, ?_⟩
  have grown := givenUp_grown r s
  have told : Noticed .pageClosed p.id.val (2 * 256 + 32) s (clearEvent .courseShort c.val (givenUp r s)) :=
    noticed.from (fun q => (grown q).role) (congrArg TimeBase.clock (given.time (by decide)))
  rw [closeCourse_eq, eq]
  exact told.grown (((grown_ops.freeCourse c _).trans (post_grown _ _ _ _)).trans (refills_grown _ _))

theorem closeCourse_noticed (c : CourseId) (r : Course) (s : State) : Noticed .courseState c.val 4 s (closeCourse c r s) := by
  obtain ⟨given, -⟩ := givenUp_within r s
  have grown : Grown s (freeCourse c (cleared c r s)) := by
    refine (givenUp_grown r s).trans (Grown.trans ?_ (grown_ops.freeCourse c _))
    unfold cleared
    split
    · exact clearEvent_grown _ _ _
    · exact .refl _
  have time : (freeCourse c (cleared c r s)).time = s.time := ((cleared_within c r s).time (by decide)).trans (given.time (by decide))
  rw [closeCourse_eq]
  exact (noticed_post .courseState c.val 4 (fun q => (grown q).role) (congrArg TimeBase.clock time)).grown (refills_grown _ _)

end

end Sys2Proof.Machine
end

section
/-! PROOF. COURSE_PLATED and COURSE_CLOSE, settled (R142 to R144). -/

namespace Sys2Proof.Machine

section
variable {c : CourseId} {r : Course} {s : State}

theorem courseClose_outOfRange {d : Nat} (out : 15 < d) : courseClose d s = refuse .range s := by
  rw [courseClose, index?_eq_none_iff.mpr out]

theorem courseClose_free (free : s.course? c = none) : courseClose c.val s = refuse .notFound s := by
  rw [courseClose, index?_val]
  dsimp only
  rw [free]

theorem courseClose_eq (live : s.course? c = some r) : courseClose c.val s =
    reply (bigEndian 2 (heldAll r.entries) ++ bigEndian 2 r.plated) (closeCourse c r s) := by
  rw [courseClose, index?_val]
  dsimp only
  rw [live]
  rfl

end

/-- Settles O40: the plates go as the entries are drawn, and what follows a close is told by the ledger. -/
theorem coursesArePlatedAndClosed : Obligations.CoursesArePlatedAndClosed := by
  have courses : ∀ (t : Transfer) (s : State) d, (heard t s).course? d = s.course? d := fun t s d => by
    rw [State.course?, heard_courses]
    rfl
  have cabinets : ∀ (t : Transfer) (s : State) y, (heard t s).cabinet? y = s.cabinet? y := fun t s => cabinet?_congr (heard_zones t s)
  constructor
  · intro t c n s judged some_ few
    have plating : ∀ d m, exec (.coursePlated t d m) s = .next (placeAnswer t.port (coursePlated d m (heard t s))) :=
      fun d m => by rw [exec_of_request (body := coursePlated d m) rfl, command_judged judged]
    refine ⟨fun d m out => ?_, fun d out => ?_, fun free => ?_, fun r live => ?_⟩
    · rw [plating, coursePlated_outOfRange out]
      rfl
    · rw [exec_of_request (body := courseClose d) rfl, command_judged judged, courseClose_outOfRange out]
      rfl
    · rw [plating, coursePlated_free some_ few ((courses t s c).trans free)]
      rfl
    have live' : (heard t s).course? c = some r := (courses t s c).trans live
    intro reserved m left
    have run : coursePlated c.val n (heard t s) = if reserved = 0 then refuse .empty (heard t s)
        else acceptClamped (m != n) (bigEndian 2 m ++ bigEndian 2 (r.plated + m)) (if r.plated + m = r.covers then
          freeCourse c (post .courseState c.val 3 (changeCourse c (fun q => { q with plated := r.plated + m }) (platePlates c m (heard t s))))
          else changeCourse c (fun q => { q with plated := r.plated + m }) (platePlates c m (heard t s))) :=
      coursePlated_eq some_ few live'
    have most : m ≤ reserved := min_le_right _ _
    have moved : (m != n) = decide (reserved < n) := by
      rw [Bool.eq_iff_iff]
      simp [m]
    refine ⟨fun nothing => ?_, fun held cabLaw crsLaw => ?_⟩
    · rw [plating, run, if_pos nothing]
      rfl
    rw [if_neg held] at run
    have entries := tidy_of_courseLaw crsLaw c r live
    have kinds : ∀ e ∈ r.entries, ∃ b, (heard t s).cabinet? e.1 = some b ∧ b.kind = some r.kind := fun e mem => by
      rw [cabinets]
      exact cabLaw.2.2.2 c r live e mem
    have all : heldAll left + m = reserved := by
      rw [show left = drawnOf m r.entries from entriesDrawn_eq entries most]
      exact (heldAll_drawnOf entries most).2
    obtain ⟨drawn, counted⟩ := plated_drawn (p := r.plated + m) live' entries kinds most
    rw [show drawnOf m r.entries = left from (entriesDrawn_eq entries most).symm] at drawn counted
    have touches := platePlates_touches c m (heard t s)
    have grown : Grown (heard t s) (platePlates c m (heard t s)) := grown_zoneOps.platePlates c m _
    rw [counted] at run
    clear_value m left
    generalize platePlates c m (heard t s) = v at *
    have course : ∀ d, (v.setCourse c (some { r with plated := r.plated + m, entries := left })).course? d =
        if d = c then some { r with plated := r.plated + m, entries := left } else s.course? d := fun d => by
      rw [setCourse_course?, drawn.course]
      split
      · rfl
      · exact courses t s d
    have wares : (v.setCourse c (some { r with plated := r.plated + m, entries := left })).wares =
        s.wares.set r.kind { s.wares.get r.kind with out := (s.wares.get r.kind).out + m } := by
      change v.wares = _
      rw [drawn.wares, heard_wares]
    have order : (v.setCourse c (some { r with plated := r.plated + m, entries := left })).courses.order = s.courses.order := by
      change v.courses.order = _
      rw [drawn.order, heard_courses]
    have shelves : ∀ z, (v.setCourse c (some { r with plated := r.plated + m, entries := left })).cabinet? z =
        (s.cabinet? z).map fun a => { a with
          stock := a.stock - (heldIn r.entries z - heldIn left z), reserved := a.reserved - (heldIn r.entries z - heldIn left z) } := fun z => by
      change v.cabinet? z = _
      rw [drawn.cabinet, cabinets]
    have touched := touches.trans (ServiceOnly.of_courses v
      (v.setCourse c (some { r with plated := r.plated + m, entries := left })).courses)
    have roles : ∀ q, ((v.setCourse c (some { r with plated := r.plated + m, entries := left })).ports.get q).role = (s.ports.get q).role :=
      fun q => ((grown q).role).trans (heard_role t s q)
    change ServiceOnly _ (v.setCourse c (some { r with plated := r.plated + m, entries := left })) at touched
    generalize v.setCourse c (some { r with plated := r.plated + m, entries := left }) = x at *
    by_cases complete : r.plated + m = r.covers
    · rw [if_pos complete] at run
      refine ⟨freeCourse c (post .courseState c.val 3 x), ?_, ?_, wares, fun d other => ?_, fun _ => ⟨?_, ?_, ?_⟩,
        fun incomplete => absurd complete incomplete, all, shelves⟩
      · rw [plating, run, moved]
        rfl
      · exact touched.trans ((post_touches _ _ _ _).stock.service.trans (freeCourse_touches c _))
      · exact ((setCourse_course? x c d none).trans (if_neg other)).trans ((course d).trans (if_neg other))
      · exact (setCourse_course? x c c none).trans (if_pos rfl)
      · change x.courses.order.filter (· ≠ c) = _
        rw [order]
      · have told : Noticed .courseState c.val 3 s (post .courseState c.val 3 x) :=
          noticed_post _ _ _ roles (congrArg TimeBase.clock ((touched.within.time (by decide)).trans (heard_time t s)))
        exact told.grown (grown_ops.freeCourse c _)
    · rw [if_neg complete] at run
      refine ⟨x, ?_, touched, wares, fun d other => (course d).trans (if_neg other), fun full => absurd full complete,
        fun _ => ⟨order, (course c).trans (if_pos rfl)⟩, all, shelves⟩
      rw [plating, run, moved]
      rfl
  · intro t c s judged
    have closing : exec (.courseClose t c.val) s = .next (placeAnswer t.port (courseClose c.val (heard t s))) := by
      rw [exec_of_request (body := courseClose c.val) rfl, command_judged judged]
    refine ⟨fun free => ?_, fun r live => ?_⟩
    · rw [closing, courseClose_free ((courses t s c).trans free)]
      rfl
    have live' : (heard t s).course? c = some r := (courses t s c).trans live
    have books := shut_books c r (heard t s)
    have seats := refills_seats (r.entries.map (·.1)) (shut c r (heard t s))
    have served : AllServiced (heard t s) (closeCourse c r (heard t s)) := books.served.trans (refills_served _ _)
    have order : (closeCourse c r (heard t s)).courses.order = s.courses.order.filter (· ≠ c) := by
      rw [closeCourse_eq, seats.order, books.order, heard_courses]
    have present : ∀ d, (closeCourse c r (heard t s)).course? d ≠ none ↔ d ≠ c ∧ s.course? d ≠ none := fun d => by
      rw [← Option.isSome_iff_ne_none, closeCourse_eq, seats.live, books.course, courses]
      by_cases same : d = c
      · simp [same]
      · simp [same, Option.isSome_iff_ne_none]
    refine ⟨closeCourse c r (heard t s), ?_, closeCourse_touches c r _, ?_, ?_, order, present, fun z => ?_, fun law => ?_,
      fun short p found => ?_, fun filled stocked => ?_, ?_⟩
    · rw [closing, courseClose_eq live']
      rfl
    · rw [closeCourse_wares c r (heard t s), heard_wares]
    · by_contra some_
      exact ((present c).mp some_).1 rfl
    · obtain ⟨reserved, how⟩ := served.cabinet z
      rw [cabinets] at how
      refine ⟨reserved, how, fun cabLaw crsLaw some_ => ?_⟩
      obtain ⟨b, cabinet⟩ := Option.ne_none_iff_exists'.mp some_
      have accounted : Accounted (heard t s) := (accounted_of_laws cabLaw crsLaw).same (courses t s) fun y a there =>
        ⟨a, (cabinets t s y).symm.trans there, rfl⟩
      rw [cabinet, Option.map_some] at how
      exact (closeCourse_accounted live' accounted).held z _ how
    · have posted := Posted.refills (r.entries.map (·.1)) (shut_posted c r (heard t s))
        (closedLedger_tidy (courseLaw.of_courses (heard_courses t s) law)) rfl
      have reruns : ∀ o, Ledger.reruns (heard t s) o = Ledger.reruns s o := fun o => by
        funext l z
        unfold Ledger.reruns
        rw [Ledger.rerun_congr (cabinets t s)]
      have same : closedLedger c r (heard t s) = closedLedger c r s := by
        unfold closedLedger
        simp only [courses, cabinets, zoneState_congr (heard_zones t s)]
      rw [reruns, same, books.order, heard_courses, ← order] at posted
      intro released d
      exact posted.course d
    · obtain ⟨gone, told⟩ := closeCourse_page (c := c) (r := r) (s := heard t s) short found
      exact ⟨gone, told.from (fun q => heard_role t s q) (congrArg TimeBase.clock (heard_time t s))⟩
    · have idle := closeCourse_idle (c := c) (r := r) (s := heard t s) (fun d q other there => filled d q other ((courses t s d).symm.trans there))
        (fun e mem a cabinet => by
          have task : (heard t s).task? e.1 = s.task? e.1 := by rw [State.task?, heard_restock]; rfl
          rw [task]
          exact stocked e mem a ((cabinets t s e.1).symm.trans cabinet))
      exact idle
    · exact (closeCourse_noticed c r (heard t s)).from (fun q => heard_role t s q) (congrArg TimeBase.clock (heard_time t s))

end Sys2Proof.Machine
end

section
/-! PROOF. What a frame boundary does, clause by clause (R19 to R30, R48, R49, R65), and the boundary settled. -/

namespace Sys2Proof.Machine

/-! ### Standing (R23 to R25) -/

/-- The duty that a load point's zone requests (R21). -/
def boundDuty (s : State) (n : LoadId) : Nat :=
  match boundZone s n with
  | some z => z.duty
  | none => 0

section
variable {s : State} {n : LoadId}

theorem wantsHeat_iff : wantsHeat s n = true ↔ 1 ≤ (s.loads.get n).placed ∧
    (∃ r, boundZone s n = some r ∧ r.state ≠ .off ∧ r.state ≠ .fault) ∧ (s.loads.get n).effective ≠ .lockout ∧
    1 ≤ (s.loads.get n).requested := by
  unfold wantsHeat
  cases boundZone s n <;> simp [and_assoc]

theorem shedExcludes_cases {shed level : Nat} {c : LoadClass} : shedExcludes shed c level = true ↔
    (c = .deferrable ∧ 1 ≤ shed) ∨ (c = .staged ∧ (3 ≤ shed ∨ (shed = 2 ∧ level ≤ 1))) := by
  cases c <;> simp [shedExcludes]

theorem standing_idle_iff : standing s n = .idle ↔ wantsHeat s n = false := by
  unfold standing
  split
  · next idle => simp [idle]
  · next wants =>
    split <;> simp [wants]

theorem standing_eligible_iff : standing s n = .eligible ↔ wantsHeat s n = true ∧
    shedExcludes s.alloc.shed (s.loads.get n).effective (boundLevel s n) = false ∧
    feedExcludes s.feed.state (s.loads.get n).effective = false := by
  unfold standing
  split
  · next idle => simp [idle]
  · next wants =>
    have wants : wantsHeat s n = true := by simpa using wants
    split
    · next held =>
      rw [Bool.or_eq_true] at held
      simp only [reduceCtorEq, false_iff, wants, true_and, ← Bool.not_eq_true]
      tauto
    · next free =>
      rw [Bool.or_eq_true, not_or, Bool.not_eq_true, Bool.not_eq_true] at free
      simp [wants, free]

theorem standing_heldBack (wants : wantsHeat s n = true) (out : standing s n ≠ .eligible) : standing s n = .heldBack := by
  cases stands : standing s n with
  | eligible => exact absurd stands out
  | heldBack => rfl
  | idle => rw [standing_idle_iff.mp stands] at wants; cases wants

end

/-! ### The frame built -/

section
variable {s : State}

theorem buildFrame_order (s : State) : (buildFrame s).alloc.order = grantOrder s := by rw [buildFrame_eq]

theorem buildFrame_limit (s : State) : (buildFrame s).alloc.limit = s.alloc.limit := by rw [buildFrame_eq]

/-- R26: the grant order is strict. -/
theorem grantOrder_strict (s : State) : (grantOrder s).Pairwise fun a b => grantedBefore s a b = true ∧ a ≠ b :=
  (grantOrder_pairwise s).and (grantOrder_nodup s)

/-- R29: the deficit that a load point has after the build. -/
theorem buildFrame_deficit (s : State) (n : LoadId) : ((buildFrame s).loads.get n).deficit =
    (updateDeficit (standing s n) { s.loads.get n with
      granted := ((buildFrame s).loads.get n).granted, onSlices := ((buildFrame s).loads.get n).onSlices }).deficit := by
  obtain ⟨-, keeps, -⟩ := placeLoads_keeps (grantOrder s) (s, 0)
  obtain ⟨g, o, e⟩ := keeps n
  rw [buildFrame_load, placement, e]
  cases standing s n <;> rfl

theorem buildFrame_deficit_eligible {n : LoadId} (stands : standing s n = .eligible) : ((buildFrame s).loads.get n).deficit =
    if ((buildFrame s).loads.get n).granted < ((buildFrame s).loads.get n).requested then
      min 15 ((s.loads.get n).deficit + 1) else 0 := by
  obtain ⟨g, o, d, e⟩ := buildFrame_keeps s n
  have requested : ((buildFrame s).loads.get n).requested = (s.loads.get n).requested := by rw [e]
  rw [buildFrame_deficit, stands, requested]
  rfl

theorem buildFrame_deficit_heldBack {n : LoadId} (stands : standing s n = .heldBack) :
    ((buildFrame s).loads.get n).deficit = (s.loads.get n).deficit := by
  rw [buildFrame_deficit, stands]
  rfl

theorem buildFrame_deficit_idle {n : LoadId} (stands : standing s n = .idle) : ((buildFrame s).loads.get n).deficit = 0 := by
  rw [buildFrame_deficit, stands]
  rfl

end

/-! ### The inputs taken -/

section
variable (s : State)

/-- The state behind the staged move, but for what the move touches. -/
theorem boundaryMoved_eq : boundaryMoved s = { s with
    time := newFrameTime s.time, feed := (boundaryMoved s).feed
    line := { s.line with permit := (boundaryMoved s).line.permit }
    desk := (boundaryMoved s).desk, roster := (boundaryMoved s).roster, ports := (boundaryMoved s).ports } := by
  have within := stagedMove_within { s with time := newFrameTime s.time }
  have zones : (boundaryMoved s).zones = s.zones := within.zones (by simp)
  have restock : (boundaryMoved s).restock = s.restock := within.restock (by simp)
  obtain ⟨f, ⟨z, b, l, d, r, p, moved⟩, -⟩ := stagedMove_stock { s with time := newFrameTime s.time }
  have shape : boundaryMoved s = _ := moved
  rw [shape] at zones restock ⊢
  cases zones
  cases restock
  rfl

theorem boundaryMoved_samePort (p : PortId) : SamePort (s.ports.get p) ((boundaryMoved s).ports.get p) := by
  obtain ⟨f, -, ports⟩ := stagedMove_stock { s with time := newFrameTime s.time }
  exact ports p

theorem boundaryMoved_feed : (boundaryMoved s).feed = { s.feed with
    state := stagedState s.feed
    restoreDue := if s.feed.state = .restoreWait then false else s.feed.restoreDue } :=
  stagedMove_feed { s with time := newFrameTime s.time }

theorem boundaryInputs_eq : boundaryInputs s = { boundaryMoved s with
    zones := (boundaryInputs s).zones, loads := (boundaryInputs s).loads
    alloc := { s.alloc with
      sums := Table.fill 100 0, order := [], limit := s.alloc.limitSetting, shed := s.alloc.shedSetting } } := by
  have alloc : (boundaryMoved s).alloc = s.alloc := by rw [boundaryMoved_eq]
  rw [← alloc]
  rfl

theorem boundaryInputs_boundZone (n : LoadId) :
    boundZone (boundaryInputs s) n = (s.loads.get n).binding.bind (boundaryInputs s).zones.get := by
  have loads : (boundaryMoved s).loads = s.loads := by rw [boundaryMoved_eq]
  have binding : ((boundaryInputs s).loads.get n).binding = (s.loads.get n).binding := by
    simp only [boundaryInputs, takeInputs, Table.get_map, takeLoadInputs, computeRequests, loads]
  rw [boundZone, binding]

/-- R12 and R21: a load point as the boundary takes it. -/
theorem boundaryInputs_load (n : LoadId) : (boundaryInputs s).loads.get n = { s.loads.get n with
    cut := false, onSlices := [], granted := 0, effective := (s.loads.get n).resolved, placed := (s.loads.get n).rating
    requested := boundDuty (boundaryInputs s) n } := by
  have loads : (boundaryMoved s).loads = s.loads := by rw [boundaryMoved_eq]
  rw [boundDuty, boundaryInputs_boundZone]
  simp only [boundaryInputs, takeInputs, Table.get_map, takeLoadInputs, computeRequests, loads] <;> rfl

end

/-! ### CLIPPED (R30) -/

/-- Whether CLIPPED is posted for a load point. -/
def clips (s : State) (n : LoadId) : Bool :=
  decide (n ∈ s.alloc.order) && (s.loads.get n).effective == .essential &&
    decide ((s.loads.get n).granted < (s.loads.get n).requested)

/-- The CLIPPED notice of a load point, posted by the grants of a state. -/
def clippedPost (w u : State) (n : LoadId) : State :=
  post .clipped n.val ((w.loads.get n).requested - (w.loads.get n).granted) u

theorem postClippeds_filter {w : State} (ns : List LoadId) (u : State) (loads : u.loads = w.loads) (alloc : u.alloc = w.alloc) :
    ns.foldl postClipped u = (ns.filter (clips w)).foldl (clippedPost w) u := by
  induction ns generalizing u with
  | nil => rfl
  | cons n ns ih =>
    have asked : clips w n = true ↔ n ∈ u.alloc.order ∧ (u.loads.get n).effective = .essential ∧
        (u.loads.get n).granted < (u.loads.get n).requested := by
      rw [loads, alloc]
      simp [clips, and_assoc]
    rw [List.foldl_cons, postClipped]
    by_cases clipped : clips w n = true
    · rw [List.filter_cons_of_pos clipped, List.foldl_cons, if_pos (asked.mp clipped), clippedPost, ← loads]
      exact ih _ loads alloc
    · rw [List.filter_cons_of_neg clipped, if_neg (mt asked.mpr clipped)]
      exact ih u loads alloc

/-- The notices that are posted are told from the ports and the kitchen clock. -/
theorem clippedPosts_ports {w : State} (ns : List LoadId) {u v : State} (ports : u.ports = v.ports)
    (clock : u.time.clock = v.time.clock) :
    (ns.foldl (clippedPost w) u).ports = (ns.foldl (clippedPost w) v).ports := by
  induction ns generalizing u v with
  | nil => exact ports
  | cons n ns ih =>
    refine ih ?_ clock
    simp only [clippedPost, post, ports, clock]

/-! ### The boundary -/

section
variable (s : State)

/-- A frame boundary, its last part being the notices of clipped load points. -/
theorem frameBoundary_built :
    frameBoundary s = { buildFrame (boundaryInputs s) with ports := (frameBoundary s).ports } := by
  rw [frameBoundary_eq]
  exact postClippeds_eq _ _

theorem frameBoundary_loads : (frameBoundary s).loads = (buildFrame (boundaryInputs s)).loads := by rw [frameBoundary_built]

theorem frameBoundary_alloc : (frameBoundary s).alloc = (buildFrame (boundaryInputs s)).alloc := by rw [frameBoundary_built]

theorem frameBoundary_zones : (frameBoundary s).zones = (boundaryInputs s).zones := by
  rw [frameBoundary_built, buildFrame_eq]

theorem frameBoundary_feed : (frameBoundary s).feed = (boundaryMoved s).feed := by
  rw [frameBoundary_built, buildFrame_eq, boundaryInputs_eq]

/-- The blocks that a boundary leaves. -/
theorem frameBoundary_frame : frameBoundary s = { s with
    time := (frameBoundary s).time, feed := (frameBoundary s).feed, alloc := (frameBoundary s).alloc
    zones := (frameBoundary s).zones, loads := (frameBoundary s).loads
    line := { s.line with permit := (frameBoundary s).line.permit }, desk := (frameBoundary s).desk
    roster := (frameBoundary s).roster, ports := (frameBoundary s).ports } := by
  have built := frameBoundary_built s
  rw [buildFrame_eq, boundaryInputs_eq, boundaryMoved_eq] at built
  generalize frameBoundary s = w at built ⊢
  rw [built]

/-- The notices of clipped load points touch the ports alone. -/
theorem postClipped_paging (n : LoadId) : PagingOnly s (postClipped s n) := by
  unfold postClipped
  dsimp only
  split
  · exact post_touches _ _ _ _
  · exact PagingOnly.refl s

theorem postClipped_grown (n : LoadId) : Grown s (postClipped s n) := by
  unfold postClipped
  dsimp only
  split
  · exact post_grown _ _ _ _
  · exact Grown.refl s

theorem buildFrame_ports : (buildFrame (boundaryInputs s)).ports = (boundaryMoved s).ports := by
  rw [buildFrame_eq, boundaryInputs_eq]

theorem frameBoundary_samePort (p : PortId) : SamePort (s.ports.get p) ((frameBoundary s).ports.get p) := by
  have built := buildFrame_ports s
  have first := boundaryMoved_samePort s p
  rw [frameBoundary_eq]
  generalize buildFrame (boundaryInputs s) = u at built ⊢
  have posts : PagingOnly u (allLoads.foldl postClipped u) :=
    foldl_related PagingOnly.refl PagingOnly.trans postClipped postClipped_paging allLoads u
  rw [← built] at first
  exact first.trans (posts.2 p)

theorem frameBoundary_grownMoved : Grown (boundaryMoved s) (frameBoundary s) := by
  have built := buildFrame_ports s
  rw [frameBoundary_eq]
  generalize buildFrame (boundaryInputs s) = u at built ⊢
  exact (Grown.of_ports built).trans (foldl_related Grown.refl Grown.trans postClipped postClipped_grown allLoads u)

/-- R50: the feed state that a boundary reaches is posted. -/
theorem frameBoundary_noticed (moves : (frameBoundary s).feed.state ≠ s.feed.state) :
    Noticed .feedState (frameBoundary s).feed.state.code s.feed.reading s (frameBoundary s) := by
  rw [frameBoundary_feed, boundaryMoved_feed] at moves ⊢
  have posted := stagedMove_noticed (s := { s with time := newFrameTime s.time }) moves
  exact (posted.grown (frameBoundary_grownMoved s)).from (fun _ => rfl) rfl

/-- R49: the clearing event of FEED_SAG is all that a boundary does to the pages and the staff. -/
theorem frameBoundary_desk :
    SameDesk (if s.feed.state = .stage2 then clearEvent .feedSag 0 s else s) (frameBoundary s) := by
  have last : SameDesk (boundaryMoved s) (frameBoundary s) := by
    rw [frameBoundary_built, buildFrame_eq, boundaryInputs_eq]
    exact ⟨rfl, rfl⟩
  have first : SameDesk s { s with time := newFrameTime s.time } := ⟨rfl, rfl⟩
  refine SameDesk.trans ?_ ((stagedMove_desk { s with time := newFrameTime s.time }).trans last)
  dsimp only
  split
  · exact first.clearEvent _ _
  · exact first

/-- R30: the ports of a boundary, from those behind the staged move. -/
theorem frameBoundary_ports : (frameBoundary s).ports =
    ((allLoads.filter (clips (frameBoundary s))).foldl (clippedPost (frameBoundary s))
      { s with ports := (boundaryMoved s).ports }).ports := by
  have notices := postClippeds_filter (w := frameBoundary s) allLoads (buildFrame (boundaryInputs s))
    (frameBoundary_loads s).symm (frameBoundary_alloc s).symm
  refine (congrArg State.ports notices).trans (clippedPosts_ports _ ?_ ?_)
  · rw [buildFrame_eq, boundaryInputs_eq]
  · rw [buildFrame_eq, boundaryInputs_eq, boundaryMoved_eq]
    rfl

/-- Where the feed state stays, the staged move does nothing to the ports. -/
theorem boundaryMoved_ports_of_stays (stays : (frameBoundary s).feed.state = s.feed.state) :
    (boundaryMoved s).ports = s.ports := by
  rw [frameBoundary_feed, boundaryMoved_feed] at stays
  rw [boundaryMoved, stagedMove_of_stays (s := { s with time := newFrameTime s.time }) stays]

end

/-- R65: a zone's duty request, written out. -/
theorem dutyRequest_eq (r : Zone) (x : Nat) : r.dutyRequest x =
    if r.state = .off ∨ r.state = .fault ∨ r.active ≤ x then 0
    else if r.band ≤ r.active - x then 100 else (100 * (r.active - x) + (r.band - 1)) / r.band := by
  have above : ∀ d, ¬ r.band ≤ d → ceilDiv (100 * d) r.band = (100 * d + (r.band - 1)) / r.band := fun d h => by
    rw [ceilDiv, Nat.add_sub_assoc (by omega)]
  unfold Zone.dutyRequest dutyFor
  by_cases warm : r.active ≤ x
  · cases r.state <;> simp [warm]
  by_cases far : r.band ≤ r.active - x
  · cases r.state <;> simp [warm, far]
  · cases r.state <;> simp [warm, far, above _ far]

/-- R25: a class other than LOCKOUT, as the feed states exclude it. -/
theorem feedExcludes_iff {st : FeedState} {c : LoadClass} (unlocked : c ≠ .lockout) : feedExcludes st c = true ↔
    st.dark = true ∨ (st = .stage1 ∧ c ≠ .essential) ∨ (st = .stage2 ∧ c = .deferrable) := by
  cases st <;> cases c <;> simp_all [feedExcludes, FeedState.dark]

end Sys2Proof.Machine
end

section
/-! PROOF. The slices and the frame boundary, settled (02, 03 section 3.4). -/

namespace Sys2Proof.Machine

/-- R25: what a feed state keeps off, of the classes that a frame places. -/
def FeedState.keepsOff (st : FeedState) (c : LoadClass) : Prop :=
  match st with
  | .sag | .restoreWait => True
  | .stage1 => c ≠ .essential
  | .stage2 => c = .deferrable
  | .normal => False

theorem keepsOff_iff {st : FeedState} {c : LoadClass} (unlocked : c ≠ .lockout) :
    st.keepsOff c ↔ feedExcludes st c = true := by
  rw [feedExcludes_iff unlocked]
  cases st <;> simp [FeedState.keepsOff, FeedState.dark]

section
variable (s : State) (n : LoadId)

theorem boundary_bound :
    boundZone (boundaryInputs s) n = (s.loads.get n).binding.bind (frameBoundary s).zones.get := by
  rw [boundaryInputs_boundZone, frameBoundary_zones]

/-- R23: the conditions of a load point's own. -/
theorem boundary_wants : wantsHeat (boundaryInputs s) n = true ↔ 1 ≤ (s.loads.get n).rating ∧
    (∃ r, boundZone (boundaryInputs s) n = some r ∧ r.state ≠ .off ∧ r.state ≠ .fault) ∧
    (s.loads.get n).resolved ≠ .lockout ∧ 1 ≤ boundDuty (boundaryInputs s) n := by
  rw [wantsHeat_iff, boundaryInputs_load]

theorem frameBoundary_shed : (frameBoundary s).alloc.shed = (boundaryInputs s).alloc.shed := by
  rw [frameBoundary_alloc, buildFrame_eq]

theorem frameBoundary_inputFeed : (frameBoundary s).feed = (boundaryInputs s).feed := by
  rw [frameBoundary_feed, boundaryInputs_eq]

/-- R23 to R25: a load point is eligible that wants heat and that neither the shed level nor the feed state keeps off. -/
theorem boundary_eligible : standing (boundaryInputs s) n = .eligible ↔ wantsHeat (boundaryInputs s) n = true ∧
    ¬ (((s.loads.get n).resolved = .deferrable ∧ 1 ≤ (frameBoundary s).alloc.shed) ∨
      ((s.loads.get n).resolved = .staged ∧ (3 ≤ (frameBoundary s).alloc.shed ∨
        ((frameBoundary s).alloc.shed = 2 ∧ boundLevel (boundaryInputs s) n ≤ 1)))) ∧
    ¬ (frameBoundary s).feed.state.keepsOff (s.loads.get n).resolved := by
  have effective : ((boundaryInputs s).loads.get n).effective = (s.loads.get n).resolved := by rw [boundaryInputs_load]
  rw [standing_eligible_iff, effective, ← frameBoundary_shed, ← frameBoundary_inputFeed, ← Bool.not_eq_true,
    ← Bool.not_eq_true, shedExcludes_cases]
  refine and_congr_right fun wants => and_congr_right fun _ => not_congr (keepsOff_iff ?_).symm
  exact ((boundary_wants s n).mp wants).2.2.1

/-- R26: the four keys, over the state before the boundary. -/
theorem boundary_before {a b : LoadId} (h : grantedBefore (boundaryInputs s) a b = true ∧ a ≠ b) :
    (s.loads.get a).resolved.code < (s.loads.get b).resolved.code ∨
      ((s.loads.get a).resolved.code = (s.loads.get b).resolved.code ∧
        (boundLevel (boundaryInputs s) b < boundLevel (boundaryInputs s) a ∨
          (boundLevel (boundaryInputs s) a = boundLevel (boundaryInputs s) b ∧
            ((s.loads.get b).deficit < (s.loads.get a).deficit ∨
              ((s.loads.get a).deficit = (s.loads.get b).deficit ∧ a < b))))) := by
  obtain ⟨first, apart⟩ := h
  have apart : a.val ≠ b.val := fun e => apart (Fin.ext e)
  rw [grantedBefore_iff, boundaryInputs_load, boundaryInputs_load] at first
  dsimp only at first
  rw [Fin.lt_def]
  omega

/-- A load point of the new frame: the inputs taken, with its placement and its deficit. -/
theorem frameBoundary_load : (frameBoundary s).loads.get n = { s.loads.get n with
    effective := (s.loads.get n).resolved, placed := (s.loads.get n).rating, cut := false
    requested := boundDuty (boundaryInputs s) n, granted := ((frameBoundary s).loads.get n).granted
    onSlices := ((frameBoundary s).loads.get n).onSlices, deficit := ((frameBoundary s).loads.get n).deficit } := by
  obtain ⟨g, o, d, e⟩ := buildFrame_keeps (boundaryInputs s) n
  rw [frameBoundary_loads, e, boundaryInputs_load]

theorem frameBoundary_order : (frameBoundary s).alloc.order = grantOrder (boundaryInputs s) := by
  rw [frameBoundary_alloc, buildFrame_order]

/-- R27 and R28, over the new frame. -/
theorem frameBoundary_placed {w : State} (reached : frameBoundary s = w) :
    PlacedInTurn w w.alloc.order (fun _ => 0) 0 := by
  have loads := reached ▸ frameBoundary_loads s
  have alloc := reached ▸ frameBoundary_alloc s
  have order := reached ▸ frameBoundary_order s
  have same : Matches w (placement (boundaryInputs s)) := by
    have built := buildFrame_matches (boundaryInputs s)
    generalize buildFrame (boundaryInputs s) = u at built loads alloc
    obtain ⟨placed, requested, granted, onSlices, limit, sums⟩ := built
    rw [← loads] at placed requested granted onSlices
    rw [← alloc] at limit sums
    exact ⟨placed, requested, granted, onSlices, limit, sums⟩
  have zero : (boundaryInputs s).alloc.sums.get = fun _ => 0 := funext (boundaryInputs_blank s).sums
  rw [order, ← zero]
  exact placedInTurn (grantOrder (boundaryInputs s)) (grantOrder_nodup _) (boundaryInputs s) 0 same

/-- The settings are in force (R21). -/
theorem frameBoundary_settings : (frameBoundary s).alloc.limit = s.alloc.limitSetting ∧
    (frameBoundary s).alloc.limitSetting = s.alloc.limitSetting ∧ (frameBoundary s).alloc.shed = s.alloc.shedSetting ∧
    (frameBoundary s).alloc.shedSetting = s.alloc.shedSetting := by
  rw [frameBoundary_alloc, buildFrame_eq, boundaryInputs_eq]
  exact ⟨rfl, rfl, rfl, rfl⟩

/-- R65: every zone computes its duty request. -/
theorem frameBoundary_duties : (frameBoundary s).zones = s.zones.map (Option.map fun r =>
    { r with duty := r.dutyRequest (zoneReading s r) }) := by
  refine Table.ext fun z => ?_
  rw [frameBoundary_zone, Table.get_map]

theorem frameBoundary_slicePower (i : Fin 100) :
    slicePower (frameBoundary s) i.val = (frameBoundary s).alloc.sums.get i := by
  rw [frameBoundary_alloc, ← (boundaryInputs_blank s).slicePower i]
  simp only [slicePower, frameBoundary_loads]

theorem frameBoundary_within_limit (i : Fin 100) : (frameBoundary s).alloc.sums.get i = 0 ∨
    (frameBoundary s).alloc.sums.get i ≤ (frameBoundary s).alloc.limit := by
  rw [frameBoundary_alloc]
  exact (boundaryInputs_blank s).within i

theorem frameBoundary_peak : (∀ i, (frameBoundary s).alloc.sums.get i ≤ (frameBoundary s).alloc.peak) ∧
    ∃ i, (frameBoundary s).alloc.sums.get i = (frameBoundary s).alloc.peak := by
  rw [frameBoundary_alloc, buildFrame_eq]
  exact largestSum_spec _

theorem frameBoundary_grants : let k := (frameBoundary s).loads.get n
    k.granted ≤ k.requested ∧ k.onSlices.length = k.granted ∧ k.onSlices.Nodup ∧ (∀ i ∈ k.onSlices, i < 100) := by
  rw [frameBoundary_loads]
  exact (boundaryInputs_blank s).load n

variable {n}

/-- R28: a load point that is short would bring every other slice over the limit. -/
theorem frameBoundary_short (stands : standing (boundaryInputs s) n = .eligible)
    (short : ((frameBoundary s).loads.get n).granted < ((frameBoundary s).loads.get n).requested) (i : Fin 100)
    (off : i.val ∉ ((frameBoundary s).loads.get n).onSlices) :
    (frameBoundary s).alloc.limit < (frameBoundary s).alloc.sums.get i + ((frameBoundary s).loads.get n).placed := by
  have placed : n ∈ (frameBoundary s).alloc.order := (frameBoundary_order s).symm ▸ mem_grantOrder.mpr stands
  generalize reached : frameBoundary s = w at placed short off ⊢
  obtain ⟨-, -, -, -, full⟩ := (frameBoundary_placed s reached).load placed
  exact full short i off

theorem frameBoundary_unplaced (out : standing (boundaryInputs s) n ≠ .eligible) :
    ((frameBoundary s).loads.get n).granted = 0 ∧ ((frameBoundary s).loads.get n).onSlices = [] := by
  rw [frameBoundary_loads]
  exact (boundaryInputs_blank s).of_not_mem (mt mem_grantOrder.mp out)

/-- R29: the deficits. -/
theorem frameBoundary_deficit :
    (standing (boundaryInputs s) n = .eligible → ((frameBoundary s).loads.get n).deficit =
      if ((frameBoundary s).loads.get n).granted < ((frameBoundary s).loads.get n).requested then
        min 15 ((s.loads.get n).deficit + 1) else 0) ∧
    (standing (boundaryInputs s) n = .heldBack → ((frameBoundary s).loads.get n).deficit = (s.loads.get n).deficit) ∧
    (standing (boundaryInputs s) n = .idle → ((frameBoundary s).loads.get n).deficit = 0) := by
  have before : ((boundaryInputs s).loads.get n).deficit = (s.loads.get n).deficit := by rw [boundaryInputs_load]
  rw [frameBoundary_loads, ← before]
  exact ⟨buildFrame_deficit_eligible, buildFrame_deficit_heldBack, buildFrame_deficit_idle⟩

end

theorem sliceAdvance_next {s : State} (early : s.time.slice < 99) :
    sliceAdvance s = { s with time := { s.time with slice := s.time.slice + 1, sliceTicks := 0 } } := if_pos early

theorem sliceAdvance_last {s : State} (last : 99 ≤ s.time.slice) : sliceAdvance s = frameBoundary s :=
  if_neg (Nat.not_lt.mpr last)

/-- Settles O18: each clause of the boundary is read off the frame built from its inputs. -/
theorem slicesEndInTheFrameBoundary : Obligations.SlicesEndInTheFrameBoundary := by
  refine ⟨fun s quiet => ⟨fun early => ?_, fun last => ?_⟩, fun s quiet => ⟨frameBoundary s, ?_, ?_⟩⟩
  · rw [exec_quiet (f := sliceAdvance) rfl quiet, sliceAdvance_next early]
  · rw [exec_quiet (f := sliceAdvance) rfl quiet, sliceAdvance_last last, exec_quiet (f := frameBoundary) rfl quiet]
  · exact exec_quiet (f := frameBoundary) rfl quiet
  have inTurn : ∀ w, frameBoundary s = w → PlacedInTurn w w.alloc.order (fun _ => 0) 0 := fun _ => frameBoundary_placed s
  have desk := frameBoundary_desk s
  have zones := frameBoundary_duties s
  simp only [dutyRequest_eq, zoneReading] at zones
  have wants := fun n => boundary_wants s n
  have stands := fun n => boundary_eligible s n
  have ordered := (grantOrder_strict (boundaryInputs s)).imp fun {a b} => boundary_before (s := s) (a := a) (b := b)
  have member : ∀ n, n ∈ (frameBoundary s).alloc.order ↔ standing (boundaryInputs s) n = .eligible := fun n => by
    rw [frameBoundary_order]
    exact mem_grantOrder
  simp only [boundLevel, boundDuty, boundary_bound] at wants stands ordered
  rw [← frameBoundary_order] at ordered
  have time := frameBoundary_time s
  have feed := (frameBoundary_feed s).trans (boundaryMoved_feed s)
  have noticed := frameBoundary_noticed s
  have settings := frameBoundary_settings s
  have power := frameBoundary_slicePower s
  have within := frameBoundary_within_limit s
  have peak := frameBoundary_peak s
  have grants := frameBoundary_grants s
  have ports := frameBoundary_ports s
  have still := boundaryMoved_ports_of_stays s
  have frame := frameBoundary_frame s
  have samePort := frameBoundary_samePort s
  have load := frameBoundary_load s
  simp only [boundDuty, boundary_bound] at load
  have deficit := fun n => frameBoundary_deficit s (n := n)
  have short := fun n => frameBoundary_short s (n := n)
  have unplaced := fun n => frameBoundary_unplaced s (n := n)
  generalize reached : frameBoundary s = w at *
  generalize boundaryInputs s = b at *
  refine ⟨time, feed, noticed, desk, settings, zones, ?_, inTurn w rfl, fun i => ⟨power i, within i⟩, peak, grants,
    ⟨(boundaryMoved s).ports, still, ports⟩, frame, samePort⟩
  intro zone level cls request wanting shedOut feedOut eligible before
  have wanting_iff : ∀ n, wanting n ↔ wantsHeat b n = true := fun n => (wants n).symm
  have eligible_iff : ∀ n, eligible n ↔ standing b n = .eligible := fun n => by
    rw [stands n, ← wanting_iff]
    exact Iff.rfl
  refine ⟨fun n => (member n).trans (eligible_iff n).symm, ordered, fun n => ?_⟩
  intro l k
  obtain ⟨placed, held, idle⟩ := deficit n
  refine ⟨load n, fun e => placed ((eligible_iff n).mp e), fun want out => held ?_, fun idles => idle ?_,
    fun out => unplaced n (mt (eligible_iff n).mpr out), fun e => short n ((eligible_iff n).mp e)⟩
  · exact standing_heldBack ((wanting_iff n).mp want) (mt (eligible_iff n).mpr out)
  · exact standing_idle_iff.mpr (by simpa using mt (wanting_iff n).mpr idles)

end Sys2Proof.Machine
end

section
/-! PROOF. A conversion handed to a zone (R56, R57, R67 to R69, R74 to R76): what it can come to, and what it leaves of the other
zones. -/

namespace Sys2Proof.Machine

/-! ### What a conversion handed to a zone can come to -/

/-- A record as the tests of a conversion leave it, before any entry. -/
def Zone.Tested (r k : Zone) : Prop := k = r ∨ ∃ v, k = r.overTest v

section
variable {c : ChannelId} {v : Option Nat} {failed : Bool} {z : ZoneId} {r : Zone} {s : State}

theorem handZone_of_none (none_ : s.zones.get z = none) : handZone c v failed s z = s := by rw [handZone, none_]

theorem handZone_of_other (zone : s.zones.get z = some r) (other : r.channel ≠ c) : handZone c v failed s z = s := by
  rw [handZone, zone]
  exact if_pos other

theorem handZone_of_fault (zone : s.zones.get z = some r) (names : r.channel = c) (fault : r.state = .fault) :
    handZone c v failed s z = s.setZone z (r.countClean v) := by
  rw [handZone, zone]
  exact (if_neg (not_not.mpr names)).trans (if_pos fault)

theorem handZone_of_reading {x : Nat} (zone : s.zones.get z = some r) (names : r.channel = c) (sound : r.state ≠ .fault) :
    handZone c (some x) failed s z = takeReading z r x s := by
  rw [handZone, zone]
  exact (if_neg (not_not.mpr names)).trans (if_neg sound)

theorem handZone_of_rail (zone : s.zones.get z = some r) (names : r.channel = c) (sound : r.state ≠ .fault) :
    handZone c none failed s z = if failed then enterFault z .sensor s else s := by
  rw [handZone, zone]
  exact (if_neg (not_not.mpr names)).trans (if_neg sound)

theorem setZone_self (zone : s.zones.get z = some r) : s.setZone z r = s := by
  rw [State.setZone, ← zone, Table.set_get]

/-- The ends of a conversion that was handed to a zone. -/
inductive HandedTo (z : ZoneId) (u : State) : State → Prop
  | stays : HandedTo z u u
  | faults (cause : FaultCause) : HandedTo z u (enterFault z cause u)
  | ready : HandedTo z u (enterReady z u)
  | moves (st : ZoneState) : st.settled → HandedTo z u (enterQuietly z st u)

theorem takeReading_ends (z : ZoneId) (r : Zone) (x : Nat) (zone : s.zones.get z = some r) :
    ∃ k, r.Tested k ∧ HandedTo z (s.setZone z k) (takeReading z r x s) := by
  have self := setZone_self zone
  unfold takeReading
  split
  · exact ⟨r, .inl rfl, by rw [self]; exact .faults _⟩
  split
  · exact ⟨r, .inl rfl, by rw [self]; exact .stays⟩
  refine ⟨r.overTest x, .inr ⟨x, rfl⟩, ?_⟩
  dsimp only
  split
  · exact .faults _
  have quiet : ∀ st : ZoneState, st.settled → HandedTo z (s.setZone z (r.overTest x)) (enterQuietly z st (s.setZone z (r.overTest x))) :=
    fun st settled => .moves st settled
  unfold followReading
  split
  · split
    · split
      · exact .ready
      · exact quiet .soak ⟨nofun, nofun, nofun, nofun⟩
    · exact .stays
  · split
    · exact .stays
    · exact quiet .preheat ⟨nofun, nofun, nofun, nofun⟩
  · split
    · exact .stays
    · exact quiet .recover ⟨nofun, nofun, nofun, nofun⟩
  · split
    · exact .ready
    · exact .stays
  all_goals exact .stays

theorem Zone.countClean_eq (r : Zone) (v : Option Nat) : ∃ n, r.countClean v = { r with cleanCount := n } := by
  unfold Zone.countClean
  split
  · split
    · exact ⟨_, rfl⟩
    · exact ⟨_, rfl⟩
  · exact ⟨_, rfl⟩

/-- A zone that does not name the channel is left; one in FAULT counts; another is put to the tests and moves. -/
theorem handZone_ends (zone : s.zones.get z = some r) : handZone c v failed s z = s ∨
    (r.channel = c ∧ r.state = .fault ∧ ∃ n, handZone c v failed s z = s.setZone z { r with cleanCount := n }) ∨
    (r.channel = c ∧ r.state ≠ .fault ∧ ∃ k, r.Tested k ∧ HandedTo z (s.setZone z k) (handZone c v failed s z)) := by
  by_cases names : r.channel = c
  · right
    by_cases fault : r.state = .fault
    · obtain ⟨n, counted⟩ := r.countClean_eq v
      exact .inl ⟨names, fault, n, by rw [handZone_of_fault zone names fault, counted]⟩
    · refine .inr ⟨names, fault, ?_⟩
      cases v with
      | some x =>
        rw [handZone_of_reading zone names fault]
        exact takeReading_ends z r x zone
      | none =>
        rw [handZone_of_rail zone names fault]
        refine ⟨r, .inl rfl, ?_⟩
        rw [setZone_self zone]
        split
        · exact .faults _
        · exact .stays
  · exact .inl (handZone_of_other zone names)

theorem Zone.overTest_eq (r : Zone) (v : Nat) : ∃ count armed, r.overTest v = { r with overCount := count, overArmed := armed } := by
  unfold Zone.overTest
  split
  · exact ⟨_, _, rfl⟩
  split
  · exact ⟨_, r.overArmed, rfl⟩
  · exact ⟨r.overCount, r.overArmed, rfl⟩

/-- The tests touch the over test's count and mark alone. -/
theorem Zone.Tested.eq {k : Zone} (h : r.Tested k) : ∃ count armed, k = { r with overCount := count, overArmed := armed } := by
  rcases h with rfl | ⟨v, rfl⟩
  · exact ⟨k.overCount, k.overArmed, rfl⟩
  · exact r.overTest_eq v

end

/-! ### What an entry leaves of the other zones -/

/-- One zone's record is as services leave it. -/
def ServicedAt (z : ZoneId) (s t : State) : Prop :=
  (∀ r, s.zones.get z = some r → ∃ k, t.zones.get z = some k ∧ Serviced r k) ∧ (s.zones.get z = none → t.zones.get z = none)

section
variable {z y : ZoneId} {s t u : State}

theorem AllServiced.at (h : AllServiced s t) (z : ZoneId) : ServicedAt z s t := ⟨h.record z, h.undefined z⟩

theorem ServicedAt.of_kept (h : t.zones.get z = s.zones.get z) : ServicedAt z s t :=
  ⟨fun r zone => ⟨r, by rw [h, zone], .refl r⟩, fun none_ => by rw [h, none_]⟩

theorem ServicedAt.trans (h : ServicedAt z s t) (k : ServicedAt z t u) : ServicedAt z s u := by
  refine ⟨fun r zone => ?_, fun none_ => k.2 (h.2 none_)⟩
  obtain ⟨r', zone', first⟩ := h.1 r zone
  obtain ⟨r'', zone'', second⟩ := k.1 r' zone'
  exact ⟨r'', zone'', first.trans second⟩

theorem OthersKept.at (h : OthersKept y s t) (other : z ≠ y) : ServicedAt z s t := .of_kept (h z other)

theorem enterReady_servicedAt (other : z ≠ y) (s : State) : ServicedAt z s (enterReady y s) := by
  have k := allServiced_ops
  have entered : OthersKept y s (readied y s) :=
    ((moveZone_others y .ready s).trans (.of_zones rfl)).trans (refreshStandby_others y _)
  rw [enterReady_eq]
  split
  · exact (entered.at other).trans (((k.rerunCourses y _).trans (k.testRestock y _)).at z)
  · exact entered.at other

theorem enterQuietly_others (y : ZoneId) (st : ZoneState) (s : State) : OthersKept y s (enterQuietly y st s) :=
  (moveZone_others y st s).trans (testRestock_others y _)

/-- R76: an entry into FAULT, with what the raise and the notice follow. -/
theorem enterFault_eq (y : ZoneId) (cause : FaultCause) (s : State) : enterFault y cause s =
    postZoneState y .fault (raise cause.raised
      (((leaveService y .fault (endProgram endsWithFault y) s).changeZone y fun r => { r with faultCause := cause }).zoneGroup y)
      y.val ((leaveService y .fault (endProgram endsWithFault y) s).changeZone y fun r => { r with faultCause := cause })) := by
  rw [← endProgramFault_eq]
  rfl

/-- What an entry into FAULT does behind the leaving of service. -/
theorem enterFault_within (y : ZoneId) (cause : FaultCause) (s : State) :
    Within [.paging, .ports] ((leaveService y .fault (endProgram endsWithFault y) s).changeZone y fun r =>
      { r with faultCause := cause }) (enterFault y cause s) := by
  rw [enterFault_eq]
  exact (raise_touches _ _ _ _).within.trans ((within_ports _ _).mono (by simp))

theorem fault_departed {r : Zone} (zone : s.zones.get y = some r) : Departed endsWithFault y .fault r s
    (leaveService y .fault (endProgram endsWithFault y) s) :=
  leaveService_departed (.inr rfl) rfl zone

/-- The record of a zone that has entered FAULT (R76). -/
def Zone.faulted (r : Zone) (cause : FaultCause) : Zone :=
  { r.enter .fault with
    program := r.program.map (Program.ended endsWithFault)
    cabinet := if r.kind = .warmer then r.cabinet.map fun c => { c with reserved := 0 } else r.cabinet
    faultCause := cause }

theorem enterFault_record {r : Zone} (zone : s.zones.get y = some r) (cause : FaultCause) :
    (enterFault y cause s).zones.get y = some (r.faulted cause) := by
  rw [(enterFault_within y cause s).zones (by simp), changeZone_of (fault_departed zone).zone, setZone_get, if_pos rfl]
  rfl

theorem enterFault_servicedAt {r : Zone} (other : z ≠ y) (zone : s.zones.get y = some r) (cause : FaultCause) :
    ServicedAt z s (enterFault y cause s) := by
  refine ((setZone_others y _ s).at other).trans (((fault_departed zone).served.at z).trans ?_)
  refine ((changeZone_others y (fun r => { r with faultCause := cause }) _).at other).trans (.of_kept ?_)
  rw [(enterFault_within y cause s).zones (by simp)]

/-- A conversion handed to one zone does to another what services do. -/
theorem handZone_servicedAt {c : ChannelId} {v : Option Nat} {failed : Bool} (other : z ≠ y) (s : State) :
    ServicedAt z s (handZone c v failed s y) := by
  cases zone : s.zones.get y with
  | none =>
    rw [handZone_of_none zone]
    exact .of_kept rfl
  | some r =>
    rcases handZone_ends (c := c) (v := v) (failed := failed) zone with same | ⟨-, -, n, eq⟩ | ⟨-, -, k, -, ends⟩
    · rw [same]
      exact .of_kept rfl
    · rw [eq]
      exact (setZone_others y _ s).at other
    · have set := (setZone_others y k s).at other
      have now : (s.setZone y k).zones.get y = some k := setZone_same y k s
      generalize s.setZone y k = u at set now ends
      generalize handZone c v failed s y = w at ends ⊢
      cases ends with
      | stays => exact set
      | faults cause => exact set.trans (enterFault_servicedAt other now cause)
      | ready => exact set.trans (enterReady_servicedAt other _)
      | moves st settled => exact set.trans ((enterQuietly_others y st _).at other)

end

end Sys2Proof.Machine
end

section
/-! PROOF. A zone in FAULT while others move: it keeps its record, no task opens on its cabinet and no course reserves there (R129, R139). -/

namespace Sys2Proof.Machine

/-- No course holds an entry on a cabinet. -/
def Unheld (z : ZoneId) (s : State) : Prop := ∀ d q, s.course? d = some q → ∀ e ∈ q.entries, e.1 ≠ z

/-- A zone in FAULT with its record; where `free` holds it has no task, and where `clear` holds no course holds an entry on it. -/
structure Dormant (z : ZoneId) (r : Zone) (free clear : Prop) (s : State) : Prop where
  zone : s.zones.get z = some r
  fault : r.state = .fault
  task : free → s.task? z = none
  unheld : clear → Unheld z s

section
variable {z y : ZoneId} {r : Zone} {free clear : Prop} {s t : State}

theorem Dormant.state (h : Dormant z r free clear s) : s.zoneState z = .fault := (zoneState_of h.zone).trans h.fault

theorem Dormant.of_same (h : Dormant z r free clear s) (zone : t.zones.get z = s.zones.get z) (restock : t.restock = s.restock)
    (courses : t.courses = s.courses) : Dormant z r free clear t :=
  ⟨zone.trans h.zone, h.fault, fun f => by rw [State.task?, restock]; exact h.task f, fun c d q live =>
    h.unheld c d q (by rw [State.course?, ← courses]; exact live)⟩

theorem Dormant.within {bs : List Block} (h : Dormant z r free clear s) (k : Within bs s t) (zones : Block.zones ∉ bs)
    (restock : Block.restock ∉ bs) (courses : Block.courses ∉ bs) : Dormant z r free clear t :=
  h.of_same (congrArg (Table.get · z) (k.zones zones)) (k.restock restock) (k.courses courses)

theorem Dormant.others {bs : List Block} (h : Dormant z r free clear s) (k : Within bs s t) (others : OthersKept y s t) (apart : z ≠ y)
    (restock : Block.restock ∉ bs) (courses : Block.courses ∉ bs) : Dormant z r free clear t :=
  h.of_same (others z apart) (k.restock restock) (k.courses courses)

theorem Dormant.fold {α : Type} {f : State → α → State} (kept : ∀ s a, Dormant z r free clear s → Dormant z r free clear (f s a)) (l : List α) :
    ∀ s : State, Dormant z r free clear s → Dormant z r free clear (l.foldl f s) := by
  induction l with
  | nil => exact fun _ h => h
  | cons a l ih => exact fun s h => ih _ (kept s a h)

theorem Dormant.refresh (h : Dormant z r free clear s) (y : ZoneId) : Dormant z r free clear (refreshStandby y s) :=
  h.of_same (idleKept_ops.refresh y s z (by rw [h.state]; decide) (by rw [h.state]; decide))
    ((refreshStandby_within y s).restock (by decide)) ((refreshStandby_within y s).courses (by decide))

theorem Dormant.report (h : Dormant z r free clear s) (y : ZoneId) (wakes : Bool) : Dormant z r free clear (report y wakes s) :=
  h.of_same (idleKept_ops.report y wakes s z (by rw [h.state]; decide) (by rw [h.state]; decide))
    ((report_within y wakes s).restock (by decide)) ((report_within y wakes s).courses (by decide))

/-- R129: no task is opened on the cabinet of a zone in FAULT. -/
theorem Dormant.testRestock (h : Dormant z r free clear s) (y : ZoneId) : Dormant z r free clear (testRestock y s) := by
  refine ⟨(idleKept_ops.testRestock y s z (by rw [h.state]; decide) (by rw [h.state]; decide)).trans h.zone, h.fault, fun f => ?_,
    fun c d q live => h.unheld c d q ?_⟩
  · by_cases same : y = z
    · subst same
      have still : taskDue s y = false := by
        unfold taskDue
        split
        · simp [h.state]
        · rfl
      rw [testRestock_of_not_due still]
      exact h.task f
    · rw [testRestock_task?_other same]
      exact h.task f
  · rw [State.course?, ← (testRestock_touches y s).within.courses (by decide)]
    exact live

theorem Dormant.closeTask (h : Dormant z r free clear s) (y : ZoneId) (how : TaskClosing) : Dormant z r free clear (closeTask y how s) := by
  refine ⟨(idleKept_ops.closeTask y how s z (by rw [h.state]; decide) (by rw [h.state]; decide)).trans h.zone, h.fault, fun f => ?_,
    fun c d q live => h.unheld c d q ?_⟩
  · have free := h.task f
    rw [State.task?, closeTask_restock]
    refine List.find?_eq_none.mpr fun t mem => ?_
    exact List.find?_eq_none.mp free t (List.mem_filter.mp mem).1
  · rw [State.course?, ← (closeTask_touches y how s).within.courses (by decide)]
    exact live

/-- A course may be changed that holds nothing on the cabinet then. -/
theorem Dormant.setCourse {c : CourseId} {q : Course} (h : Dormant z r free clear s) (apart : clear → ∀ e ∈ q.entries, e.1 ≠ z) :
    Dormant z r free clear (s.setCourse c (some q)) := by
  refine ⟨h.zone, h.fault, h.task, fun k d p live => ?_⟩
  rw [setCourse_course?] at live
  split at live
  · cases live
    exact apart k
  · exact h.unheld k d p live

theorem mem_addEntry {z : ZoneId} {n : Nat} {es : List (ZoneId × Nat)} {e : ZoneId × Nat} (mem : e ∈ addEntry z n es) :
    e.1 = z ∨ ∃ d ∈ es, d.1 = e.1 := by
  unfold addEntry at mem
  split at mem
  · obtain ⟨d, there, rfl⟩ := List.mem_map.mp mem
    refine .inr ⟨d, there, ?_⟩
    split
    · rfl
    · rfl
  · rcases List.mem_append.mp mem with old | new
    · exact .inr ⟨e, old, rfl⟩
    · exact .inl (congrArg Prod.fst (List.mem_singleton.mp new))

/-- R139: a pass reserves in READY zones alone. -/
theorem Dormant.passAt (h : Dormant z r free clear s) (c : CourseId) (d : Option ZoneId) (y : ZoneId) :
    Dormant z r free clear (passAt c d s y) := by
  unfold Machine.passAt
  split
  · next q b live cabinet =>
    split
    · next can =>
      have ready : s.zoneState y = .ready := by
        simp only [canReserve, cabinet, Bool.and_eq_true, beq_iff_eq] at can
        exact can.1.1.1.2
      have apart : z ≠ y := fun same => by
        rw [← same, h.state] at ready
        cases ready
      have reserved : Dormant z r free clear (reservePlates y (min b.available q.need) s) := by
        rw [reservePlates, cabinet]
        exact (h.others (setCabinet_within y _ s) (changeZone_others y _ s) apart (by decide) (by decide)).report y false
      have tested : Dormant z r free clear (if d = some y then reservePlates y (min b.available q.need) s
          else Machine.testRestock y (reservePlates y (min b.available q.need) s)) := by
        split
        · exact reserved
        · exact reserved.testRestock y
      dsimp only
      unfold Machine.changeCourse
      split
      · next p there =>
        refine tested.setCourse fun k e mem => ?_
        rcases mem_addEntry mem with its | ⟨old, held, same⟩
        · exact its ▸ apart.symm
        · exact same ▸ tested.unheld k c p there old held
      · exact tested
    · exact h
  · exact h

theorem Dormant.wakeListed (h : Dormant z r free clear s) (y : ZoneId) : Dormant z r free clear (wakeListed s y) := by
  unfold Machine.wakeListed
  split
  · next standby =>
    have apart : z ≠ y := fun same => by
      have state := standby.1
      rw [← same, h.state] at state
      cases state
    refine Dormant.testRestock ?_ y
    have woken : OthersKept y s (wakeStandby y s) := by
      rw [wakeStandby, if_pos standby.1]
      exact moveZone_others y _ s
    exact h.others (wakeStandby_within y s) woken apart (by decide) (by decide)
  · exact h

theorem Dormant.settleCourse (h : Dormant z r free clear s) (c : CourseId) (fired : Bool) : Dormant z r free clear (settleCourse c fired s) := by
  unfold Machine.settleCourse
  split
  · next q live =>
    have settled := fun b => h.setCourse (c := c) (q := { q with short := b }) fun k => h.unheld k c q live
    have posted : ∀ {u : State} (v : Nat), Dormant z r free clear u → Dormant z r free clear (post .courseState c.val v u) :=
      fun v k => k.of_same rfl rfl rfl
    dsimp only
    split
    · split
      · exact posted 1 (settled false)
      split
      · exact posted 1 ((settled false).within (clearEvent_touches _ _ _).within (by decide) (by decide) (by decide))
      · exact settled false
    · refine Dormant.fold (fun s y h => h.wakeListed y) _ _ ?_
      split
      · exact posted 2 ((settled true).within (raise_touches _ _ _ _).within (by decide) (by decide) (by decide))
      · exact settled true
  · exact h

theorem Dormant.runPass (h : Dormant z r free clear s) (c : CourseId) (d : Option ZoneId) (fired : Bool) :
    Dormant z r free clear (runPass c d fired s) := by
  unfold Machine.runPass
  split
  · exact (Dormant.fold (fun s y h => h.passAt c d y) _ _ h).settleCourse c fired
  · exact h

theorem Dormant.rerunCourses (h : Dormant z r free clear s) (y : ZoneId) : Dormant z r free clear (rerunCourses y s) := by
  refine Dormant.fold (fun s c h => ?_) _ s h
  unfold Machine.rerunCourse
  split
  · split
    · exact h.runPass c _ _
    · exact h
  · exact h

theorem Dormant.removeEntry (h : Dormant z r free clear s) (y : ZoneId) (c : CourseId) : Dormant z r free clear (removeEntry y s c) := by
  unfold Machine.removeEntry Machine.changeCourse
  split
  · next q live => exact h.setCourse fun k e mem => h.unheld k c q live e (List.mem_filter.mp mem).1
  · exact h

theorem Dormant.releaseCabinet (h : Dormant z r free clear s) (apart : z ≠ y) : Dormant z r free clear (releaseCabinet y s) := by
  cases cabinet : s.cabinet? y with
  | none => rwa [releaseCabinet_of_none cabinet]
  | some b =>
    rw [releaseCabinet_of_some cabinet]
    refine Dormant.fold (fun s c h => h.runPass c none false) _ _ ?_
    have removed := Dormant.fold (fun s c h => h.removeEntry y c) (holdersOf y s) s h
    exact (removed.others (setCabinet_within y _ _) (changeZone_others y _ _) apart (by decide) (by decide)).report y false

theorem leaving_others (y : ZoneId) (st : ZoneState) (s : State) : OthersKept y s (leaving y st s) := fun z other => by
  rw [leaving_zones]
  exact changeZone_others y _ s z other

theorem endProgram_others {q : Zone} (zone : s.zones.get y = some q) : OthersKept y s (endProgram endsWithFault y s) := fun z other => by
  rw [(endProgram_ends (ends := endsWithFault) rfl zone).zones, Table.get_set_ne _ _ other]

theorem Dormant.enterFault {q : Zone} (h : Dormant z r free clear s) (apart : z ≠ y) (zone : s.zones.get y = some q) (cause : FaultCause) :
    Dormant z r free clear (enterFault y cause s) := by
  have left := h.others (leaving_within y .fault s) (leaving_others y .fault s) apart (by decide) (by decide)
  have there : (leaving y .fault s).zones.get y = some (q.enter .fault) := by rw [leaving_record zone, Table.get_set_same]
  have done := endProgram_ends (ends := endsWithFault) rfl there
  have ended := left.others done.within (endProgram_others there) apart (by decide) (by decide)
  have gone : Dormant z r free clear (leaveService y .fault (endProgram endsWithFault y) s) :=
    (ended.releaseCabinet apart).closeTask y .withdrawn
  have caused := gone.others (changeZone_within y (fun r => { r with faultCause := cause }) _) (changeZone_others y _ _) apart
    (by decide) (by decide)
  exact caused.within (enterFault_within y cause s) (by decide) (by decide) (by decide)

theorem Dormant.enterReady (h : Dormant z r free clear s) (apart : z ≠ y) : Dormant z r free clear (enterReady y s) := by
  have entered : OthersKept y s (readied y s) :=
    ((moveZone_others y .ready s).trans (.of_zones rfl)).trans (refreshStandby_others y _)
  have readied := h.others (readied_within y s) entered apart (by decide) (by decide)
  rw [enterReady_eq]
  split
  · exact (readied.rerunCourses y).testRestock y
  · exact readied

theorem Dormant.enterQuietly (h : Dormant z r free clear s) (apart : z ≠ y) (st : ZoneState) :
    Dormant z r free clear (enterQuietly y st s) :=
  (h.others (moveZone_within y st s) (moveZone_others y st s) apart (by decide) (by decide)).testRestock y

theorem Dormant.handZone {c : ChannelId} {v : Option Nat} {failed : Bool} (h : Dormant z r free clear s) (apart : z ≠ y) :
    Dormant z r free clear (handZone c v failed s y) := by
  cases zone : s.zones.get y with
  | none => rwa [handZone_of_none zone]
  | some q =>
    have set := fun k : Zone => h.others (t := s.setZone y k) (within_zones s _) (setZone_others y k s) apart (by decide) (by decide)
    rcases handZone_ends (c := c) (v := v) (failed := failed) zone with same | ⟨-, -, n, eq⟩ | ⟨-, -, k, -, ends⟩
    · rwa [same]
    · rw [eq]
      exact set _
    · have now : (s.setZone y k).zones.get y = some k := setZone_same y k s
      have set := set k
      generalize s.setZone y k = u at set now ends
      generalize Machine.handZone c v failed s y = w at ends ⊢
      cases ends with
      | stays => exact set
      | faults cause => exact set.enterFault apart now cause
      | ready => exact set.enterReady apart
      | moves st _ => exact set.enterQuietly apart st

/-- What a zone in FAULT is, it is still after a conversion is handed to others. -/
theorem Dormant.handZones {c : ChannelId} {v : Option Nat} {failed : Bool} {ys : List ZoneId} (apart : z ∉ ys) :
    ∀ s, Dormant z r free clear s → Dormant z r free clear (ys.foldl (Machine.handZone c v failed) s) := by
  induction ys with
  | nil => exact fun _ h => h
  | cons y ys ih =>
    rw [List.mem_cons, not_or] at apart
    exact fun s h => ih apart.2 _ (h.handZone apart.1)

end

end Sys2Proof.Machine
end

section
/-! PROOF. A conversion handed to zone after zone (R56): what the whole walk leaves, and what becomes of the racks (R104, R105). -/

namespace Sys2Proof.Machine

/-! ### The racks of zones that fault -/

/-- Racks whose stage's zone is among some (R104, R105). -/
def Rack.zeroedWhere (line : DishLine) (f : ZoneId → Bool) (k : Rack) : Rack :=
  { k with
    washMin := if line.wash.any f = true ∧ k.stage = .wash then 0 else k.washMin
    rinseMin := if line.booster.any f = true ∧ k.stage = .rinse then some 0 else k.rinseMin }

/-- Whether a zone has entered FAULT on the way from one state to another. -/
def faultedBetween (s t : State) (z : ZoneId) : Bool := decide (s.zoneState z ≠ .fault ∧ t.zoneState z = .fault)

section
variable {line : DishLine} {f g : ZoneId → Bool} {s t u : State} {z y : ZoneId}

theorem Rack.zeroedWhere_none (k : Rack) : k.zeroedWhere line (fun _ => false) = k := by
  unfold Rack.zeroedWhere
  cases line.wash <;> cases line.booster <;> simp

theorem Rack.zeroedFor_eq (z : ZoneId) (k : Rack) : k.zeroedFor line z = k.zeroedWhere line (· == z) := by
  have names : ∀ o : Option ZoneId, o.any (· == z) = true ↔ o = some z := fun o => by cases o <;> simp
  simp only [Rack.zeroedFor, Rack.zeroedWhere, names]

theorem Rack.zeroedWhere_zeroedWhere (k : Rack) :
    (k.zeroedWhere line f).zeroedWhere line g = k.zeroedWhere line fun z => f z || g z := by
  have either : ∀ o : Option ZoneId, o.any (fun z => f z || g z) = (o.any f || o.any g) := fun o => by cases o <;> rfl
  simp only [Rack.zeroedWhere, either, Bool.or_eq_true]
  congr 1
  · by_cases wash : k.stage = .wash <;> by_cases first : line.wash.any f = true <;> simp [wash, first]
  · by_cases rinse : k.stage = .rinse <;> by_cases first : line.booster.any f = true <;> simp [rinse, first]

theorem faultedBetween_trans (first : s.zoneState z = .fault → t.zoneState z = .fault)
    (second : t.zoneState z = .fault → u.zoneState z = .fault) :
    (faultedBetween s t z || faultedBetween t u z) = faultedBetween s u z := by
  unfold faultedBetween
  by_cases before : s.zoneState z = .fault
  · simp [before, first before]
  · by_cases between : t.zoneState z = .fault
    · simp [before, between, second between]
    · simp [before, between]

theorem ZoneMoveOnly.line_eq (h : ZoneMoveOnly s t) : t.line = { s.line with permit := t.line.permit, racks := t.line.racks } := by
  obtain ⟨⟨_, _, _, _, _, _, _, _, _, _, _, rfl⟩, -⟩ := h
  rfl

theorem ServicedAt.fault (h : ServicedAt z s t) : t.zoneState z = .fault ↔ s.zoneState z = .fault := by
  cases zone : s.zones.get z with
  | none =>
    have none_ := h.2 zone
    rw [State.zoneState, State.zoneState, zone, none_]
  | some r =>
    obtain ⟨k, after, serviced⟩ := h.1 r zone
    rw [zoneState_of zone, zoneState_of after]
    rcases serviced.state with same | ⟨standby, preheat⟩
    · rw [same]
    · rw [standby, preheat]
      decide

/-! ### What a zone is made of -/

/-- The channel that a zone names and the load points that it lists. -/
def Zone.make (r : Zone) : ChannelId × List LoadId := (r.channel, r.loads)

theorem Zone.enter_make (r : Zone) (st : ZoneState) : (r.enter st).make = r.make := by
  obtain ⟨_, _, _, _, _, _, _, _, e⟩ := r.enter_eq st
  rw [e]
  rfl

theorem Serviced.make {r k : Zone} (h : Serviced r k) : k.make = r.make := by
  obtain ⟨n, rfl | ⟨-, t, rfl⟩ | ⟨-, rfl⟩⟩ := h
  · rfl
  · rfl
  · exact r.enter_make .preheat

theorem Zone.Tested.make {r k : Zone} (h : r.Tested k) : k.make = r.make := by
  obtain ⟨_, _, rfl⟩ := h.eq
  rfl

theorem Zone.Tested.state {r k : Zone} (h : r.Tested k) : k.state = r.state := by
  obtain ⟨_, _, rfl⟩ := h.eq
  rfl

theorem Zone.faulted_make (r : Zone) (cause : FaultCause) : (r.faulted cause).make = r.make := r.enter_make .fault

theorem Zone.faulted_state (r : Zone) (cause : FaultCause) : (r.faulted cause).state = .fault := r.enter_state .fault

/-! ### The walk -/

/-- What a conversion of a channel leaves, and what it does to the racks. -/
structure Conveyed (c : ChannelId) (s t : State) : Prop where
  touches : ZoneMoveOnly s t
  wares : t.wares = s.wares
  seats : SameSeats s t
  loads : ∀ n, (∀ z r, s.zones.get z = some r → r.channel = c → n ∉ r.loads) → t.loads.get n = s.loads.get n
  makes : ∀ z, (t.zones.get z).map Zone.make = (s.zones.get z).map Zone.make
  faults : ∀ z, s.zoneState z = .fault → t.zoneState z = .fault
  racks : t.line.racks = s.line.racks.map (·.zeroedWhere s.line (faultedBetween s t))

theorem zeroedWhere_wash {line line' : DishLine} (wash : line'.wash = line.wash) (booster : line'.booster = line.booster) (k : Rack) :
    k.zeroedWhere line' f = k.zeroedWhere line f := by
  unfold Rack.zeroedWhere
  rw [wash, booster]

theorem Conveyed.trans {c : ChannelId} (h : Conveyed c s t) (k : Conveyed c t u) : Conveyed c s u := by
  refine ⟨h.touches.trans k.touches, k.wares.trans h.wares, h.seats.trans k.seats, fun n apart => ?_,
    fun z => (k.makes z).trans (h.makes z), fun z fault => k.faults z (h.faults z fault), ?_⟩
  · refine (k.loads n fun z r zone names => ?_).trans (h.loads n apart)
    have make := h.makes z
    rw [zone] at make
    obtain ⟨q, before, same⟩ := Option.map_eq_some_iff.mp make.symm
    have channel : q.channel = r.channel := congrArg Prod.fst same
    have loads : q.loads = r.loads := congrArg Prod.snd same
    exact loads ▸ apart z q before (channel.trans names)
  · have line := h.touches.line_eq
    have wash : t.line.wash = s.line.wash := by rw [line]
    have booster : t.line.booster = s.line.booster := by rw [line]
    rw [k.racks, h.racks, List.map_map]
    refine List.map_congr_left fun rack _ => ?_
    rw [Function.comp_apply, zeroedWhere_wash wash booster, Rack.zeroedWhere_zeroedWhere]
    exact congrArg (rack.zeroedWhere s.line) (funext fun z => faultedBetween_trans (h.faults z) (k.faults z))

/-- A change in which no zone faults and the load points, the racks and the wares stay. -/
theorem Conveyed.of_calm {c : ChannelId} {bs : List Block} (touches : ZoneMoveOnly s t) (within : Within bs s t) (loads : Block.loads ∉ bs)
    (racks : Block.racks ∉ bs) (wares : t.wares = s.wares) (seats : SameSeats s t)
    (makes : ∀ z, (t.zones.get z).map Zone.make = (s.zones.get z).map Zone.make)
    (faults : ∀ z, t.zoneState z = .fault ↔ s.zoneState z = .fault) : Conveyed c s t := by
  refine ⟨touches, wares, seats, fun n _ => by rw [within.loads loads], makes, fun z => (faults z).mpr, ?_⟩
  have none_ : faultedBetween s t = fun _ => false := funext fun z => by
    unfold faultedBetween
    by_cases fault : s.zoneState z = .fault
    · simp [fault]
    · simp [fault, mt (faults z).mp fault]
  rw [none_, within.racks racks]
  exact (List.map_id' _).symm.trans (List.map_congr_left fun k _ => k.zeroedWhere_none.symm)

theorem Conveyed.refl (c : ChannelId) (s : State) : Conveyed c s s :=
  .of_calm (bs := []) (ZoneMoveOnly.refl s) (Within.refl _ s) nofun nofun rfl (.of_courses rfl) (fun _ => rfl) fun _ => Iff.rfl

theorem ServicedAt.makes (h : ServicedAt z s t) : (t.zones.get z).map Zone.make = (s.zones.get z).map Zone.make := by
  cases zone : s.zones.get z with
  | none => rw [h.2 zone]
  | some r =>
    obtain ⟨k, after, serviced⟩ := h.1 r zone
    rw [after, Option.map_some, Option.map_some, serviced.make]

/-- Each zone's make and FAULT, from the others' services and its own record. -/
theorem conveyed_zones {r k : Zone} (others : ∀ z, z ≠ y → ServicedAt z s t) (before : s.zones.get y = some r)
    (after : t.zones.get y = some k) (make : k.make = r.make) :
    (∀ z, (t.zones.get z).map Zone.make = (s.zones.get z).map Zone.make) ∧
      ((k.state = .fault ↔ r.state = .fault) → ∀ z, t.zoneState z = .fault ↔ s.zoneState z = .fault) := by
  refine ⟨fun z => ?_, fun same z => ?_⟩
  · by_cases here : z = y
    · subst here
      rw [before, after, Option.map_some, Option.map_some, make]
    · exact (others z here).makes
  · by_cases here : z = y
    · subst here
      rwa [zoneState_of before, zoneState_of after]
    · exact (others z here).fault

theorem setZone_conveyed {c : ChannelId} {r k : Zone} (before : s.zones.get y = some r) (make : k.make = r.make) (state : k.state = r.state) :
    Conveyed c s (s.setZone y k) := by
  obtain ⟨makes, faults⟩ := conveyed_zones (fun z other => (setZone_others y k s).at other) before (setZone_same y k s) make
  exact .of_calm (bs := [.zones]) (setZone_touches y k s).service.zoneMove (within_zones s _) (by decide) (by decide) rfl (.of_courses rfl) makes
    (faults (by rw [state]))

theorem seats_of_enterReady (y : ZoneId) (s : State) : SameSeats s (enterReady y s) := by
  have k := sameSeats_ops
  have readied := SameSeats.of_courses ((readied_within y s).courses (by decide))
  rw [enterReady_eq]
  split
  · exact readied.trans ((k.rerunCourses y _).trans (k.testRestock y _))
  · exact readied

theorem enterReady_conveyed {c : ChannelId} {r : Zone} (zone : s.zones.get y = some r) (sound : r.state ≠ .fault) :
    Conveyed c s (enterReady y s) := by
  obtain ⟨k, after, eq⟩ := enterReady_record zone
  have state : k.state = .ready := by
    rw [eq]
    exact r.enter_state .ready
  have make : k.make = r.make := by
    rw [eq]
    exact r.enter_make .ready
  obtain ⟨makes, faults⟩ := conveyed_zones (fun z other => enterReady_servicedAt other s) zone after make
  exact .of_calm (enterReady_touches y s).zoneMove (enterReady_touches y s).within (by decide) (by decide)
    (sameWares_served.enterReady zone sound) (seats_of_enterReady y s) makes (faults (by rw [state]; simp [sound]))

theorem enterQuietly_conveyed {c : ChannelId} {r : Zone} {st : ZoneState} (settled : st.settled) (zone : s.zones.get y = some r)
    (sound : r.state ≠ .fault) : Conveyed c s (enterQuietly y st s) := by
  have zones := (enterQuietly_entry settled zone).1
  have after : (enterQuietly y st s).zones.get y = some (r.enter st) := by rw [zones, Table.get_set_same]
  have touches := enterQuietly_touches y st s
  obtain ⟨makes, faults⟩ := conveyed_zones (fun z other => (enterQuietly_others y st s).at other) zone after (r.enter_make st)
  refine .of_calm touches.service.zoneMove touches.within (by decide) (by decide) (touches.within.wares (by decide))
    (.of_courses (touches.within.courses (by decide))) makes (faults ?_)
  rw [r.enter_state]
  exact ⟨fun fault => absurd fault settled.2.1, fun fault => absurd fault sound⟩

theorem enterFault_conveyed {c : ChannelId} {r : Zone} (zone : s.zones.get y = some r) (sound : r.state ≠ .fault) (names : r.channel = c)
    (cause : FaultCause) : Conveyed c s (enterFault y cause s) := by
  have gone := fault_departed zone
  have rest := enterFault_within y cause s
  have caused := changeZone_within y (fun r => { r with faultCause := cause }) (leaveService y .fault (endProgram endsWithFault y) s)
  have whole : Within [.zones, .paging, .ports] (leaveService y .fault (endProgram endsWithFault y) s) (enterFault y cause s) :=
    (caused.mono (by decide)).trans (rest.mono (by decide))
  have others : ∀ z, z ≠ y → ServicedAt z s (enterFault y cause s) := fun z other => enterFault_servicedAt other zone cause
  have after := enterFault_record zone cause
  obtain ⟨makes, -⟩ := conveyed_zones others zone after (r.faulted_make cause)
  refine ⟨enterFault_touches y cause s, (whole.wares (by decide)).trans gone.wares,
    gone.seats.trans (.of_courses (whole.courses (by decide))), fun n apart => ?_, makes, fun z fault => ?_, ?_⟩
  · rw [whole.loads (by decide)]
    exact (gone.frame.1 n).2 fun its => apart y r zone names its.1
  · by_cases here : z = y
    · subst here
      exact (zoneState_of after).trans (r.faulted_state cause)
    · exact (others z here).fault.mpr fault
  · rw [whole.racks (by decide), gone.racks]
    refine List.map_congr_left fun k _ => ?_
    rw [k.zeroedFor_eq]
    refine congrArg (k.zeroedWhere s.line) (funext fun z => ?_)
    unfold faultedBetween
    by_cases here : z = y
    · subst here
      rw [zoneState_of zone, zoneState_of after, r.faulted_state]
      simp [sound]
    · have same := (others z here).fault
      by_cases fault : s.zoneState z = .fault
      · simp [fault, here]
      · simp [fault, mt same.mp fault, here]

theorem handZone_conveyed (c : ChannelId) (v : Option Nat) (failed : Bool) (s : State) (y : ZoneId) :
    Conveyed c s (handZone c v failed s y) := by
  cases zone : s.zones.get y with
  | none =>
    rw [handZone_of_none zone]
    exact .refl c s
  | some r =>
    rcases handZone_ends (c := c) (v := v) (failed := failed) zone with same | ⟨-, -, n, eq⟩ | ⟨names, sound, k, tested, ends⟩
    · rw [same]
      exact .refl c s
    · rw [eq]
      exact setZone_conveyed zone rfl rfl
    · have set : Conveyed c s (s.setZone y k) := setZone_conveyed zone tested.make tested.state
      have now : (s.setZone y k).zones.get y = some k := setZone_same y k s
      have names' : k.channel = c := (congrArg Prod.fst tested.make).trans names
      have sound' : k.state ≠ .fault := tested.state ▸ sound
      generalize s.setZone y k = u at set now ends
      generalize handZone c v failed s y = w at ends ⊢
      cases ends with
      | stays => exact set
      | faults cause => exact set.trans (enterFault_conveyed now sound' names' cause)
      | ready => exact set.trans (enterReady_conveyed now sound')
      | moves st settled => exact set.trans (enterQuietly_conveyed settled now sound')

theorem handZones_conveyed (c : ChannelId) (v : Option Nat) (failed : Bool) (ys : List ZoneId) (s : State) :
    Conveyed c s (ys.foldl (handZone c v failed) s) :=
  foldl_related (Conveyed.refl c) Conveyed.trans (handZone c v failed) (handZone_conveyed c v failed) ys s

end

end Sys2Proof.Machine
end

section
/-! PROOF. An entry into FAULT seen from its zone (R76, R91, R126, R132): the record, the cuts, the task, the courses, the notice and
the raise. -/

namespace Sys2Proof.Machine

section
variable {z y : ZoneId} {r : Zone} {cause : FaultCause} {s t u w : State}

/-! ### The record -/

theorem endsWithFault_iff (st : ProgramState) : endsWithFault st = true ↔ st = .loaded ∨ st = .running ∨ st = .held := by
  cases st <;> decide

theorem ended_fault : Program.ended endsWithFault = fun g : Program =>
    if g.state = .loaded ∨ g.state = .running ∨ g.state = .held then
      { g with state := .aborted, lastRun := g.current, timer := 0 }
    else g := by
  funext g
  exact if_congr (endsWithFault_iff g.state) rfl rfl

theorem Zone.enter_fault_eq (r : Zone) : r.enter .fault = { r with
    state := .fault, soakTimer := none, recoverTimer := none, slowRaised := false, standbyTimer := none, overCount := 0, cleanCount := 0 } := by
  have kept : ∀ q : Zone, q.setActive q.active = q := fun q => if_neg (Nat.lt_irrefl _)
  exact congrArg (fun q : Zone => { q with overCount := 0, cleanCount := 0 })
    (kept { r with state := .fault, soakTimer := none, recoverTimer := none, slowRaised := false, standbyTimer := none })

theorem zoneState_fault (h : s.zoneState z = .fault) : ∃ r, s.zones.get z = some r ∧ r.state = .fault := by
  cases zone : s.zones.get z with
  | none => rw [State.zoneState, zone] at h; cases h
  | some r => exact ⟨r, rfl, (zoneState_of zone).symm.trans h⟩

/-! ### The courses released (R126, R145) -/

/-- Every live course stands in the fire order. -/
def Seated (s : State) : Prop := ∀ d, (s.course? d).isSome = true → d ∈ s.courses.order

theorem courseLaw.seated (law : courseLaw s) : Seated s := fun d => (law.2.1 d).mpr

theorem Seated.same (h : Seated s) (k : SameSeats s t) : Seated t := fun d live => by
  rw [k.order]
  exact h d ((k.live d).symm.trans live)

theorem removeEntries_unheld (seated : Seated s) (z : ZoneId) : Unheld z ((holdersOf z s).foldl (removeEntry z) s) := by
  obtain ⟨slots, eq, each⟩ := removeEntries_eq z (holdersOf z s) s
  rw [eq]
  intro d q live e mem same
  change slots.get d = some q at live
  rw [each] at live
  split at live
  · obtain ⟨p, -, rfl⟩ := Option.map_eq_some_iff.mp live
    have apart := (List.mem_filter.mp mem).2
    simp [same] at apart
  · next out =>
    refine out (List.mem_filter.mpr ⟨seated d (by rw [live]; rfl), holdsEntry_iff.mpr ⟨q, live, ?_⟩⟩)
    exact List.any_eq_true.mpr ⟨e, mem, by simpa using same⟩

/-- A cabinet released while its zone is in FAULT is held by no course. -/
theorem releaseCabinet_unheld (cabinet : s.cabinet? z ≠ none) (fault : s.zoneState z = .fault) (seated : Seated s) :
    Unheld z (releaseCabinet z s) := by
  obtain ⟨b, cabinet⟩ := Option.ne_none_iff_exists'.mp cabinet
  have state : (unreserved z b s).zoneState z = .fault := by
    rw [unreserved]
    refine (refreshStandby_zoneState z z _).trans ((setCabinet_zoneState z z _ _).trans ?_)
    exact (zoneState_congr (removeAll_zones z (holdersOf z s) s).1 z).trans fault
  have released : Unheld z (unreserved z b s) := fun d q live => by
    refine removeEntries_unheld seated z d q ?_
    rw [State.course?, ← (setCabinet_within z { b with reserved := 0 } _).courses (by decide), ← (report_within z false _).courses (by decide)]
    exact live
  obtain ⟨q, zone, its⟩ := zoneState_fault state
  have dormant : Dormant z q False True (unreserved z b s) := ⟨zone, its, nofun, fun _ => released⟩
  rw [releaseCabinet_of_some cabinet]
  exact (Dormant.fold (fun s c h => h.runPass c none false) (holdersOf z s) _ dormant).unheld trivial

theorem enterFault_unheld (zone : s.zones.get z = some r) (cabinet : s.cabinet? z ≠ none) (seated : Seated s) :
    Unheld z (enterFault z cause s) := by
  have left := leaving_within z .fault s
  have there : (leaving z .fault s).zones.get z = some (r.enter .fault) := by rw [leaving_record zone, Table.get_set_same]
  have done := endProgram_ends (ends := endsWithFault) rfl there
  have whole := enterFault_within z cause s
  have caused := changeZone_within z (fun r => { r with faultCause := cause }) (leaveService z .fault (endProgram endsWithFault z) s)
  have shape : leaveService z .fault (endProgram endsWithFault z) s =
      closeTask z .withdrawn (releaseCabinet z (endProgram endsWithFault z (leaving z .fault s))) := rfl
  have courses : (enterFault z cause s).courses = (releaseCabinet z (endProgram endsWithFault z (leaving z .fault s))).courses := by
    rw [whole.courses (by decide), caused.courses (by decide), shape, (closeTask_touches z .withdrawn _).within.courses (by decide)]
  generalize endProgram endsWithFault z (leaving z .fault s) = b at done courses
  have record : b.zones.get z = some { r.enter .fault with program := (r.enter .fault).program.map (Program.ended endsWithFault) } := by
    rw [done.zones, Table.get_set_same]
  have held : b.cabinet? z = s.cabinet? z := by
    rw [State.cabinet?, State.cabinet?, record, zone]
    simp only [Zone.enter_kind, Zone.enter_cabinet]
  have same : b.courses = s.courses := (done.within.courses (by decide)).trans (left.courses (by decide))
  have unheld := releaseCabinet_unheld (s := b) (held ▸ cabinet) ((zoneState_of record).trans (r.enter_state .fault))
    (seated.same (.of_courses same))
  intro d q live
  refine unheld d q ?_
  rw [State.course?, ← courses]
  exact live

/-- What an entry into FAULT leaves of its zone. -/
theorem enterFault_dormant {clear : Prop} (zone : s.zones.get z = some r) (held : clear → s.cabinet? z ≠ none ∧ Seated s) :
    Dormant z (r.faulted cause) True clear (enterFault z cause s) := by
  refine ⟨enterFault_record zone cause, r.faulted_state cause, fun _ => ?_, fun k => enterFault_unheld zone (held k).1 (held k).2⟩
  have free := (fault_departed zone).free
  have whole := enterFault_within z cause s
  have caused := changeZone_within z (fun r => { r with faultCause := cause }) (leaveService z .fault (endProgram endsWithFault z) s)
  rw [State.task?, whole.restock (by decide), caused.restock (by decide)]
  exact free

/-! ### The cuts, the notice and the raise -/

theorem FrameCutOnly.dark (h : FrameCutOnly s t) {n : LoadId} (none_ : remaining s.time.slice (s.loads.get n) = []) :
    remaining t.time.slice (t.loads.get n) = [] := by
  obtain ⟨time, -, which, cut⟩ := h
  by_contra some_
  refine cut.remaining_ne_nil (n := n) ?_ none_
  rw [time] at some_
  exact some_

theorem enterFault_dark (zone : s.zones.get z = some r) {n : LoadId} (mem : n ∈ r.loads) :
    remaining (enterFault z cause s).time.slice ((enterFault z cause s).loads.get n) = [] := by
  have whole := enterFault_within z cause s
  have caused := changeZone_within z (fun r => { r with faultCause := cause }) (leaveService z .fault (endProgram endsWithFault z) s)
  have departed := fault_departed zone
  have time : (enterFault z cause s).time = s.time := by
    obtain ⟨⟨_, _, _, _, _, _, _, _, _, _, _, eq⟩, -⟩ := enterFault_touches z cause s
    rw [eq]
  rw [time, whole.loads (by decide), caused.loads (by decide)]
  by_cases some_ : remaining s.time.slice (s.loads.get n) = []
  · rw [(departed.frame.1 n).2 fun h => h.2 some_]
    exact some_
  · rw [(departed.frame.1 n).1 ⟨mem, some_⟩]
    exact remaining_cutFrom _ _

theorem enterFault_noticed (zone : s.zones.get z = some r) : Noticed .zoneState z.val 7 s (enterFault z cause s) := by
  have grown := (fault_departed zone).grown
  have clock : (leaveService z .fault (endProgram endsWithFault z) s).time = s.time := by
    obtain ⟨⟨_, _, _, _, _, _, _, _, _, _, _, eq⟩, -⟩ := (fault_departed zone).touches
    rw [eq]
  rw [enterFault_eq]
  generalize leaveService z .fault (endProgram endsWithFault z) s = b at grown clock ⊢
  have caused := changeZone_within z (fun r => { r with faultCause := cause }) b
  have all := (grown.trans (.of_ports (caused.ports (by decide)))).trans
    (raise_grown cause.raised ((b.changeZone z fun r => { r with faultCause := cause }).zoneGroup z) z.val _)
  refine noticed_post .zoneState z.val 7 (fun p => (all p).role) (congrArg TimeBase.clock ?_)
  rw [(raise_touches _ _ _ _).within.time (by decide), caused.time (by decide), clock]

theorem enterFault_paged (cause : FaultCause) (s : State) : PagedOrFull cause.raised.code z.val (enterFault z cause s) := by
  rw [enterFault_eq]
  generalize (leaveService z .fault (endProgram endsWithFault z) s).changeZone z (fun r => { r with faultCause := cause }) = u
  exact PagedOrFull.of_desk (raise_paged cause.raised (u.zoneGroup z) z.val u) (post_desk _ _ _ _)

/-- A raised cause reads nothing of the state but the page queue, the roster and the kitchen clock. -/
theorem SameDesk.raise (h : SameDesk s t) (clock : t.time.clock = s.time.clock) (c : Cause) (g : PageGroup) (o : Nat) :
    SameDesk (raise c g o s) (raise c g o t) := by
  have add : ∀ {a b : State}, SameDesk a b → b.time.clock = a.time.clock →
      SameDesk (addPage c.source c.code o c.role g c.closure a) (addPage c.source c.code o c.role g c.closure b) :=
    fun k clock => ⟨by simp only [addPage, k.1, clock], k.2⟩
  have dropped : droppedFor c t = droppedFor c s := by
    unfold droppedFor
    rw [h.1]
  rw [raise_eq, raise_eq, h.1, dropped]
  split
  · exact h
  split
  · exact add h clock
  · cases droppedFor c s with
    | none => exact h
    | some p => exact add (h.closePage p .dropped) clock

theorem enterFault_desk (zone : s.zones.get z = some r) (none_ : s.cabinet? z = none) (free : s.task? z = none)
    (away : ∀ g ∈ r.program, g.state ≠ .held) :
    SameDesk (raise cause.raised r.group z.val s) (enterFault z cause s) := by
  have departed := fault_departed zone
  have desk := departed.desk none_ free away
  have clock : (leaveService z .fault (endProgram endsWithFault z) s).time = s.time := by
    obtain ⟨⟨_, _, _, _, _, _, _, _, _, _, _, eq⟩, -⟩ := departed.touches
    rw [eq]
  have record := departed.zone
  have grouped : (r.enter .fault).group = r.group := by rw [r.enter_fault_eq]
  rw [enterFault_eq]
  generalize leaveService z .fault (endProgram endsWithFault z) s = b at desk clock record ⊢
  have caused := changeZone_within z (fun r => { r with faultCause := cause }) b
  have group : (b.changeZone z fun r => { r with faultCause := cause }).zoneGroup z = r.group := by
    rw [changeZone_of record, State.zoneGroup, setZone_get, if_pos rfl]
    exact grouped
  rw [group]
  refine SameDesk.posted (SameDesk.raise (desk.trans (.of_within caused (by decide))) ?_ _ _ _) _ _ _
  rw [caused.time (by decide), clock]

end

end Sys2Proof.Machine
end

section
/-! PROOF. A reading taken by a zone (R67 to R69, R74, R75): where the over test and the window take its record. -/

namespace Sys2Proof.Machine

section
variable {z : ZoneId} {r k : Zone} {x : Nat} {s : State}

/-! ### Records alike but for what services change -/

/-- A record but for its standby timer and its cabinet. -/
def Zone.Alike (r k : Zone) : Prop := k = { r with standbyTimer := k.standbyTimer, cabinet := k.cabinet }

theorem Zone.Alike.refl (r : Zone) : r.Alike r := rfl

/-- R71, R72: services change nothing else of a zone that is not in STANDBY. -/
theorem Serviced.alike (h : Serviced r k) (awake : r.state ≠ .standby) : r.Alike k := by
  obtain ⟨n, rfl | ⟨-, t, rfl⟩ | ⟨standby, -⟩⟩ := h
  · rfl
  · rfl
  · exact absurd standby awake

/-! ### The over test (R74) -/

/-- Whether a reading lies above the over level (R74). -/
abbrev Zone.above (r : Zone) (x : Nat) : Prop := r.active + r.margin < x

theorem overTest_of_above (above : r.above x) : r.overTest x = if r.overArmed then { r with overCount := r.overCount + 1 } else r :=
  if_neg (Nat.not_le.mpr above)

theorem overTest_of_below (below : ¬ r.above x) : r.overTest x = { r with overCount := 0, overArmed := true } :=
  if_pos (Nat.not_lt.mp below)

theorem overTest_armed (r : Zone) (x : Nat) : (r.overTest x).overArmed = true ↔ r.overArmed = true ∨ ¬ r.above x := by
  by_cases above : r.above x
  · rw [overTest_of_above above]
    cases armed : r.overArmed
    · simp [armed, above]
    · simp
  · simp [overTest_of_below above, above]

theorem overTest_count (r : Zone) (x : Nat) : (r.overTest x).overCount =
    if r.above x then (if r.overArmed then r.overCount + 1 else r.overCount) else 0 := by
  by_cases above : r.above x
  · rw [overTest_of_above above, if_pos above]
    split
    · rfl
    · rfl
  · rw [overTest_of_below above, if_neg above]

/-- R74: with fewer than three counted before, the third is counted where the test is armed at two and the reading is above. -/
theorem overTest_trips (few : r.overCount < 3) : 3 ≤ (r.overTest x).overCount ↔ r.above x ∧ r.overArmed = true ∧ 2 ≤ r.overCount := by
  by_cases above : r.above x
  · rw [overTest_of_above above]
    cases armed : r.overArmed
    · simp [above, few]
    · simp [above]
  · simp [overTest_of_below above, above]

/-! ### The window (R67 to R69) -/

/-- The state that a reading takes a zone to (R67 to R69). -/
def Zone.windowed (r : Zone) (x : Nat) : ZoneState :=
  match r.state with
  | .preheat => if r.active ≤ x + r.tolerance then (if r.soakTime = 0 then .ready else .soak) else .preheat
  | .soak => if r.active ≤ x + r.tolerance then .soak else .preheat
  | .ready => if r.active ≤ x + r.tolerance then .ready else .recover
  | .recover => if r.active ≤ x + r.tolerance then .ready else .recover
  | .off => .off
  | .standby => .standby
  | .paused => .paused
  | .fault => .fault

theorem inWindow_iff : r.inWindow x = true ↔ r.active ≤ x + r.tolerance := decide_eq_true_iff

/-- Where the active setpoint is the setpoint, an entry that regulates to the setpoint lowers nothing. -/
theorem Zone.enter_level {st : ZoneState} (regulates : st = .preheat ∨ st = .soak ∨ st = .ready ∨ st = .recover)
    (level : r.active = r.setpoint) :
    (r.enter st).active = r.active ∧ (r.enter st).overArmed = r.overArmed ∧ (r.enter st).overCount = r.overCount := by
  have still : ∀ q : Zone, q.active = r.active → q.setActive r.setpoint = { q with active := r.setpoint } := fun q same =>
    if_neg (by omega)
  rcases regulates with rfl | rfl | rfl | rfl
  all_goals
    simp only [Zone.enter, Zone.setpointFor, still]
    exact ⟨level.symm, trivial, trivial⟩

/-- What a reading leaves of a zone's record: the state, and the over test where nothing was lowered. -/
structure Windowed (k : Zone) (x : Nat) (q : Zone) : Prop where
  state : q.state = k.windowed x
  level : q.state = k.state ∨ k.active = k.setpoint →
    q.active = k.active ∧ q.overArmed = k.overArmed ∧ q.overCount = k.overCount

theorem Windowed.stays (same : k.windowed x = k.state) : Windowed k x k := ⟨same.symm, fun _ => ⟨rfl, rfl, rfl⟩⟩

theorem Windowed.enters {st : ZoneState} (regulates : st = .preheat ∨ st = .soak ∨ st = .ready ∨ st = .recover)
    (reaches : k.windowed x = st) (leaves : st ≠ k.state) {q : Zone} (alike : (k.enter st).Alike q) : Windowed k x q := by
  have state : q.state = st := by
    rw [alike]
    exact k.enter_state st
  refine ⟨state.trans reaches.symm, fun how => ?_⟩
  have level := how.resolve_left fun same => leaves (state.symm.trans same)
  rw [alike]
  exact k.enter_level regulates level

theorem enterReady_windowed (zone : s.zones.get z = some k) (reaches : k.windowed x = .ready) (leaves : k.state ≠ .ready) :
    ∃ q, (enterReady z s).zones.get z = some q ∧ Windowed k x q := by
  obtain ⟨q, after, eq⟩ := enterReady_record zone
  exact ⟨q, after, .enters (.inr (.inr (.inl rfl))) reaches (Ne.symm leaves) eq⟩

theorem enterQuietly_windowed {st : ZoneState} (settled : st.settled) (zone : s.zones.get z = some k)
    (regulates : st = .preheat ∨ st = .soak ∨ st = .ready ∨ st = .recover) (reaches : k.windowed x = st) (leaves : k.state ≠ st) :
    ∃ q, (enterQuietly z st s).zones.get z = some q ∧ Windowed k x q := by
  refine ⟨k.enter st, ?_, .enters regulates reaches (Ne.symm leaves) (.refl _)⟩
  rw [(enterQuietly_entry settled zone).1, Table.get_set_same]

theorem followReading_windowed (zone : s.zones.get z = some k) (x : Nat) :
    ∃ q, (followReading z k x s).zones.get z = some q ∧ Windowed k x q := by
  have stays : k.windowed x = k.state → ∃ q, s.zones.get z = some q ∧ Windowed k x q := fun same => ⟨k, zone, .stays same⟩
  have reaches := inWindow_iff (r := k) (x := x)
  unfold followReading
  split
  · next state =>
    split
    · next inside =>
      have inside := reaches.mp inside
      split
      · next short =>
        exact enterReady_windowed zone (by simp [Zone.windowed, state, inside, short]) (by rw [state]; decide)
      · next long =>
        exact enterQuietly_windowed ⟨nofun, nofun, nofun, nofun⟩ zone (.inr (.inl rfl)) (by simp [Zone.windowed, state, inside, long])
          (by rw [state]; decide)
    · next outside => exact stays (by simp [Zone.windowed, state, mt reaches.mpr outside])
  · next state =>
    split
    · next inside => exact stays (by simp [Zone.windowed, state, reaches.mp inside])
    · next outside =>
      exact enterQuietly_windowed ⟨nofun, nofun, nofun, nofun⟩ zone (.inl rfl)
        (by simp [Zone.windowed, state, mt reaches.mpr outside]) (by rw [state]; decide)
  · next state =>
    split
    · next inside => exact stays (by simp [Zone.windowed, state, reaches.mp inside])
    · next outside =>
      exact enterQuietly_windowed ⟨nofun, nofun, nofun, nofun⟩ zone (.inr (.inr (.inr rfl)))
        (by simp [Zone.windowed, state, mt reaches.mpr outside]) (by rw [state]; decide)
  · next state =>
    split
    · next inside =>
      exact enterReady_windowed zone (by simp [Zone.windowed, state, reaches.mp inside]) (by rw [state]; decide)
    · next outside => exact stays (by simp [Zone.windowed, state, mt reaches.mpr outside])
  all_goals next state => exact stays (by simp [Zone.windowed, state])

/-! ### The reading taken (R75) -/

theorem takeReading_of_limit (over_ : r.kind.absoluteLimit < x) : takeReading z r x s = enterFault z .absolute s := if_pos over_

theorem takeReading_of_off (within : ¬ r.kind.absoluteLimit < x) (off : r.state = .off) : takeReading z r x s = s :=
  (if_neg within).trans (if_pos off)

theorem takeReading_of_trip (within : ¬ r.kind.absoluteLimit < x) (on : r.state ≠ .off) (trips : 3 ≤ (r.overTest x).overCount) :
    takeReading z r x s = enterFault z .overMargin (s.setZone z (r.overTest x)) :=
  (if_neg within).trans ((if_neg on).trans (if_pos trips))

theorem takeReading_of_window (within : ¬ r.kind.absoluteLimit < x) (on : r.state ≠ .off) (holds : ¬ 3 ≤ (r.overTest x).overCount) :
    takeReading z r x s = followReading z (r.overTest x) x (s.setZone z (r.overTest x)) :=
  (if_neg within).trans ((if_neg on).trans (if_neg holds))

/-- What a reading that trips no test leaves of a zone's record. -/
structure ReadingTaken (r : Zone) (x : Nat) (q : Zone) : Prop where
  state : q.state = r.windowed x
  level : q.state = r.state ∨ r.active = r.setpoint →
    q.active = r.active ∧ (q.overArmed = true ↔ r.overArmed = true ∨ ¬ r.above x) ∧
      q.overCount = (r.overTest x).overCount

theorem ReadingTaken.of_windowed {q : Zone} (h : Windowed (r.overTest x) x q) : ReadingTaken r x q := by
  obtain ⟨count, armed, eq⟩ := r.overTest_eq x
  have state : (r.overTest x).windowed x = r.windowed x := by
    rw [eq]
    rfl
  have fields : (r.overTest x).state = r.state ∧ (r.overTest x).active = r.active ∧ (r.overTest x).setpoint = r.setpoint := by
    rw [eq]
    exact ⟨rfl, rfl, rfl⟩
  obtain ⟨its, active, setpoint⟩ := fields
  refine ⟨h.state.trans state, fun how => ?_⟩
  obtain ⟨activeSame, armedSame, countSame⟩ := h.level (by rwa [its, active, setpoint])
  rw [activeSame, armedSame, countSame, overTest_armed]
  exact ⟨active, Iff.rfl, rfl⟩

/-- Records that services alone have changed come to the same. -/
theorem ReadingTaken.alike {q v : Zone} (h : ReadingTaken k x q) (before : r.Alike k) (after : q.Alike v) : ReadingTaken r x v := by
  rw [before] at h
  have fields : v.state = q.state ∧ v.active = q.active ∧ v.overArmed = q.overArmed ∧ v.overCount = q.overCount := by
    rw [after]
    exact ⟨rfl, rfl, rfl, rfl⟩
  obtain ⟨state, active, armed, count⟩ := fields
  refine ⟨state.trans h.state, fun how => ?_⟩
  rw [state] at how
  obtain ⟨activeSame, armedSame, countSame⟩ := h.level how
  rw [active, armed, count]
  refine ⟨activeSame, armedSame, countSame.trans ?_⟩
  rw [overTest_count, overTest_count]

end

end Sys2Proof.Machine
end

section
/-! PROOF. A conversion's walk over the zones, seen from one of them (R56): what comes before its turn, its turn and what follows. -/

namespace Sys2Proof.Machine

/-- The walk of a conversion about one zone: the zone's turn is taken in `a`. -/
structure Turn (c : ChannelId) (v : Option Nat) (failed : Bool) (z : ZoneId) (s a t : State) : Prop where
  served : ServicedAt z s a
  before : Conveyed c s a
  grown : Grown s a
  dormant : ∀ {r free clear}, Dormant z r free clear s → Dormant z r free clear a
  servedAfter : ServicedAt z (handZone c v failed a z) t
  grownAfter : Grown (handZone c v failed a z) t
  cutAfter : FrameCutOnly (handZone c v failed a z) t
  dormantAfter : ∀ {r free clear}, Dormant z r free clear (handZone c v failed a z) → Dormant z r free clear t
  alone : (∀ y q, y ≠ z → s.zones.get y = some q → q.channel ≠ c) → a = s ∧ t = handZone c v failed a z
  last : (∀ y q, z < y → s.zones.get y = some q → q.channel ≠ c) → t = handZone c v failed a z

section
variable {c : ChannelId} {v : Option Nat} {failed : Bool} {z : ZoneId} {s t : State}

/-- A walk over zones that do not name the channel does nothing. -/
theorem handZones_of_apart {ys : List ZoneId} (apart : ∀ y ∈ ys, ∀ q, s.zones.get y = some q → q.channel ≠ c) :
    ys.foldl (handZone c v failed) s = s := by
  induction ys with
  | nil => rfl
  | cons y ys ih =>
    have first : handZone c v failed s y = s := by
      cases zone : s.zones.get y with
      | none => exact handZone_of_none zone
      | some q => exact handZone_of_other zone (apart y List.mem_cons_self q zone)
    rw [List.foldl_cons, first]
    exact ih fun y mem => apart y (List.mem_cons_of_mem _ mem)

theorem Conveyed.apart (h : Conveyed c s t) {y : ZoneId} (apart : ∀ q, s.zones.get y = some q → q.channel ≠ c) (q : Zone)
    (zone : t.zones.get y = some q) : q.channel ≠ c := by
  have make := h.makes y
  rw [zone] at make
  obtain ⟨p, before, same⟩ := Option.map_eq_some_iff.mp make.symm
  have channel : p.channel = q.channel := congrArg Prod.fst same
  exact channel ▸ apart p before

theorem handZones_servicedAt {ys : List ZoneId} (apart : z ∉ ys) :
    ∀ s, ServicedAt z s (ys.foldl (handZone c v failed) s) := by
  induction ys with
  | nil => exact fun s => .of_kept rfl
  | cons y ys ih =>
    rw [List.mem_cons, not_or] at apart
    exact fun s => (handZone_servicedAt apart.1 s).trans (ih apart.2 _)

theorem handZones_grown (ys : List ZoneId) (s : State) : Grown s (ys.foldl (handZone c v failed) s) :=
  foldl_related Grown.refl Grown.trans (handZone c v failed) (fun s y => grown_zoneOps.served.handZone c v failed s y) ys s

theorem handZones_frame (ys : List ZoneId) (s : State) : FrameCutOnly s (ys.foldl (handZone c v failed) s) :=
  foldl_related FrameCutOnly.refl FrameCutOnly.trans (handZone c v failed) (handZone_frame c v failed) ys s

/-- The zones below one, it, and those above it. -/
theorem allZones_split (z : ZoneId) : ∃ below above, allZones = below ++ z :: above ∧ z ∉ below ∧ ∀ y ∈ above, z < y := by
  obtain ⟨below, above, split⟩ := List.append_of_mem (List.mem_finRange z)
  have sorted : allZones.Pairwise (· < ·) := List.pairwise_lt_finRange 32
  have split : allZones = below ++ z :: above := split
  rw [split, List.pairwise_append] at sorted
  obtain ⟨-, tail, across⟩ := sorted
  refine ⟨below, above, split, fun mem => ?_, (List.pairwise_cons.mp tail).1⟩
  exact absurd (across z mem z List.mem_cons_self) (lt_irrefl z)

theorem handZones_turn (c : ChannelId) (v : Option Nat) (failed : Bool) (z : ZoneId) (s : State) :
    ∃ a, Turn c v failed z s a (allZones.foldl (handZone c v failed) s) := by
  obtain ⟨below, above, split, out, higher⟩ := allZones_split z
  have out' : z ∉ above := fun mem => absurd (higher z mem) (lt_irrefl z)
  rw [split, List.foldl_append, List.foldl_cons]
  have conveyed := handZones_conveyed c v failed below s
  have quiet : ∀ a, Conveyed c s a → (∀ y q, z < y → s.zones.get y = some q → q.channel ≠ c) →
      above.foldl (handZone c v failed) (handZone c v failed a z) = handZone c v failed a z := fun a first apart =>
    handZones_of_apart fun y mem => (first.trans (handZone_conveyed c v failed a z)).apart (apart y · (higher y mem))
  refine ⟨below.foldl (handZone c v failed) s, handZones_servicedAt out s, conveyed, handZones_grown below s,
    fun h => h.handZones out s, handZones_servicedAt out' _, handZones_grown above _, handZones_frame above _,
    fun h => h.handZones out' _, fun apart => ⟨?_, ?_⟩, quiet _ conveyed⟩
  · exact handZones_of_apart fun y mem => (apart y · fun same => out (same ▸ mem))
  · exact quiet _ conveyed fun y q after => apart y q (ne_of_gt after)

end

end Sys2Proof.Machine
end

section
/-! PROOF. What becomes of a zone whose turn comes in a conversion (R67 to R69, R74 to R76). -/

namespace Sys2Proof.Machine

/-- What a zone of a conversion's channel is that has entered FAULT (R76, R91, R126, R132, R157). -/
def FaultedAt (c : ChannelId) (s w : State) (z : ZoneId) (r k : Zone) (cause : FaultCause) : Prop :=
  k.state = .fault ∧ k.faultCause = cause ∧
    ((r.state = .standby → ∀ y v, y ≠ z → s.zones.get y = some v → v.channel ≠ c) → k.active = r.active) ∧
    (∀ n ∈ r.loads, remaining s.time.slice (w.loads.get n) = []) ∧ Noticed .zoneState z.val 7 s w ∧
    k.soakTimer = none ∧ k.recoverTimer = none ∧ k.standbyTimer = none ∧ k.overCount = 0 ∧ k.cleanCount = 0 ∧
    k.program = r.program.map (fun g =>
      if g.state = .loaded ∨ g.state = .running ∨ g.state = .held then
        { g with state := .aborted, lastRun := g.current, timer := 0 }
      else g) ∧
    w.task? z = none ∧ w.cabinet? z = (s.cabinet? z).map (fun b => { b with reserved := 0 }) ∧
    (courseLaw s → s.cabinet? z ≠ none → ∀ d q, w.course? d = some q → ∀ e ∈ q.entries, e.1 ≠ z) ∧
    ((∀ y v, z < y → s.zones.get y = some v → v.channel ≠ c) → PagedOrFull cause.raised.code z.val w) ∧
    ((∀ y v, y ≠ z → s.zones.get y = some v → v.channel ≠ c) → s.cabinet? z = none → s.task? z = none →
      (∀ g ∈ r.program, g.state ≠ .held) →
        w.desk = (raise cause.raised r.group z.val s).desk ∧ w.roster = (raise cause.raised r.group z.val s).roster)

theorem Zone.faulted_eq (r : Zone) (cause : FaultCause) : r.faulted cause = { r with
    state := .fault, soakTimer := none, recoverTimer := none, slowRaised := false, standbyTimer := none, overCount := 0, cleanCount := 0
    program := r.program.map (Program.ended endsWithFault)
    cabinet := if r.kind = .warmer then r.cabinet.map fun c => { c with reserved := 0 } else r.cabinet
    faultCause := cause } := by
  rw [Zone.faulted, r.enter_fault_eq]

/-! ### The record at a zone's turn -/

/-- A record as services and the tests leave it. -/
structure Prepared (r k : Zone) : Prop where
  kind : k.kind = r.kind
  channel : k.channel = r.channel
  loads : k.loads = r.loads
  group : k.group = r.group
  program : k.program = r.program
  cabinet : ∃ n, k.cabinet = r.cabinet.map fun b => { b with reserved := n }

section
variable {r k q : Zone}

theorem Serviced.prepared (h : Serviced r k) : Prepared r k := by
  obtain ⟨_, _, _, _, _, _, _, _, entered⟩ := r.enter_eq .preheat
  obtain ⟨n, rfl | ⟨-, t, rfl⟩ | ⟨-, rfl⟩⟩ := h
  · exact ⟨rfl, rfl, rfl, rfl, rfl, n, rfl⟩
  · exact ⟨rfl, rfl, rfl, rfl, rfl, n, rfl⟩
  · rw [entered]
    exact ⟨rfl, rfl, rfl, rfl, rfl, n, rfl⟩

theorem Prepared.tested (h : Prepared r k) (tested : k.Tested q) : Prepared r q := by
  obtain ⟨_, _, rfl⟩ := tested.eq
  exact ⟨h.kind, h.channel, h.loads, h.group, h.program, h.cabinet⟩

theorem Zone.Tested.active (tested : k.Tested q) : q.active = k.active := by
  obtain ⟨_, _, rfl⟩ := tested.eq
  rfl

theorem Zone.Tested.cabinet (tested : k.Tested q) : q.cabinet = k.cabinet ∧ q.kind = k.kind ∧ q.program = k.program ∧ q.group = k.group := by
  obtain ⟨_, _, rfl⟩ := tested.eq
  exact ⟨rfl, rfl, rfl, rfl⟩

theorem Zone.Alike.active (h : r.Alike k) : k.active = r.active := by
  rw [h]

end

section
variable {c : ChannelId} {v : Option Nat} {failed : Bool} {z : ZoneId} {r k q : Zone} {cause : FaultCause} {s a t w : State}

/-- The zone's record at its turn. -/
theorem Turn.record (h : Turn c v failed z s a t) (zone : s.zones.get z = some r) : ∃ k, a.zones.get z = some k ∧ Serviced r k :=
  h.served.1 r zone

/-- Where no other zone can have woken it, the record at a zone's turn is the one before but for services. -/
theorem Turn.alike (h : Turn c v failed z s a t) (zone : s.zones.get z = some r) (now : a.zones.get z = some k)
    (alone : r.state = .standby → ∀ y q, y ≠ z → s.zones.get y = some q → q.channel ≠ c) : r.Alike k := by
  by_cases standby : r.state = .standby
  · rw [(h.alone (alone standby)).1, zone] at now
    cases now
    exact .refl r
  · obtain ⟨k', now', serviced⟩ := h.record zone
    cases now.symm.trans now'
    exact serviced.alike standby

/-- The record after a zone's turn stays but for services, where no other zone can wake it. -/
theorem Turn.alikeAfter (h : Turn c v failed z s a t) (rest : Within [.racks] t w)
    (there : (handZone c v failed a z).zones.get z = some q)
    (alone : q.state = .standby → ∀ y p, y ≠ z → s.zones.get y = some p → p.channel ≠ c) : ∃ k, w.zones.get z = some k ∧ q.Alike k := by
  rw [rest.zones (by decide)]
  by_cases standby : q.state = .standby
  · rw [(h.alone (alone standby)).2]
    exact ⟨q, there, .refl q⟩
  · obtain ⟨k, after, serviced⟩ := h.servedAfter.1 q there
    exact ⟨k, after, serviced.alike standby⟩

/-- R76: a zone in FAULT counts, and nothing else becomes of it. -/
theorem Turn.counted (h : Turn c v failed z s a t) (rest : Within [.racks] t w) (zone : s.zones.get z = some r) (names : r.channel = c)
    (fault : r.state = .fault) : w.zones.get z = some (r.countClean v) := by
  have before : Dormant z r False False a := h.dormant ⟨zone, fault, nofun, nofun⟩
  obtain ⟨n, counted⟩ := r.countClean_eq v
  have hand : handZone c v failed a z = a.setZone z (r.countClean v) := handZone_of_fault before.zone names fault
  have after : Dormant z (r.countClean v) False False (handZone c v failed a z) := by
    rw [hand]
    exact ⟨setZone_same z _ a, by rw [counted]; exact fault, nofun, nofun⟩
  rw [rest.zones (by decide)]
  exact (h.dormantAfter after).zone

theorem Turn.time (h : Turn c v failed z s a t) : a.time = s.time := by
  obtain ⟨⟨_, _, _, _, _, _, _, _, _, _, _, eq⟩, -⟩ := h.before.touches
  rw [eq]

theorem cabinet?_setZone (z : ZoneId) (k : Zone) (s : State) : (s.setZone z k).cabinet? z = if k.kind = .warmer then k.cabinet else none := by
  rw [State.cabinet?, setZone_same]

theorem cabinet?_of (zone : s.zones.get z = some r) : s.cabinet? z = if r.kind = .warmer then r.cabinet else none := by
  rw [State.cabinet?, zone]

theorem Prepared.cabinets (h : Prepared r k) : ∃ n, (if k.kind = .warmer then k.cabinet else none) =
    (if r.kind = .warmer then r.cabinet else none).map fun b => { b with reserved := n } := by
  obtain ⟨n, cabinet⟩ := h.cabinet
  refine ⟨n, ?_⟩
  rw [h.kind, cabinet]
  split
  · rfl
  · rfl

/-- R76: a zone that its turn puts in FAULT. -/
theorem Turn.faulted (h : Turn c v failed z s a t) (rest : Within [.racks] t w) (zone : s.zones.get z = some r)
    (now : a.zones.get z = some q) (tested : q.Tested k)
    (faults : handZone c v failed a z = enterFault z cause (a.setZone z k)) :
    w.zones.get z = some (k.faulted cause) ∧ FaultedAt c s w z r (k.faulted cause) cause := by
  obtain ⟨q', now', serviced⟩ := h.record zone
  cases now.symm.trans now'
  have prepared := serviced.prepared.tested tested
  have stands : (a.setZone z k).zones.get z = some k := setZone_same z k a
  obtain ⟨n, cabinets⟩ := prepared.cabinets
  have cabinet : (a.setZone z k).cabinet? z = (s.cabinet? z).map fun b => { b with reserved := n } := by
    rw [cabinet?_setZone, cabinets, cabinet?_of zone]
  have dormant : Dormant z (k.faulted cause) True (courseLaw s ∧ s.cabinet? z ≠ none) (handZone c v failed a z) := by
    rw [faults]
    refine enterFault_dormant stands fun ⟨law, some_⟩ => ⟨?_, ?_⟩
    · rw [cabinet]
      exact fun none_ => some_ (Option.map_eq_none_iff.mp none_)
    · exact (law.seated.same h.before.seats).same (.of_courses rfl)
  have after := h.dormantAfter dormant
  have zones := rest.zones (by decide)
  have record : w.zones.get z = some (k.faulted cause) := by
    rw [zones]
    exact after.zone
  have eq := k.faulted_eq cause
  refine ⟨record, k.faulted_state cause, rfl, fun alone => ?_, fun m mem => ?_, ?_, ?_, ?_, ?_, ?_, ?_, ?_, ?_, ?_, fun law some_ d p live => ?_,
    fun last => ?_, fun alone none_ free away => ?_⟩
  · rw [eq]
    exact tested.active.trans (h.alike zone now alone).active
  · have dark : remaining (handZone c v failed a z).time.slice ((handZone c v failed a z).loads.get m) = [] := by
      rw [faults]
      exact enterFault_dark stands (prepared.loads ▸ mem)
    have same : t.time = s.time := by
      have fault : (enterFault z cause (a.setZone z k)).time = a.time := by
        obtain ⟨⟨_, _, _, _, _, _, _, _, _, _, _, eq⟩, -⟩ := enterFault_touches z cause (a.setZone z k)
        rw [eq]
        rfl
      rw [h.cutAfter.time, faults, fault, h.time]
    have last := h.cutAfter.dark dark
    rw [same] at last
    rw [rest.loads (by decide)]
    exact last
  · have posted : Noticed .zoneState z.val 7 (a.setZone z k) (handZone c v failed a z) := by
      rw [faults]
      exact enterFault_noticed stands
    have final := (posted.grown h.grownAfter).grown (.of_ports (rest.ports (by decide)))
    exact final.from (fun p => (h.grown p).role) (congrArg TimeBase.clock h.time)
  · rw [eq]
  · rw [eq]
  · rw [eq]
  · rw [eq]
  · rw [eq]
  · rw [eq]
    dsimp only
    rw [prepared.program, ended_fault]
  · rw [State.task?, rest.restock (by decide)]
    exact after.task trivial
  · obtain ⟨m, its⟩ := prepared.cabinet
    rw [cabinet?_of record, cabinet?_of zone, eq]
    dsimp only
    rw [prepared.kind, its]
    split
    · rw [Option.map_map]
      rfl
    · rfl
  · refine after.unheld ⟨law, some_⟩ d p ?_
    rw [State.course?, ← rest.courses (by decide)]
    exact live
  · refine PagedOrFull.of_desk ?_ (rest.desk (by decide))
    rw [h.last last, faults]
    exact enterFault_paged cause _
  · obtain ⟨start, stop⟩ := h.alone alone
    subst start
    cases zone.symm.trans now
    obtain ⟨cabinetSame, kindSame, programSame, groupSame⟩ := tested.cabinet
    have none' : (a.setZone z k).cabinet? z = none := by
      rw [cabinet, none_]
      rfl
    have desk := enterFault_desk (cause := cause) stands none' free (by rw [programSame]; exact away)
    have raised : SameDesk (raise cause.raised r.group z.val a) (raise cause.raised r.group z.val (a.setZone z k)) :=
      SameDesk.raise (s := a) (t := a.setZone z k) ⟨rfl, rfl⟩ rfl _ _ _
    rw [groupSame, ← faults, ← stop] at desk
    exact raised.trans (desk.trans (.of_within rest (by decide)))

end

end Sys2Proof.Machine
end

section
/-! PROOF. One conversion of the scan, settled (04 sections 4.1 and 4.4 to 4.6). -/

namespace Sys2Proof.Machine

/-! ### A turn that faults nothing -/

section
variable {c : ChannelId} {v : Option Nat} {failed : Bool} {z : ZoneId} {r : Zone} {x : Nat} {s a t w : State}

/-- A turn that does nothing leaves the record to services. -/
theorem Turn.idle (h : Turn c v failed z s a t) (rest : Within [.racks] t w) (zone : s.zones.get z = some r)
    (nothing : handZone c v failed a z = a)
    (alone : r.state = .standby → ∀ y q, y ≠ z → s.zones.get y = some q → q.channel ≠ c) :
    ∃ k, w.zones.get z = some k ∧ r.Alike k := by
  obtain ⟨q, now, -⟩ := h.record zone
  have before := h.alike zone now alone
  have state : q.state = r.state := by rw [before]
  obtain ⟨k, after, its⟩ := h.alikeAfter rest (by rw [nothing]; exact now) fun standby => alone (state.symm.trans standby)
  refine ⟨k, after, ?_⟩
  unfold Zone.Alike at before its ⊢
  rw [before] at its
  exact its

/-- R67 to R69 and R74: a turn whose reading trips no test. -/
theorem Turn.reads (h : Turn c (some x) failed z s a t) (rest : Within [.racks] t w) (zone : s.zones.get z = some r) (names : r.channel = c)
    (sound : r.state ≠ .fault) (on : r.state ≠ .off) (within : ¬ r.kind.absoluteLimit < x) (holds : ¬ 3 ≤ (r.overTest x).overCount)
    (alone : r.state = .standby → ∀ y q, y ≠ z → s.zones.get y = some q → q.channel ≠ c) :
    ∃ k, w.zones.get z = some k ∧ ReadingTaken r x k := by
  obtain ⟨q, now, -⟩ := h.record zone
  have before := h.alike zone now alone
  have count : (q.overTest x).overCount = (r.overTest x).overCount := by
    rw [overTest_count, overTest_count, before]
  have hand : handZone c (some x) failed a z = followReading z (q.overTest x) x (a.setZone z (q.overTest x)) := by
    rw [handZone_of_reading now (by rw [before]; exact names) (by rw [before]; exact sound)]
    exact takeReading_of_window (by rw [before]; exact within) (by rw [before]; exact on) (by rwa [count])
  obtain ⟨p, there, windowed⟩ := followReading_windowed (setZone_same z (q.overTest x) a) x
  have taken := ReadingTaken.of_windowed windowed
  have taken' := taken.alike before (.refl p)
  obtain ⟨k, after, its⟩ := h.alikeAfter rest (hand ▸ there) fun standby => alone (by
    have reached := taken'.state.symm.trans standby
    unfold Zone.windowed at reached
    cases state : r.state <;> simp only [state] at reached
    case standby => rfl
    case preheat =>
      split at reached
      · split at reached <;> cases reached
      · cases reached
    case soak => split at reached <;> cases reached
    case ready => split at reached <;> cases reached
    case recover => split at reached <;> cases reached
    all_goals cases reached)
  exact ⟨k, after, taken.alike before its⟩

/-- R75: a reading above the absolute limit. -/
theorem Turn.overLimit (h : Turn c (some x) failed z s a t) (rest : Within [.racks] t w) (zone : s.zones.get z = some r)
    (names : r.channel = c) (sound : r.state ≠ .fault) (high : r.kind.absoluteLimit < x) :
    ∃ k, w.zones.get z = some k ∧ FaultedAt c s w z r k .absolute := by
  obtain ⟨q, now, serviced⟩ := h.record zone
  have prepared := serviced.prepared
  have sound' : q.state ≠ .fault := by
    rcases serviced.state with same | ⟨-, preheat⟩
    · exact same ▸ sound
    · rw [preheat]
      decide
  have hand : handZone c (some x) failed a z = enterFault z .absolute (a.setZone z q) := by
    rw [setZone_self now, handZone_of_reading now (prepared.channel.trans names) sound']
    exact takeReading_of_limit (prepared.kind ▸ high)
  exact ⟨_, h.faulted rest zone now (.inl rfl) hand⟩

/-- R74: the third reading above the over level. -/
theorem Turn.overLevel (h : Turn c (some x) failed z s a t) (rest : Within [.racks] t w) (zone : s.zones.get z = some r)
    (names : r.channel = c) (sound : r.state ≠ .fault) (on : r.state ≠ .off) (within : ¬ r.kind.absoluteLimit < x)
    (trips : 3 ≤ (r.overTest x).overCount)
    (alone : r.state = .standby → ∀ y q, y ≠ z → s.zones.get y = some q → q.channel ≠ c) :
    ∃ k, w.zones.get z = some k ∧ FaultedAt c s w z r k .overMargin := by
  obtain ⟨q, now, -⟩ := h.record zone
  have before := h.alike zone now alone
  have count : (q.overTest x).overCount = (r.overTest x).overCount := by
    rw [overTest_count, overTest_count, before]
  have hand : handZone c (some x) failed a z = enterFault z .overMargin (a.setZone z (q.overTest x)) := by
    rw [handZone_of_reading now (by rw [before]; exact names) (by rw [before]; exact sound)]
    exact takeReading_of_trip (by rw [before]; exact within) (by rw [before]; exact on) (by rwa [count])
  exact ⟨_, h.faulted rest zone now (.inr ⟨x, rfl⟩) hand⟩

/-- R56: the third rail code in a row. -/
theorem Turn.rails (h : Turn c none true z s a t) (rest : Within [.racks] t w) (zone : s.zones.get z = some r)
    (names : r.channel = c) (sound : r.state ≠ .fault) : ∃ k, w.zones.get z = some k ∧ FaultedAt c s w z r k .sensor := by
  obtain ⟨q, now, serviced⟩ := h.record zone
  have prepared := serviced.prepared
  have sound' : q.state ≠ .fault := by
    rcases serviced.state with same | ⟨-, preheat⟩
    · exact same ▸ sound
    · rw [preheat]
      decide
  have hand : handZone c none true a z = enterFault z .sensor (a.setZone z q) := by
    rw [setZone_self now, handZone_of_rail now (prepared.channel.trans names) sound']
    rfl
  exact ⟨_, h.faulted rest zone now (.inl rfl) hand⟩

/-- R56: a rail code before the third in a row. -/
theorem Turn.railed (h : Turn c none false z s a t) (rest : Within [.racks] t w) (zone : s.zones.get z = some r)
    (names : r.channel = c) (sound : r.state ≠ .fault)
    (alone : r.state = .standby → ∀ y q, y ≠ z → s.zones.get y = some q → q.channel ≠ c) :
    ∃ k, w.zones.get z = some k ∧ r.Alike k := by
  obtain ⟨q, now, -⟩ := h.record zone
  have before := h.alike zone now alone
  refine h.idle rest zone ?_ alone
  rw [handZone_of_rail now (by rw [before]; exact names) (by rw [before]; exact sound)]
  rfl

/-- R66: a zone that is OFF takes no reading within its limit. -/
theorem Turn.off (h : Turn c (some x) failed z s a t) (rest : Within [.racks] t w) (zone : s.zones.get z = some r)
    (names : r.channel = c) (off : r.state = .off) (within : ¬ r.kind.absoluteLimit < x) : ∃ k, w.zones.get z = some k ∧ r.Alike k := by
  obtain ⟨q, now, -⟩ := h.record zone
  have awake : r.state ≠ .standby := by rw [off]; decide
  have before := h.alike zone now fun standby => absurd standby awake
  refine h.idle rest zone ?_ fun standby => absurd standby awake
  rw [handZone_of_reading now (by rw [before]; exact names) (by rw [before, off]; decide)]
  exact takeReading_of_off (by rw [before]; exact within) (by rw [before]; exact off)

end

/-! ### The conversion -/

/-- The reading that a code gives, or none for a rail code (R56). -/
def reading? (code : BitVec 12) : Option Nat := if isRail code then none else some (temperature code)

/-- The state with a channel's code taken and the scan moved on (R55, R56). -/
def scanned (code : BitVec 12) (s : State) : State :=
  { s with scan := {
      channels := s.scan.channels.set s.scan.position ((s.scan.channels.get s.scan.position).convert code)
      position := s.scan.position + 1 } }

/-- Whether the rail count of the channel reaches 3 (R57). -/
def railFails (code : BitVec 12) (s : State) : Bool := decide (3 ≤ ((s.scan.channels.get s.scan.position).convert code).rail)

/-- The zones handed a conversion, before the dish line. -/
def conversionWalk (code : BitVec 12) (s : State) : State :=
  allZones.foldl (handZone s.scan.position (reading? code) (railFails code s)) (scanned code s)

section
variable (code : BitVec 12) (s : State)

theorem sensorConversion_eq : sensorConversion code s = match reading? code with
    | some x => lowerMinimums s.scan.position x (conversionWalk code s)
    | none => conversionWalk code s := by
  have handed : (if isRail code then none else some ((s.scan.channels.get s.scan.position).convert code).reading) = reading? code := by
    unfold reading? Channel.convert
    split
    · rfl
    · rfl
  unfold sensorConversion conversionWalk railFails scanned
  dsimp only
  rw [handed] <;> rfl

theorem sensorConversion_rest : Within [.racks] (conversionWalk code s) (sensorConversion code s) := by
  rw [sensorConversion_eq]
  split
  · exact lowerMinimums_within _ _ _
  · exact Within.refl _ _

theorem conversionWalk_conveyed : Conveyed s.scan.position (scanned code s) (conversionWalk code s) :=
  handZones_conveyed _ _ _ allZones _

theorem sensorConversion_zoneMove : ZoneMoveOnly (scanned code s) (sensorConversion code s) := by
  refine (conversionWalk_conveyed code s).touches.trans ?_
  rw [sensorConversion_eq]
  split
  · exact lowerMinimums_touches _ _ _
  · exact ZoneMoveOnly.refl _

end

/-! ### The racks (R104, R105) -/

/-- Racks whose stage's zone, among some, gives a reading. -/
def Rack.loweredWhere (line : DishLine) (f : ZoneId → Bool) (x : Nat) (k : Rack) : Rack :=
  { k with
    washMin := if line.wash.any f = true ∧ k.stage = .wash then min k.washMin x else k.washMin
    rinseMin := if line.booster.any f = true ∧ k.stage = .rinse then k.rinseMin.map (min x) else k.rinseMin }

/-- Racks changed in one stage, where they are. -/
theorem changeRacks_if (b : Bool) (st : Stage) (f : Rack → Rack) (u : State) :
    (if b = true then changeRacks st f u else u).line = { u.line with
      racks := u.line.racks.map fun r => if b = true ∧ r.stage = st then f r else r } := by
  cases b with
  | true =>
    simp only [true_and]
    rfl
  | false =>
    simp only [Bool.false_eq_true, false_and, if_false, List.map_id']

/-- Whether a stage's zone names a channel. -/
def namesChannel (c : ChannelId) (s : State) (zone : Option ZoneId) : Bool :=
  match zone.bind s.zones.get with
  | some r => r.channel == c
  | none => false

theorem namesChannel_eq (c : ChannelId) (s : State) (zone : Option ZoneId) :
    namesChannel c s zone = zone.any fun z => (s.zones.get z).any fun r => r.channel == c := by
  cases zone with
  | none => rfl
  | some z =>
    rw [namesChannel, Option.bind_some, Option.any_some]
    cases s.zones.get z <;> rfl

theorem lowerMinimums_eq (c : ChannelId) (x : Nat) (s : State) : lowerMinimums c x s =
    let u := if namesChannel c s s.line.wash = true then changeRacks .wash (fun r => { r with washMin := min r.washMin x }) s else s
    if namesChannel c s u.line.booster = true then
      changeRacks .rinse (fun r => { r with rinseMin := r.rinseMin.map (min x) }) u else u := rfl

theorem lowerMinimums_racks (c : ChannelId) (x : Nat) (s : State) : (lowerMinimums c x s).line.racks =
    s.line.racks.map (·.loweredWhere s.line (fun z => (s.zones.get z).any fun r => r.channel == c) x) := by
  rw [lowerMinimums_eq]
  dsimp only
  rw [changeRacks_if, changeRacks_if]
  dsimp only
  rw [List.map_map, namesChannel_eq, namesChannel_eq]
  refine List.map_congr_left fun k _ => ?_
  rw [Function.comp_apply, Rack.loweredWhere]
  generalize (s.line.wash.any fun z => (s.zones.get z).any fun r => r.channel == c) = wash
  generalize (s.line.booster.any fun z => (s.zones.get z).any fun r => r.channel == c) = booster
  obtain ⟨tag, kind, count, stage, washMin, rinseMin, verdict, entered⟩ := k
  cases stage with
  | wash => cases wash <;> simp
  | rinse => cases booster <;> simp
  | done => simp

end Sys2Proof.Machine
end

section
/-! PROOF. The conversion of the scan, clause by clause (04 sections 4.1 and 4.4 to 4.6). -/

namespace Sys2Proof.Machine

/-! ### Codes (R56) -/

/-- A rail code (R56). -/
abbrev Rails (code : BitVec 12) : Prop := code.toNat ≤ 8 ∨ 4087 ≤ code.toNat

section
variable {code : BitVec 12} {s : State}

theorem isRail_eq (code : BitVec 12) : isRail code = decide (Rails code) := (Bool.decide_or _ _).symm

theorem convert_eq (ch : Channel) (code : BitVec 12) : ch.convert code =
    if Rails code then { code := code, reading := ch.reading, rail := min 3 (ch.rail + 1) }
    else { code := code, reading := code.toNat * 25 / 32, rail := 0 } := by
  unfold Channel.convert
  rw [isRail_eq]
  by_cases rails : Rails code
  · rw [if_pos rails, if_pos (decide_eq_true rails)]
  · rw [if_neg rails, if_neg (by simpa using rails)]
    rfl

theorem reading?_rail (rails : Rails code) : reading? code = none := by
  rw [reading?, isRail_eq, if_pos (decide_eq_true rails)]

theorem reading?_reading (sound : ¬ Rails code) : reading? code = some (code.toNat * 25 / 32) := by
  rw [reading?, isRail_eq, if_neg (by simpa using sound)]
  rfl

theorem railFails_rail (rails : Rails code) : railFails code s = decide (2 ≤ (s.scan.channels.get s.scan.position).rail) := by
  rw [railFails, convert_eq, if_pos rails, decide_eq_decide]
  dsimp only
  omega

/-! ### The walk -/

theorem conversionWalk_turn (code : BitVec 12) (s : State) (z : ZoneId) :
    ∃ a, Turn s.scan.position (reading? code) (railFails code s) z (scanned code s) a (conversionWalk code s) :=
  handZones_turn _ _ _ z _

/-- R76, R91, R126, R132, R157: what is told of the state with the code taken holds of the one before. -/
theorem FaultedAt.of_scanned {c : ChannelId} {w : State} {z : ZoneId} {r k : Zone} {cause : FaultCause}
    (h : FaultedAt c (scanned code s) w z r k cause) : FaultedAt c s w z r k cause := by
  obtain ⟨state, its, active, dark, noticed, soak, recover, standby, count, clean, program, task, cabinet, courses, paged, desk⟩ := h
  refine ⟨state, its, active, dark, noticed, soak, recover, standby, count, clean, program, task, cabinet, courses, paged,
    fun alone none_ free away => ?_⟩
  have raised := SameDesk.raise (s := s) (t := scanned code s) ⟨rfl, rfl⟩ rfl cause.raised r.group z.val
  exact raised.trans (desk alone none_ free away)

/-- A zone that does not name the channel is left to services. -/
theorem Turn.apart {c : ChannelId} {v : Option Nat} {failed : Bool} {z : ZoneId} {r : Zone} {s a t : State}
    (h : Turn c v failed z s a t) (zone : s.zones.get z = some r) (other : r.channel ≠ c) : ServicedAt z s t := by
  obtain ⟨k, now, serviced⟩ := h.record zone
  have hand : handZone c v failed a z = a := handZone_of_other now (serviced.prepared.channel ▸ other)
  exact h.served.trans (hand ▸ h.servedAfter)

/-! ### The racks (R104, R105) -/

/-- Whether a zone was not in FAULT in one state and is in another. -/
theorem faulted_eq {s t : State} (defined : ∀ z, (t.zones.get z).isSome = (s.zones.get z).isSome) :
    (fun z => (s.zones.get z).any (fun r => decide (r.state ≠ .fault)) && (t.zones.get z).any fun r => decide (r.state = .fault)) =
      faultedBetween s t := by
  funext z
  have same := defined z
  unfold faultedBetween
  cases before : s.zones.get z with
  | none =>
    rw [before] at same
    have after : t.zones.get z = none := Option.isNone_iff_eq_none.mp (by simpa using same)
    have stays : t.zoneState z = .off := by rw [State.zoneState, after]
    rw [stays]
    simp
  | some r =>
    rw [before] at same
    obtain ⟨k, after⟩ := Option.isSome_iff_exists.mp same
    rw [zoneState_of before, zoneState_of after, after, Option.any_some, Option.any_some, Bool.decide_and]

/-- What a conversion makes of a rack. -/
def Rack.converted (line : DishLine) (faulted measured : Option ZoneId → Bool) (x : Nat) (k : Rack) : Rack :=
  { k with
    washMin := if k.stage ≠ .wash then k.washMin
      else if faulted line.wash then 0 else if measured line.wash then min k.washMin x else k.washMin
    rinseMin := if k.stage ≠ .rinse then k.rinseMin
      else if faulted line.booster then some 0
      else if measured line.booster then k.rinseMin.map (min x) else k.rinseMin }

theorem Rack.converted_of_lowered (line : DishLine) (f g : ZoneId → Bool) (x : Nat) (k : Rack) :
    (k.zeroedWhere line f).loweredWhere line g x = k.converted line (·.any f) (·.any g) x := by
  obtain ⟨tag, kind, count, stage, washMin, rinseMin, verdict, entered⟩ := k
  unfold Rack.zeroedWhere Rack.loweredWhere Rack.converted
  dsimp only
  cases stage with
  | wash => by_cases faults : line.wash.any f = true <;> simp [faults]
  | rinse => by_cases faults : line.booster.any f = true <;> simp [faults]
  | done => simp

theorem Rack.converted_of_zeroed (line : DishLine) (f : ZoneId → Bool) (x : Nat) (k : Rack) :
    k.zeroedWhere line f = k.converted line (·.any f) (fun _ => false) x := by
  obtain ⟨tag, kind, count, stage, washMin, rinseMin, verdict, entered⟩ := k
  unfold Rack.zeroedWhere Rack.converted
  dsimp only
  cases stage with
  | wash => by_cases faults : line.wash.any f = true <;> simp [faults]
  | rinse => by_cases faults : line.booster.any f = true <;> simp [faults]
  | done => simp

theorem Conveyed.names {c : ChannelId} {s t : State} (h : Conveyed c s t) (z : ZoneId) :
    ((t.zones.get z).any fun r => r.channel == c) = (s.zones.get z).any fun r => decide (r.channel = c) := by
  have make := h.makes z
  cases before : s.zones.get z with
  | none =>
    rw [before] at make
    rw [Option.map_eq_none_iff.mp make]
    rfl
  | some r =>
    rw [before] at make
    obtain ⟨k, after, same⟩ := Option.map_eq_some_iff.mp make
    have channel : k.channel = r.channel := congrArg Prod.fst same
    rw [after, Option.any_some, Option.any_some, channel]
    rfl

/-- Whether a stage's zone names a channel. -/
def measuredOn (c : ChannelId) (s : State) (zone : Option ZoneId) : Bool :=
  zone.any fun z => (s.zones.get z).any fun r => decide (r.channel = c)

theorem Conveyed.lowered {c : ChannelId} {s t : State} (h : Conveyed c s t) (x : Nat) : (lowerMinimums c x t).line.racks =
    s.line.racks.map (·.converted s.line (·.any (faultedBetween s t)) (measuredOn c s) x) := by
  have line := h.touches.line_eq
  have wash : t.line.wash = s.line.wash := by rw [line]
  have booster : t.line.booster = s.line.booster := by rw [line]
  have names : (fun z => (t.zones.get z).any fun r => r.channel == c) = fun z => (s.zones.get z).any fun r => decide (r.channel = c) :=
    funext h.names
  rw [lowerMinimums_racks, h.racks, List.map_map]
  refine List.map_congr_left fun k _ => ?_
  refine Eq.trans ?_ (k.converted_of_lowered s.line (faultedBetween s t) _ x)
  rw [Function.comp_apply, names, Rack.loweredWhere, Rack.loweredWhere, wash, booster]

theorem Conveyed.unlowered {c : ChannelId} {s t : State} (h : Conveyed c s t) (x : Nat) : t.line.racks =
    s.line.racks.map (·.converted s.line (·.any (faultedBetween s t)) (fun _ => false) x) := by
  rw [h.racks]
  exact List.map_congr_left fun k _ => k.converted_of_zeroed s.line _ x

theorem sensorConversion_racks (code : BitVec 12) (s : State) : (sensorConversion code s).line.racks =
    s.line.racks.map (·.converted s.line (·.any (faultedBetween s (sensorConversion code s)))
      (fun zone => !decide (Rails code) && measuredOn s.scan.position s zone) (code.toNat * 25 / 32)) := by
  have conveyed := conversionWalk_conveyed code s
  have zones := (sensorConversion_rest code s).zones (by decide)
  have faulted : faultedBetween (scanned code s) (conversionWalk code s) = faultedBetween s (sensorConversion code s) := by
    funext z
    unfold faultedBetween
    rw [zoneState_congr zones]
    rfl
  have lowered := conveyed.lowered (code.toNat * 25 / 32)
  have unlowered := conveyed.unlowered (code.toNat * 25 / 32)
  have line : (scanned code s).line = s.line := rfl
  have measured : measuredOn s.scan.position (scanned code s) = measuredOn s.scan.position s := rfl
  rw [faulted, line] at lowered unlowered
  rw [measured] at lowered
  generalize faultedBetween s (sensorConversion code s) = f at lowered unlowered ⊢
  rw [sensorConversion_eq]
  generalize conversionWalk code s = t at lowered unlowered ⊢
  by_cases rails : Rails code
  · have none_ : (fun zone => !decide (Rails code) && measuredOn s.scan.position s zone) = fun _ => false := by
      rw [decide_eq_true rails]
      rfl
    rw [reading?_rail rails, none_]
    exact unlowered
  · have all : (fun zone => !decide (Rails code) && measuredOn s.scan.position s zone) = measuredOn s.scan.position s := by
      rw [decide_eq_false rails]
      rfl
    rw [reading?_reading rails, all]
    exact lowered

end

end Sys2Proof.Machine
end

section
/-! PROOF. The conversion of the scan, settled (04 sections 4.1 and 4.4 to 4.6). -/

namespace Sys2Proof.Machine

section
variable {code : BitVec 12} {z : ZoneId} {r k : Zone} {s : State}

/-- R76: how a conversion counts, written out. -/
theorem countClean_written (r : Zone) (code : BitVec 12) : r.countClean (reading? code) = { r with
    cleanCount := if Rails code ∨ r.active + r.margin < code.toNat * 25 / 32 ∨ r.kind.absoluteLimit < code.toNat * 25 / 32 then 0
      else min 3 (r.cleanCount + 1) } := by
  by_cases rails : Rails code
  · rw [reading?_rail rails, if_pos (.inl rails)]
    rfl
  have counts : ∀ x, r.countClean (some x) =
      if x ≤ r.overLevel ∧ x ≤ r.kind.absoluteLimit then { r with cleanCount := min 3 (r.cleanCount + 1) }
      else { r with cleanCount := 0 } := fun _ => rfl
  rw [reading?_reading rails, counts]
  by_cases high : r.active + r.margin < code.toNat * 25 / 32 ∨ r.kind.absoluteLimit < code.toNat * 25 / 32
  · have out : ¬ (code.toNat * 25 / 32 ≤ r.overLevel ∧ code.toNat * 25 / 32 ≤ r.kind.absoluteLimit) := fun within =>
      high.elim (Nat.not_lt.mpr within.1) (Nat.not_lt.mpr within.2)
    rw [if_neg out, if_pos (.inr high)]
  · have low := not_or.mp high
    rw [if_pos ⟨Nat.not_lt.mp low.1, Nat.not_lt.mp low.2⟩, if_neg (not_or.mpr ⟨rails, high⟩)]

/-- A record as services leave it, written out. -/
theorem Serviced.written (h : Serviced r k) : ∃ n, k.cabinet = r.cabinet.map (fun b => { b with reserved := n }) ∧
    (k = { r with standbyTimer := k.standbyTimer, cabinet := k.cabinet } ∨
      (r.state = .standby ∧ k = { r.enter .preheat with cabinet := k.cabinet })) := by
  obtain ⟨n, rfl | ⟨-, t, rfl⟩ | ⟨standby, rfl⟩⟩ := h
  · exact ⟨n, rfl, .inl rfl⟩
  · exact ⟨n, rfl, .inl rfl⟩
  · exact ⟨n, congrArg (Option.map _) (r.enter_cabinet .preheat), .inr ⟨standby, rfl⟩⟩

theorem Zone.Alike.stays (h : r.Alike k) :
    k.state = r.state ∧ k.active = r.active ∧ k.overCount = r.overCount ∧ k.overArmed = r.overArmed := by
  rw [h]
  exact ⟨rfl, rfl, rfl, rfl⟩

theorem raised_eq (cause : FaultCause) : (if cause = .sensor then Cause.sensorFault else .zoneOvertemp) = cause.raised := by
  cases cause <;> rfl

/-- The zones' records that a conversion leaves are those behind the walk. -/
theorem sensorConversion_zones (code : BitVec 12) (s : State) : (sensorConversion code s).zones = (conversionWalk code s).zones :=
  (sensorConversion_rest code s).zones (by decide)

theorem sensorConversion_defined (code : BitVec 12) (s : State) (z : ZoneId) :
    ((sensorConversion code s).zones.get z).isSome = (s.zones.get z).isSome := by
  have make := (conversionWalk_conveyed code s).makes z
  have some_ := congrArg Option.isSome make
  rw [Option.isSome_map, Option.isSome_map] at some_
  rw [sensorConversion_zones]
  exact some_

theorem sensorConversion_apart (code : BitVec 12) (zone : s.zones.get z = some r) (other : r.channel ≠ s.scan.position) :
    ∃ k, (sensorConversion code s).zones.get z = some k ∧ Serviced r k := by
  obtain ⟨a, turn⟩ := conversionWalk_turn code s z
  rw [sensorConversion_zones]
  exact (turn.apart zone other).1 r zone

theorem sensorConversion_loads (code : BitVec 12) (s : State) {n : LoadId}
    (apart : ∀ z r, s.zones.get z = some r → r.channel = s.scan.position → n ∉ r.loads) :
    (sensorConversion code s).loads.get n = s.loads.get n := by
  rw [(sensorConversion_rest code s).loads (by decide)]
  exact (conversionWalk_conveyed code s).loads n apart

end

/-- Settles O26: the walk is split at each zone's turn; what comes before and after it is services, and its turn is one of the ends of
a conversion. -/
theorem sensorConversionMovesItsZones : Obligations.SensorConversionMovesItsZones := by
  intro code s quiet c ch rails reading
  have rest := sensorConversion_rest code s
  have conveyed := conversionWalk_conveyed code s
  refine ⟨sensorConversion code s, exec_quiet (f := sensorConversion code) rfl quiet, ?_, ?_, ?_, ?_, ?_, ?_, ?_, ?_⟩
  · have touches := sensorConversion_zoneMove code s
    unfold scanned at touches
    rw [convert_eq] at touches
    exact touches
  · intro faulted measured
    have racks := sensorConversion_racks code s
    rw [← faulted_eq (sensorConversion_defined code s)] at racks
    exact racks
  · exact (rest.wares (by decide)).trans conveyed.wares
  · exact (congrArg CourseTable.order (rest.courses (by decide))).trans conveyed.seats.order
  · exact fun n apart => sensorConversion_loads code s apart
  · intro z none_
    have defined := sensorConversion_defined code s z
    rw [none_] at defined
    exact Option.isNone_iff_eq_none.mp (by simpa using defined)
  · intro z r zone other
    obtain ⟨k, record, serviced⟩ := sensorConversion_apart code zone other
    obtain ⟨n, cabinet, how⟩ := serviced.written
    exact ⟨k, n, record, cabinet, how⟩
  · intro z r zone names
    obtain ⟨a, turn⟩ := conversionWalk_turn code s z
    have defined := sensorConversion_defined code s z
    rw [zone] at defined
    obtain ⟨k, record⟩ := Option.isSome_iff_exists.mp defined
    have itself : ∀ {P : Zone → Prop}, (∃ q, (sensorConversion code s).zones.get z = some q ∧ P q) → P k := fun ⟨q, there, holds⟩ => by
      cases record.symm.trans there
      exact holds
    refine ⟨k, record, ?_⟩
    intro above alone faults stays
    have faultsOf : ∀ cause, (∃ q, (sensorConversion code s).zones.get z = some q ∧
        FaultedAt c (scanned code s) (sensorConversion code s) z r q cause) → faults cause := fun cause ends => by
      have told := (itself ends).of_scanned
      unfold FaultedAt at told
      rw [← raised_eq] at told
      exact told
    generalize sensorConversion code s = w at *
    refine ⟨fun fault => ?_, fun sound => ⟨fun rail third => ?_, fun rail few alone => ?_, fun sane high => ?_, fun sane within off => ?_,
      fun sane within on alone few => ⟨fun above armed second => ?_, fun holds => ?_⟩⟩⟩
    · have counted := turn.counted rest zone names fault
      rw [countClean_written] at counted
      exact Option.some.inj (record.symm.trans counted)
    · rw [reading?_rail rail, railFails_rail rail, decide_eq_true third] at turn
      exact faultsOf .sensor (turn.rails rest zone names sound)
    · rw [reading?_rail rail, railFails_rail rail, decide_eq_false (Nat.not_le.mpr few)] at turn
      exact (itself (turn.railed rest zone names sound alone)).stays
    · rw [reading?_reading sane] at turn
      exact faultsOf .absolute (turn.overLimit rest zone names sound high)
    · rw [reading?_reading sane] at turn
      exact (itself (turn.off rest zone names off (Nat.not_lt.mpr within))).stays
    · rw [reading?_reading sane] at turn
      exact faultsOf .overMargin (turn.overLevel rest zone names sound on (Nat.not_lt.mpr within)
        ((overTest_trips few).mpr ⟨above, armed, second⟩) alone)
    · rw [reading?_reading sane] at turn
      obtain ⟨state, level⟩ := itself (turn.reads rest zone names sound on (Nat.not_lt.mpr within)
        (mt (overTest_trips few).mp holds) alone)
      refine ⟨state, fun how => ?_⟩
      obtain ⟨active, armed, count⟩ := level how
      exact ⟨active, armed, count.trans (overTest_count r reading)⟩

end Sys2Proof.Machine
end
